-- ==== Sys2Proof/Word.lean ====
section
/-! DEFINITION. The word types of the KZ9-48: 16-bit registers and space words, 32-bit values held in
L/H pairs (00_scope R7, R8) and the angle word (R12). -/

namespace Sys2Proof

/-- A register or a space word (03 R94, R109). -/
abbrev Word := BitVec 16

/-- A 32-bit value carried by an L and an H register (R8); also an angle word (R12). -/
abbrev DWord := BitVec 32

/-- A device ID of the Seam network (15 R538). -/
abbrev DevId := BitVec 10

/-- Bits [15:0] of a 32-bit value (R8). -/
def loWord (v : DWord) : Word := v.extractLsb' 0 16

/-- Bits [31:16] of a 32-bit value (R8); of an angle word this is its ang16 (R13). -/
def hiWord (v : DWord) : Word := v.extractLsb' 16 16

/-- The 32-bit value with the given halves (R8). -/
def joinWords (lo hi : Word) : DWord := hi ++ lo

/-- One bit as a 16-bit register value in bit position `n`. -/
def flagBit (b : Bool) (n : Nat) : Word := if b then 1#16 <<< n else 0#16

end Sys2Proof
end

