-- ==== Sys2Proof/Syntax.lean ====
section
/-! DEFINITION. The commands of the KZ9-48: one constructor of `Instr` for each row of
spec/opcode_table.json, and the types of their operands. The table gives the rows no bits, so the
operands are those the rule of each row names (log entry 1). -/

namespace Sys2Proof

/-- A message of the Seam network (15 Table 15.5). `payload` holds the payload bytes in order. -/
structure Msg where
  dst : DevId
  broadcast : Bool
  /-- the reserved bits: [15:11] of the DST word, [15:10] of the SRC word, bytes 12-15; a set bit is a FORMAT error
  (Table 15.6) -/
  rsvDst : BitVec 5
  rsvSrc : BitVec 6
  rsv : DWord
  src : DevId
  kind : BitVec 8
  len : BitVec 8
  sess : BitVec 8
  seq : BitVec 8
  epoch : Word
  status : BitVec 8
  ttl : BitVec 8
  payload : List (BitVec 8)
  deriving DecidableEq, Repr

/-- An angle slot of a Seam frame (15 Table 15.2). -/
structure AngleSlot where
  ch : BitVec 6
  seq : BitVec 8
  free : Bool
  hops : BitVec 8
  src : DevId
  trip : Bool
  run : Bool
  gstop : Bool
  formed : Bool
  aux : Word
  info : Word
  angle : DWord
  speed : DWord
  stamp : DWord
  deriving DecidableEq, Repr

/-- A roll-call slot of a Seam frame (15 Table 15.4). -/
structure RollEntry where
  dev : DevId
  epoch : Word
  age : BitVec 8
  cls : BitVec 8
  gang : BitVec 8
  status : BitVec 8
  hops : BitVec 8
  serialLo : Word
  deriving DecidableEq, Repr

/-- The tree block of a Seam frame (15 Table 15.1). -/
structure TreeBlock where
  prio : BitVec 8
  serial : BitVec 48
  hops : BitVec 8
  rseq : BitVec 8
  noRoot : Bool
  deriving DecidableEq, Repr

/-- The time block of a Seam frame (15 Table 15.1). -/
structure TimeBlock where
  txTime : BitVec 64
  rxTime : BitVec 64
  rxCycle : Word
  tstate : BitVec 2
  deriving DecidableEq, Repr

/-- The content of a Seam frame (15 Table 15.1). -/
structure SeamFrame where
  format : BitVec 4
  sender : DevId
  senderPort : BitVec 2
  parent : Bool
  noId : Bool
  cycle : Word
  tree : TreeBlock
  time : TimeBlock
  slots : List AngleSlot
  roll : Option RollEntry
  msg : Option Msg
  deriving DecidableEq, Repr

/-- A Seam frame as it arrives: its bytes 1 to 291 (15 Table 15.1) and the receiver's Seam time at its start, t4 of
R521. -/
structure RxFrame where
  arrival : BitVec 64
  bytes : List (BitVec 8)
  deriving DecidableEq, Repr

/-- A unit of a targeted test (16 Table 16.2): the test kind and the index. -/
structure TestUnit where
  kind : Nat
  index : Nat
  deriving DecidableEq, Repr

/-- The A and B levels that a capture sample shows (12 R413). -/
structure AbSample where
  a : Bool
  b : Bool
  deriving DecidableEq, Repr

/-- A stage current measured in the test of a gate channel (16 Table 16.2), in milliamperes: stage 1 and 2 of turn-on (0,
1) and of turn-off (2, 3). -/
structure StageReading where
  stage : Fin 4
  current : Nat
  deriving DecidableEq, Repr

/-- What the test of a gate channel measures (16 Table 16.2): its stage currents, whether it detects desaturation 0.5 V
above and 0.5 V below DSTH, VGATE at each rail in 0.1 V, and whether the clamp engages. -/
structure ChannelTest where
  stages : List StageReading
  above : Bool
  below : Bool
  onGate : Int
  offGate : Int
  clamp : Bool
  deriving DecidableEq, Repr

/-- What the test of a gate supply measures (16 Table 16.2), in millivolts: its rails, and the magnitudes at which its
undervoltage comparators switch. -/
structure SupplyTest where
  onRail : Int
  offRail : Int
  onTrip : Nat
  offTrip : Nat
  deriving DecidableEq, Repr

/-- One conversion of the test of a SAR or witness converter (13 R466): the level it was made at, of the three that the
test applies in their order, and the input-referred error of the converter in microvolts. -/
structure TestReading where
  level : Fin 3
  dev : Int
  deriving DecidableEq, Repr

/-- One run of the test pattern of a demodulator (13 R468): its density, of the three that the test applies in their order,
and the pattern's bits, oldest first, as they reach the filters. -/
structure PatternReading where
  level : Fin 3
  stream : List Bool
  deriving DecidableEq, Repr

/-- What a targeted test measured (16 Table 16.2), by its kind. -/
inductive TestRun where
  /-- kind 0 -/
  | channel (t : ChannelTest)
  /-- kind 1 -/
  | supply (t : SupplyTest)
  /-- kinds 2 and 3 -/
  | converter (l : List TestReading)
  /-- kind 4 -/
  | demodulator (l : List PatternReading)
  /-- kind 5: the AB states of the edge generator from its first on, and the change of count and phase errors found -/
  | feedback (gen : List AbSample) (count : Int) (phase : Nat)
  /-- kind 6: the value at which the trip output changed, and after how many nanoseconds -/
  | overCurrent (changedAt delayNs : Nat)
  /-- kind 7: the results at which the OV and the UV output changed -/
  | dcLink (ov uv : Nat)
  /-- kind 8: the results of the engine, each beside Triter's reference -/
  | engine (results : List (DWord × DWord))
  /-- kind 9: whether each test frame passed its CRC, and the link came up again -/
  | seamPort (frames : List Bool) (linkUp : Bool)
  /-- kind 10: what was written to the test cell, and what it then read -/
  | store (wrote read : Word)
  /-- kind 11: the rates at which the domain was seen to beat, in thousandths of its nominal rate -/
  | domain (rates : List Nat)
  deriving DecidableEq, Repr

/-- A self-test that boot or a wake runs (04 R127): the unit, what the test measured, and the first failing measurement
in the unit's scale, if one failed (16 Table 16.5). -/
structure SelfTest where
  unit : TestUnit
  run : TestRun
  firstFail : Word
  deriving DecidableEq, Repr

/-- The writes of boot step 6 that fail their verify (17 R587): counters of those it increments, blocks of the log erase, a
header write, and log entries, by their place among those written. -/
structure StoreEnv where
  counters : List Nat
  blocks : List Nat
  header : Bool
  entries : List Nat
  deriving DecidableEq, Repr

/-- What a boot meets that the stored state does not hold: OTP rows that fail to read (04 R135), what its self-tests
measure (R132), and store writes that fail. `stopAt` is the step in which boot then stands, 8 where it runs until its gate
closes (log entry 82). -/
structure BootEnv where
  badRows : List Nat
  tests : List SelfTest
  store : StoreEnv
  stopAt : Nat
  deriving DecidableEq, Repr

/-- A sample of the Z input of an interface: the level of its pin (12 R420). -/
structure IndexSample where
  itf : Fin 8
  z : Bool
  deriving DecidableEq, Repr

/-- The voltages that a conversion meets (13 R440, R441), in microvolts: those of the analogue pins, by pin number, and
the input-referred error of the converter. -/
structure AnalogIn where
  pins : List (Nat × Nat)
  dev : Int
  deriving DecidableEq, Repr

/-- The window words a window address write addresses (02 Table 2.16). -/
inductive WinAddrReg where
  | space
  | addrL
  | addrH
  deriving DecidableEq, Repr

/-- Which window an access works on: a window of the register map or the WIN2 copy of a Seam
session (02 R82, R83, 15 R546). -/
inductive WinSel where
  | port (n : Fin 4)
  | session (k : Fin 4)
  deriving DecidableEq, Repr

/-- Which supply is lost (01 R39). -/
inductive Rail where
  | vaux
  | vio
  deriving DecidableEq, Repr

/-- The kinds of gang alert (15 R552). -/
inductive AlertKind where
  | trip
  | config
  | broken
  deriving DecidableEq, Repr

/-- The commands. Host frames carry the 4-bit TAG of their request (02 Table 2.4). -/
inductive Instr where
  -- host port
  | hostFrameAborted
  | registerWrite (tag : BitVec 4) (rsv : BitVec 2) (addr : BitVec 9) (data : Word) (crc : BitVec 8)
  | clearOnRead (tag : BitVec 4) (addr : BitVec 9)
  | latchedRead (tag : BitVec 4) (addr : BitVec 9)
  | sysKeyWrite (tag : BitVec 4) (data : Word)
  | keyExpiry (sess : Option (Fin 4))
  | windowAddressWrite (tag : BitVec 4) (win : Fin 4) (reg : WinAddrReg) (data : Word)
  | windowCountWrite (tag : BitVec 4) (win : Fin 4) (data : Word)
  | windowStop (tag : BitVec 4) (win : Fin 4) (inc : Bool)
  | windowDataRead (tag : BitVec 4) (win : Fin 4)
  | windowDataWrite (tag : BitVec 4) (win : Fin 4) (data : Word)
  | windowFetchDone (win : WinSel)
  | windowWriteDone (win : WinSel) (verified : Bool)
  -- commit
  | commit (tag : BitVec 4) (upper : BitVec 14)
  | check (tag : BitVec 4) (upper : BitVec 14)
  | revert (tag : BitVec 4) (upper : BitVec 14)
  | revertDone
  | fitCheckDone
  | commitApply
  -- power, reset, boot
  | powerRequestRun (tag : BitVec 4)
  | powerRequestStandby (tag : BitVec 4)
  | powerRequestSleep (tag : BitVec 4)
  | powerTransitionDone (tests : List SelfTest)
  | supplyLoss (rail : Rail)
  | powerOnReset (rstn : Bool)
  | rstnReset (lowNs : Nat)
  | hostReset (tag : BitVec 4)
  | backupEnd
  | bootStart (env : BootEnv)
  | bootWatchTimeout
  -- supervisor
  | watchdogTimeout
  | watchdogEarlyService
  | coreRailFault
  | vauxHighTrip
  | vauxHighRelease
  | temperatureTrip
  | temperatureRelease
  | stoPathCheckFail (path : Fin 2)
  | heartbeatCheck (silent : List Nat)
  -- axis control
  | axisEnable (tag : BitVec 4) (ax : Fin 8)
  | axisDisable (tag : BitVec 4) (ax : Fin 8)
  | axRunStart (tag : BitVec 4) (ax : Fin 8)
  | axRunStop (tag : BitVec 4) (ax : Fin 8)
  | axRunHold (tag : BitVec 4) (ax : Fin 8)
  | axRunProbe (tag : BitVec 4) (ax : Fin 8)
  | axPerWrite (tag : BitVec 4) (ax : Fin 8) (data : Word)
  | axCmpWrite (tag : BitVec 4) (ax : Fin 8) (leg : Fin 3) (data : Word)
  | axForceWrite (tag : BitVec 4) (ax : Fin 8) (data : Word)
  | tripClear (tag : BitVec 4) (ax : Fin 8)
  -- faults, pins, OTP, store
  | fltAck (tag : BitVec 4) (data : Word)
  | stestReq (tag : BitVec 4) (data : Word)
  | pinDataWrite (tag : BitVec 4) (bank : Fin 4) (data : Word)
  | pinMaskedWrite (tag : BitVec 4) (bank : Fin 4) (high : Bool) (mask value : BitVec 8)
  | pinLock (tag : BitVec 4) (data : Word)
  | otpProgram (tag : BitVec 4) (addr : BitVec 13)
  | otpFetchDone
  | otpDataWord (tag : BitVec 4) (data : Word)
  | otpLockWrite (tag : BitVec 4) (arg : BitVec 13)
  | otpLockRead (tag : BitVec 4) (arg : BitVec 13)
  | otpAdvance (tag : BitVec 4) (arg : BitVec 13)
  | otpBurnDone (verified : Bool)
  | otpRedirectionDone (failedSpares : List Nat)
  | otpDataPhaseExpiry
  | calstore (tag : BitVec 4) (arg : BitVec 12)
  | bankWriteDone (verified : Bool)
  | stagingBegin (tag : BitVec 4) (arg : BitVec 12)
  | stagingBeginDone (verified : Bool)
  | stagingSeal (tag : BitVec 4) (arg : BitVec 12)
  | stagingWithdraw (tag : BitVec 4) (arg : BitVec 12)
  | stagingRequest (tag : BitVec 4) (arg : BitVec 12)
  | headerWriteDone (verified : Bool)
  | stagingSessionTimeout
  | backupAcknowledge (tag : BitVec 4) (data : Word)
  | proofTestRequest (tag : BitVec 4) (win : Fin 4) (data : Word)
  | proofTestUnitPhaseEnd
  | proofTestStoTimeout
  | inspectionMark (tag : BitVec 4) (win : Fin 4) (data : Word)
  | feedbackPreset (tag : BitVec 4) (win : Fin 4) (data : Word)
  | coefficientPairWrite (tag : BitVec 4) (win : Fin 4) (data : Word)
  | seamOutboxSend (tag : BitVec 4) (win : Fin 4) (data : Word)
  | seamInboxRelease (tag : BitVec 4) (win : Fin 4) (data : Word)
  -- stitch engine
  | stitchDue (slot : Fin 1024)
  | stitchRearm (slot : Fin 1024)
  | nop (lane : Fin 8)
  | commute (lane : Fin 8)
  | cnvStart (lane : Fin 8)
  | sigSet (lane : Fin 8)
  | sigClear (lane : Fin 8)
  | sigToggle (lane : Fin 8)
  | hostIrq (lane : Fin 8)
  | injOn (lane : Fin 8)
  | injOff (lane : Fin 8)
  | spacingRearm (lane : Fin 8)
  | seamPub (lane : Fin 8)
  | carrierResync (lane : Fin 8)
  | tally (lane : Fin 8)
  | tallyStoreWrite (verified : Bool)
  -- axis engine and converters
  | carrierPeriodStart (ax : Fin 8)
  | triggerCompare (ax : Fin 8) (m : Fin 4)
  | sarSlotEnd (conv : Fin 16) (volts : AnalogIn) (devWitness : Int)
  | sarResultHandover (conv : Fin 16)
  | bemfCrossingTimeout (ax : Fin 8)
  | mainPathResult (d : Fin 24) (stream : List Bool)
  | fastPathResult (d : Fin 24) (stream : List Bool)
  | streamStuck (d : Fin 24)
  -- gate side, trips
  | desatDetect (ch : Fin 48)
  | softTurnoffEnd (ch : Fin 48)
  | supplyUndervoltage (sup : Fin 32) (offRail : Bool)
  | gateVoltageFault (ch : Fin 48) (vgate : Word)
  | channelTemperatureMeasure (ch : Fin 48) (temp : Word)
  | externalTripInput (k : Fin 4)
  | tripSourceQuiet (ax : Fin 8)
  | stoInputChange (which : Fin 2) (high : Bool)
  | stoDemand
  | stoSingleInputTimeout (which : Fin 2)
  | stoDiscrepancy (which : Fin 2)
  -- angles and ladder
  | sourceOverSpeed (src : Fin 32)
  | mainsLock (m : Fin 2)
  | mainsOutOfRange (m : Fin 2) (freq : Word)
  | ladderUpgrade (ax : Fin 8)
  | blendComplete (ax : Fin 8)
  | probeHoldExpiry (ax : Fin 8)
  | probePulseTiming (ax : Fin 8)
  | probeAttemptEnd (ax : Fin 8)
  | brakeRelease (ax : Fin 8)
  | brakeTimeEnd (ax : Fin 8)
  | commandInputEdge (ax : Fin 8) (periodTicks highTicks : Nat)
  | commandLoss (ax : Fin 8)
  | commandRestore (ax : Fin 8)
  | lockedRotor (ax : Fin 8)
  -- feedback
  | quadEdge (itf : Fin 8) (ab : AbSample) (sub : Nat)
  | indexEvent (sample : IndexSample)
  | hitPulseEnd (itf : Fin 8)
  | countWindowEnd (itf : Fin 8)
  | speedZeroTimeout (itf : Fin 8)
  | lineFault (rx : Fin 16)
  -- pins, backup
  | pinInputChange (bank : Fin 4) (levels : Word)
  | wakePin (p : Fin 16)
  -- Seam
  | seamCycleStart
  | gangStaleTimeout
  | seamLinkUp (port : Fin 4)
  | seamLinkDown (port : Fin 4)
  | seamFrameReceived (port : Fin 4) (frame : RxFrame)
  | seamAlertReceived (port : Fin 4) (gang : BitVec 8) (kind : AlertKind)
  | openMsg (port : Fin 4) (msg : Msg)
  | closeMsg (port : Fin 4) (msg : Msg)
  | request (port : Fin 4) (msg : Msg)
  | response (port : Fin 4) (msg : Msg)
  | note (port : Fin 4) (msg : Msg)
  | messageRelay (port : Fin 4) (msg : Msg)
  | sessionTimeout (sess : Fin 4)
  -- faults, store, backup, the rest
  | testComplete (unit : TestUnit) (run : TestRun) (firstFail : Word)
  | faultLogWrite (verified : Bool)
  | watchStrobe (ab : AbSample)
  | vbakLowAlarm
  | coverAlarm
  | rtcWake
  | backupDomainRestart
  | requestCrcMismatch (frame : BitVec 40)
  | angleEngineStep
  | mainsTrackerSample (m : Fin 2)
  | supervisorMonitorConversion (temp vaux vbak : Word)
  | supervisorDomainCheck (ok : Bool)
  | vbakLoss
  | watchCarryApply
  | runTimeIncrement (ax : Fin 8)
  | firmwareSignalUpdate
  | stoHardwarePathAct (which : Fin 2)
  | proofTestStoSample
  | externalTripInputInactive (k : Fin 4)
  | gateSupplyRecovery (sup : Fin 32)
  | gateVoltageMismatchEnd (ch : Fin 48)
  | lineFaultClear (rx : Fin 16)
  deriving DecidableEq, Repr

end Sys2Proof
end

