-- ==== Sys2Proof/WellFormed.lean ====
section
/-! DEFINITION. Which commands are well formed: operands that the types of Syntax.lean admit and the spec
does not. -/

namespace Sys2Proof

/-- A message slot carries at most 48 payload bytes (15 Table 15.5). -/
def Msg.wf (m : Msg) : Bool := m.payload.length ≤ 48

/-- A frame carries eight angle slots (15 Table 15.1), and its message is well formed. -/
def SeamFrame.wf (f : SeamFrame) : Bool :=
  f.slots.length ≤ 8 && (match f.msg with | none => true | some m => m.wf)

/-- A frame that arrives has the bytes of Table 15.1 between its start and its end. -/
def RxFrame.wf (f : RxFrame) : Bool := f.bytes.length = 291

/-- The number of units of each test kind (16 Table 16.2). -/
def unitCount : Nat → Nat
  | 0 => 48
  | 1 => 32
  | 2 => 16
  | 3 => 4
  | 4 => 24
  | 5 => 8
  | 6 => 24
  | 7 => 8
  | 8 => 9
  | 9 => 4
  | 10 => 1
  | 11 => 216
  | _ => 0

/-- A unit named by a test kind and an index within the kind's range (16 Table 16.2). -/
def TestUnit.wf (u : TestUnit) : Bool := u.index < unitCount u.kind

/-- What a test measured is of the kind of its unit. -/
def TestRun.fits (k : Nat) : TestRun → Bool
  | .channel _ => k == 0
  | .supply _ => k == 1
  | .converter _ => k == 2 || k == 3
  | .demodulator _ => k == 4
  | .feedback _ _ _ => k == 5
  | .overCurrent _ _ => k == 6
  | .dcLink _ _ => k == 7
  | .engine _ => k == 8
  | .seamPort _ _ => k == 9
  | .store _ _ => k == 10
  | .domain _ => k == 11

/-- A self-test is of a unit that exists. -/
def SelfTest.wf (t : SelfTest) : Bool := t.unit.wf && t.run.fits t.unit.kind

/-- A boot meets OTP rows 0 to 255 and units that exist. -/
def BootEnv.wf (e : BootEnv) : Bool := e.badRows.all (· < 256) && e.tests.all SelfTest.wf

/-- Well-formed commands. -/
def Instr.wf : Instr → Bool
  | .bootStart env => env.wf
  | .powerTransitionDone tests => tests.all SelfTest.wf
  | .heartbeatCheck silent => silent.all (· < 216)
  | .otpRedirectionDone failedSpares => failedSpares.all (· < 16)
  | .commandInputEdge _ periodTicks highTicks => highTicks ≤ periodTicks
  | .quadEdge _ _ sub => sub < 20
  | .seamFrameReceived _ frame => frame.wf
  | .openMsg _ msg => msg.wf
  | .closeMsg _ msg => msg.wf
  | .request _ msg => msg.wf
  | .response _ msg => msg.wf
  | .note _ msg => msg.wf
  | .messageRelay _ msg => msg.wf
  | .testComplete unit run _ => unit.wf && run.fits unit.kind
  | _ => true

end Sys2Proof
end

