-- ==== Sys2Proof/Decode.lean ====
section
/-! DEFINITION. Decoding of command words. spec/opcode_table.json gives no row any bits ("fields" is empty
in all 173), so no word spells a command (log entry 1). -/

namespace Sys2Proof

/-- The command a word spells by the bits of spec/opcode_table.json: none, because no row has bits. -/
def decodeTableWord (_nbits _w : Nat) : Option Instr := none

end Sys2Proof
end

