-- ==== Sys2Proof/Machine/Trig.lean ====
section
/-! DEFINITION. The mathematics the rules name: square root, sine and cosine of an angle word, arc tangent and
arc cosine. Sines are in units of 2^-48 by the power series, and inverse functions are the largest angle whose
sine and cosine do not pass the operand (log entry 15). -/

namespace Sys2Proof.Machine

/-- Bits of a square root from bit `k - 1` down, `r` being the bits found. -/
def sqrtBits (n : Nat) : Nat → Nat → Nat
  | 0, r => r
  | k + 1, r => if (r + 2 ^ k) * (r + 2 ^ k) ≤ n then sqrtBits n k (r + 2 ^ k) else sqrtBits n k r

/-- floor(sqrt n) for n below 2^256. -/
def isqrt (n : Nat) : Nat := sqrtBits n 128 0

/-- The unit of sines and cosines. -/
def one48 : Int := 2 ^ 48

/-- The sum of a power series: from a term `t` on, each next term is the previous times -x^2 / ((i+1)(i+2)). -/
def seriesSum (x2 : Int) : Nat → Nat → Int → Int
  | 0, _, _ => 0
  | k + 1, i, t => t + seriesSum x2 k (i + 2) (-(t * x2 / (one48 * ((i + 1) * (i + 2) : Nat))))

/-- An angle word below a quarter turn, in radians in units of 2^-48; 2 pi is 6.283185307179586477. -/
def radians (a : Nat) : Int := (a : Int) * 6283185307179586477 * 2 ^ 16 / 10 ^ 18

/-- The sine of an angle word of at most a quarter turn. -/
def sinQuarter (a : Nat) : Int :=
  let x := radians a
  seriesSum (x * x / one48) 12 1 x

/-- The cosine of an angle word of at most a quarter turn. -/
def cosQuarter (a : Nat) : Int :=
  let x := radians a
  seriesSum (x * x / one48) 12 0 one48

/-- A quarter turn as an angle word. -/
def quarter : Nat := 2 ^ 30

/-- The sine of an angle word. -/
def sinWord (a : DWord) : Int :=
  let n := a.toNat
  let r := n % quarter
  match n / quarter with
  | 0 => sinQuarter r
  | 1 => cosQuarter r
  | 2 => -sinQuarter r
  | _ => -cosQuarter r

/-- The cosine of an angle word. -/
def cosWord (a : DWord) : Int := sinWord (a + 0x40000000#32)

/-- Bits of an arc tangent within a quarter turn: the largest angle `a` with sin a * x <= cos a * y. -/
def atanBits (y x : Int) : Nat → Nat → Nat
  | 0, r => r
  | k + 1, r =>
    let a := r + 2 ^ k
    if sinQuarter a * x ≤ cosQuarter a * y then atanBits y x k a else atanBits y x k r

/-- The angle word of the vector (x, y), truncated. -/
def atan2Word (y x : Int) : DWord :=
  if y = 0 ∧ x = 0 then 0
  else if 0 ≤ y ∧ 0 < x then BitVec.ofNat 32 (atanBits y x 30 0)
  else if 0 < y ∧ x ≤ 0 then BitVec.ofNat 32 (quarter + atanBits (-x) y 30 0)
  else if y ≤ 0 ∧ x < 0 then BitVec.ofNat 32 (2 * quarter + atanBits (-y) (-x) 30 0)
  else BitVec.ofNat 32 (3 * quarter + atanBits x (-y) 30 0)

/-- Bits of an arc cosine within a quarter turn: the largest angle whose cosine is at least `v`. -/
def acosBits (v : Int) : Nat → Nat → Nat
  | 0, r => r
  | k + 1, r => if v ≤ cosQuarter (r + 2 ^ k) then acosBits v k (r + 2 ^ k) else acosBits v k r

/-- The angle word of an arc cosine between 0 and a quarter turn, `v` in units of 2^-48. -/
def acosWord (v : Int) : Nat := acosBits v 30 0

end Sys2Proof.Machine
end

