-- ==== Sys2Proof/Config.lean ====
section
/-! DEFINITION. What an implementation fixes and what the manual leaves open. Every constant here is
opaque: no proof can see a value of it, so a claim holds whatever the silicon holds. -/

namespace Sys2Proof.Config

/-- SYS_DIEREV.MELLUX, "Fixed" (05 Table 5.12). -/
opaque dieRev : BitVec 4

/-- SYS_ROMREL, "Fixed" (05 Table 5.12). -/
opaque romRel : Word

/-- The ROM base compatibility class, word 0x001 of space 0x0E (05 Table 5.15). -/
opaque romClass : BitVec 8

/-- The ROM Dalug mask, word 0x002 of space 0x0E (05 Table 5.15). -/
opaque romDalugMask : Word

/-- The revision of Dalug die `n` (05 Table 5.15, words 0x010-0x017). -/
opaque dalugRev : Nat → BitVec 4

/-- FREE VALUE: whether a low on RSTN between 100 ns and 1 us resets the module (04 R117). -/
opaque rstnShort : Nat → Bool

/-- FREE VALUE: the injection tracking loop of 11 R401 (critically damped, second order, bandwidth
INJBW; the manual gives no coefficients). Operands: angle word, speed in mHz, INJERR in ang16, INJBW
in Hz and the injection period in ticks; results: the new angle word and speed. -/
opaque injLoop : DWord → Int → Int → Nat → Nat → DWord × Int

/-- FREE VALUE: the phase-locked loop of a mains tracker (06 R212, R213; the manual gives its
bandwidth only). Operands: angle word, frequency in mHz, the corrected sample, the bandwidth code and
MOFS; results: the new angle word, the frequency in mHz and the phase error in ang16. -/
opaque mainsLoop : DWord → Nat → Word → BitVec 2 → Word → DWord × Nat × Int

/-- FREE VALUE: the value of a quantity the rules state only for other operands (log entry 4). The
first argument names the place, the second is the draw number. -/
opaque unstated : Nat → Nat → DWord

/-- FREE VALUE: backup-clock periods that pass, unobserved, while the angle engine does not step, up to
an event in SLEEP or BACKUP (17 R614; log entry 5). The argument is the draw number. -/
opaque clockElapsed : Nat → Nat

/-- VERSION of the patch set a module is shipped with (05 Table 5.8; log entry 7). -/
opaque shippedVersion : Word

/-- COMPAT of the patch set a module is shipped with (05 Table 5.8; log entry 7). -/
opaque shippedCompat : BitVec 8

/-- The serial number in OTP region 0 of a shipped module (05 Table 5.2; log entry 7). -/
opaque shippedSerial : BitVec 48

end Sys2Proof.Config
end

