-- ==== Sys2Proof/Machine/Crc.lean ====
section
/-! DEFINITION. The checks the spec computes: CRC-8 of frames and patch entries (02 R48), CRC-32 of IEEE
802.3 (04 R144), CRC-16 of log entries and tally cells (16 R679). -/

namespace Sys2Proof.Machine

/-- One shift of the CRC-8 register (02 2.4). -/
def crc8Bit (c : BitVec 8) : BitVec 8 := if c.msb then (c <<< 1) ^^^ 0x2F#8 else c <<< 1

/-- `n` shifts of the CRC-8 register. -/
def crc8Bits : Nat → BitVec 8 → BitVec 8
  | 0, c => c
  | n + 1, c => crc8Bits n (crc8Bit c)

/-- CRC-8 over bytes, first byte first (02 R48). -/
def crc8 (bytes : List (BitVec 8)) : BitVec 8 :=
  bytes.foldl (fun c b => crc8Bits 8 (c ^^^ b)) 0xFF#8

/-- The four bytes of a 32-bit value, most significant first. -/
def bytes32 (v : DWord) : List (BitVec 8) :=
  [v.extractLsb' 24 8, v.extractLsb' 16 8, v.extractLsb' 8 8, v.extractLsb' 0 8]

/-- CRC-8 over bits [39:8] of a frame (02 R48). -/
def frameCrc (v : DWord) : BitVec 8 := crc8 (bytes32 v)

/-- One shift of the CRC-32 register, reflected form (04 R144). -/
def crc32Bit (c : DWord) : DWord :=
  if c.getLsbD 0 then (c >>> 1) ^^^ 0xEDB88320#32 else c >>> 1

/-- `n` shifts of the CRC-32 register. -/
def crc32Bits : Nat → DWord → DWord
  | 0, c => c
  | n + 1, c => crc32Bits n (crc32Bit c)

/-- The CRC-32 register after one more byte. -/
def crc32Byte (c : DWord) (b : BitVec 8) : DWord := crc32Bits 8 (c ^^^ b.setWidth 32)

/-- The CRC-32 register after one more word, low byte first (R144). -/
def crc32Word (c : DWord) (w : Word) : DWord :=
  crc32Byte (crc32Byte c (w.extractLsb' 0 8)) (w.extractLsb' 8 8)

/-- CRC-32 over words, each low byte first (04 R144). -/
def crc32 (ws : List Word) : DWord := (ws.foldl crc32Word 0xFFFFFFFF#32) ^^^ 0xFFFFFFFF#32

/-- CRC-32 over bytes (04 R144, 15 R520). -/
def crc32Bytes (l : List (BitVec 8)) : DWord := (l.foldl crc32Byte 0xFFFFFFFF#32) ^^^ 0xFFFFFFFF#32

/-- One shift of the CRC-16 register (16 R679). -/
def crc16Bit (c : Word) : Word := if c.msb then (c <<< 1) ^^^ 0x1021#16 else c <<< 1

/-- `n` shifts of the CRC-16 register. -/
def crc16Bits : Nat → Word → Word
  | 0, c => c
  | n + 1, c => crc16Bits n (crc16Bit c)

/-- The CRC-16 register after one more byte, most significant bit first (R679). -/
def crc16Byte (c : Word) (b : BitVec 8) : Word := crc16Bits 8 (c ^^^ (b.setWidth 16 <<< 8))

/-- The CRC-16 register after one more word, low byte first (R679). -/
def crc16Word (c : Word) (w : Word) : Word :=
  crc16Byte (crc16Byte c (w.extractLsb' 0 8)) (w.extractLsb' 8 8)

/-- CRC-16 over words (16 R679). -/
def crc16 (ws : List Word) : Word := ws.foldl crc16Word 0xFFFF#16

end Sys2Proof.Machine
end

