-- ==== Sys2Proof/Machine/Mem.lean ====
section
/-! DEFINITION. Word memories: the configuration spaces, the OTP, the record store and the backup
registers, all addressed by 16-bit word (03 R109, 05 R159, 17 R585). A memory is a list of
(address, word) pairs in canonical form: addresses strictly rising, no listed word 0x0000. An unlisted
address reads 0x0000: 03 R112 for the spaces, 05 R161 for blank OTP, 17 R589 and R596 for the store. -/

namespace Sys2Proof.Machine

/-- A memory of 16-bit words in canonical form. -/
abbrev WordMem := List (Nat × Word)

/-- The word at address `k`. -/
def WordMem.get : WordMem → Nat → Word
  | [], _ => 0
  | (a, w) :: r, k => if a = k then w else WordMem.get r k

/-- Puts the cell (k, w) in front of a memory whose addresses lie above `k`; a zero word is not
listed. -/
def WordMem.consCell (k : Nat) (w : Word) (m : WordMem) : WordMem :=
  if w = 0 then m else (k, w) :: m

/-- The memory with word `w` at address `k`. -/
def WordMem.put : WordMem → Nat → Word → WordMem
  | [], k, w => WordMem.consCell k w []
  | (a, v) :: r, k, w =>
    if k < a then WordMem.consCell k w ((a, v) :: r)
    else if k = a then WordMem.consCell k w r
    else (a, v) :: WordMem.put r k w

/-- The canonical form. -/
abbrev WordMem.wf (m : WordMem) : Prop :=
  m.Pairwise (fun x y => x.1 < y.1) ∧ ∀ e ∈ m, e.2 ≠ 0

/-- Writes consecutive words from address `k`. -/
def WordMem.putList (m : WordMem) (k : Nat) : List Word → WordMem
  | [] => m
  | w :: ws => WordMem.putList (m.put k w) (k + 1) ws

/-- Writes each listed cell. -/
def WordMem.putCells (m : WordMem) : List (Nat × Word) → WordMem
  | [] => m
  | c :: cs => WordMem.putCells (m.put c.1 c.2) cs

/-- The memory that holds exactly the listed cells. -/
def WordMem.ofCells (cs : List (Nat × Word)) : WordMem := WordMem.putCells [] cs

/-- The memory that holds `b` at the addresses `p` selects and `a` at all others. -/
def WordMem.overlay (p : Nat → Bool) (a b : WordMem) : WordMem :=
  WordMem.putCells (a.filter fun c => !p c.1) (b.filter fun c => p c.1)

/-- The memory with every word at the addresses `p` selects blanked. -/
def WordMem.erase (p : Nat → Bool) (m : WordMem) : WordMem := m.filter fun c => !p c.1

/-- `n` consecutive words from address `k`. -/
def WordMem.slice (m : WordMem) (k n : Nat) : List Word := (List.range n).map fun i => m.get (k + i)

/-- The 32-bit value at addresses `k` and `k + 1`, low half first (00 R8). -/
def WordMem.get32 (m : WordMem) (k : Nat) : DWord := joinWords (m.get k) (m.get (k + 1))

/-- The memory with a 32-bit value at addresses `k` and `k + 1`, low half first (00 R8). -/
def WordMem.put32 (m : WordMem) (k : Nat) (v : DWord) : WordMem :=
  (m.put k (loWord v)).put (k + 1) (hiWord v)

end Sys2Proof.Machine
end

