-- ==== Sys2Proof/Machine/State.lean ====
section
/-! DEFINITION. The state of the module: every register, buffer, queue, counter and mode the spec gives it
(INVENTORY.md lists each with its rule), and the queue of commands that wait. Plain data throughout. -/

namespace Sys2Proof.Machine

/-- The faults of the machine. There is none: every command of the table has an effect in every state, and a
device fault of chapter 16 is state. -/
inductive Fault
  deriving DecidableEq, Repr

/-- The refusals of the machine. -/
inductive Refusal where
  /-- raised by `exec` for a command whose meaning is not written; safe, the machine stops. -/
  | notModelled (mnemonic : String)
  deriving DecidableEq, Repr

/-- The status codes of a response (02 Table 2.8). -/
inductive Status where
  | ok
  | crcBad
  | badAddr
  | guarded
  | notOwner
  | stoppedOnly
  | refusedActive
  | busy
  | length
  | noPrevious
  | booting
  | cannotClear
  deriving DecidableEq, Repr

/-- The key classes (02 Table 2.12). -/
inductive KeyClass where
  | output
  | store
  | pinLock
  deriving DecidableEq, Repr

/-- The operating phase: without supply, in BACKUP, in a reset or boot, or past the boot gate
(01 Table 1.6, 04 Table 4.4). -/
inductive Phase where
  | off
  | backup
  | boot
  | run
  deriving DecidableEq, Repr

/-- SYS_PSTATE.STATE past the boot gate (01 Table 1.7). -/
inductive PState where
  | run
  | standby
  | sleep
  deriving DecidableEq, Repr

/-- Who asks for a register operation: the host, or Seam peer `dev` through remote session `sess`
(04 R151, 15 R543). -/
inductive Party where
  | host
  | peer (dev : DevId) (sess : Fin 4)
  deriving DecidableEq, Repr

/-- The axis states (10 Table 10.7). -/
inductive AxSt where
  | off
  | ready
  | probe
  | start
  | run
  | stopping
  | hold
  | tripped
  | test
  | latched
  | gangstop
  deriving DecidableEq, Repr

/-- The rungs of the ladder (06 Table 6.3). -/
inductive Rung where
  | none
  | hold
  | inj
  | bemf
  | enc
  | seam
  deriving DecidableEq, Repr

/-- The leg modes (08 Table 8.2). -/
inductive LegMode where
  | off
  | low
  | pwm
  | pwmH
  deriving DecidableEq, Repr

/-! ### Power, host port, windows -/

/-- Supplies, phase and power state (01 1.6, 04 4.1). -/
structure Power where
  phase : Phase
  vaux : Bool
  vio : Bool
  vbak : Bool
  pstate : PState
  target : Option PState
  pwrReq : BitVec 2
  causes : BitVec 5
  reason : BitVec 4
  deriving DecidableEq, Repr

/-- The answer the next frame shifts out (02 R52-R54). -/
structure Resp where
  status : Status
  tag : BitVec 4
  data : Word
  deriving DecidableEq, Repr

/-- One set of H latches (02 Table 2.11, R70-R73). -/
structure Latches where
  speedH : Vector Word 8
  angH : Vector Word 8
  posH : Vector Word 8
  fprintH : Word
  storeSeqH : Word
  bakCountH : Word
  time1 : Word
  time2 : Word
  rtc1 : Word
  rtc2 : Word
  deriving DecidableEq, Repr

/-- The host port (chapter 02). `hsdo` is the response shifted out in the last frame, `none` for high
impedance. -/
structure HostPort where
  key : Option KeyClass
  resp : Resp
  hsdo : Option (BitVec 40)
  sysStat : BitVec 6
  irqEn : BitVec 14
  guardCount : BitVec 8
  guardCause : BitVec 3
  guardFlag : Bool
  lastRd : Word
  timeHi : Word
  deriving DecidableEq, Repr

/-- A window (02 Table 2.16). `fetching` and `writing` are the two parts of PENDING, `writing` with the word on its
way and its key space * 65536 + address; `pairHi` holds the high words captured by low-word reads of space 0x12
(12 R439). -/
structure Window where
  space : BitVec 5
  addr : BitVec 24
  count : Word
  inc : Bool
  atEnd : Bool
  fetching : Bool
  writing : Option (Nat × Word)
  fetched : Word
  pairHi : WordMem
  deriving DecidableEq, Repr

/-! ### Configuration, boot, OTP -/

/-- What SYS_COMMIT is doing (07 Table 7.5). -/
inductive CommitState where
  | idle
  | checking (apply : Bool)
  | applying
  | reverting
  deriving DecidableEq, Repr

/-- The proven bounds of one lane (07 R261). -/
structure LaneBound where
  bound : Nat
  pdepth : Nat
  margin : Word
  deriving DecidableEq, Repr

/-- Configuration memories and the commit (07 7.5). Keys are space * 65536 + address; the Commit-class
registers stand under space 0x1F. `advTab` holds, for each axis, space 0x03 as that axis took it. -/
structure ConfigMem where
  shadow : WordMem
  running : WordMem
  pending : WordMem
  live : WordMem
  advTab : Vector WordMem 8
  state : CommitState
  dirty : Bool
  lastPass : Bool
  seq : BitVec 8
  fitRes : Word
  fitDetail : Word
  fitMargin : Word
  bounds : Vector LaneBound 8
  tablePending : Bool
  axesPending : BitVec 8
  cfgCrc : DWord
  deriving DecidableEq, Repr

/-- What boot left (chapters 04 and 05). `step` is the boot step in progress (04 Table 4.4), 0 in a reset as well;
`dieOff` are the bridges that boot leaves disabled for another reason than the life cycle (04 R131, R135). -/
structure BootInfo where
  step : Nat
  rstCause : BitVec 5
  bootStat : BitVec 15
  patch : Word
  life : BitVec 4
  compat : BitVec 8
  dalugMask : Word
  applied : BitVec 64
  codeRows : BitVec 6
  patchStat : BitVec 3
  failIndex : Word
  setup : WordMem
  orphanGroups : BitVec 16
  orphanPins : BitVec 64
  orphanSpaces : BitVec 32
  bridgeOff : BitVec 8
  dieOff : BitVec 8
  badRows : List Nat
  lifeLost : Bool
  committed : Bool
  epoch : Word
  deriving DecidableEq, Repr

/-- What the OTP programmer burns (05 5.3, 5.4). -/
inductive OtpOp where
  | word (addr : BitVec 13) (data : Word)
  | lockWrite (region : BitVec 4)
  | lockRead (region : BitVec 4)
  | advance (target : BitVec 3)
  | redirect (addr : BitVec 13) (data : Word)
  deriving DecidableEq, Repr

/-- The OTP and its control block (05 5.1). `dead` tells that its clock domain was found dead since the last reset (16
Table 16.7). `cells` are the fuses of the 256 rows, `spares` those of the 16
spare rows, `redir` those of the redirection entries, each held three times (R177): the logical row in [7:0], valid
in [8]. -/
structure Otp where
  cells : WordMem
  spares : WordMem
  redir : Vector (Vector (BitVec 9) 3) 16
  wlock : Word
  rlock : Word
  fetching : Bool
  dataPhase : Option (BitVec 13)
  op : Option OtpOp
  result : BitVec 3
  dead : Bool
  deriving DecidableEq, Repr

/-! ### Angles -/

/-- One angle source (06 R199): the angle word at this step and the previous one, the speed in mHz, and
the count of steps above VMAX (R209); `cut` is the angle at which a resync ended the turn since the latest step
(07 R244). -/
structure Source where
  angle : DWord
  prev : DWord
  speed : Int
  cut : Option DWord
  overCount : Nat
  isOver : Bool
  deriving DecidableEq, Repr

/-- A mains tracker (06 6.4): LOCK, RANGE, frequency in mHz and the last locked frequency, the number of the next
sample of the turn, the samples in a row whose phase error lay within 5 degrees (R213), and the fraction of its angle
below the angle word in 10^-10. -/
structure Mains where
  lock : Bool
  range : Bool
  freq : Nat
  lastLocked : Nat
  nextSample : Nat
  steady : Nat
  frac : Nat
  deriving DecidableEq, Repr

/-- A party of a blend that lost validity: its last angle and speed and the steps since (06 R229). -/
structure Extrap where
  angle : DWord
  speed : Int
  steps : Nat
  deriving DecidableEq, Repr

/-- A blend in progress (06 R226-R229). `travel` is in angle-word units, `elapsed` in 100 ns steps. -/
structure Blend where
  upgrade : Bool
  fromRung : Rung
  toRung : Rung
  hspan : Nat
  htmax : Nat
  travel : Nat
  elapsed : Nat
  lastTo : DWord
  outEx : Option Extrap
  inEx : Option Extrap
  deriving DecidableEq, Repr

/-- The rotor ladder of an axis (06 6.6, 6.7). `rungAng`, `rungSpd` and `reqTravel` are indexed hold,
injection, back-EMF, encoder, Seam, the bit order of word 0x98. -/
structure Ladder where
  active : Rung
  blend : Option Blend
  blendP : Word
  qual : BitVec 5
  ret : BitVec 5
  rungAng : Vector DWord 5
  rungSpd : Vector Int 5
  reqTravel : Vector Nat 5
  deriving DecidableEq, Repr

/-- The encoder rung (06 R202, Table 6.3): the accumulated count modulo ENC_CPR, and the edges counted since
the last error inside the validity window. -/
structure Encoder where
  acc : Nat
  sinceError : Option Nat
  deriving DecidableEq, Repr

/-! ### Stitch engine -/

/-- One captured action (07 R249). -/
structure Action where
  code : BitVec 8
  p0 : Word
  p1 : Word
  deriving DecidableEq, Repr

/-- A captured chain in a lane queue: head slot, cycle in which the head became due, direction of the
crossing, whether no action has executed yet, and the actions still to execute (07 R248, R249). -/
structure Chain where
  head : Nat
  due : Nat
  rank : Nat
  forward : Bool
  fresh : Bool
  actions : List Action
  deriving DecidableEq, Repr

/-- A lane and its status block (07 Table 7.7). `lastExec` is the cycle of its last executed action. -/
structure Lane where
  queue : List Chain
  lastExec : Nat
  maxDepth : Nat
  bound : Word
  pdepth : Nat
  late : Word
  worstLate : Word
  lateSlot : Nat
  drop : Word
  dropSlot : Nat
  skip : Word
  fired : Word
  margin : Word
  irqFlag : Word
  lastIrq : Nat
  deriving DecidableEq, Repr

/-- A disarmed slot and its source's travel in angle-word units since it became due (07 R236). -/
structure Disarmed where
  slot : Nat
  travel : Nat
  deriving DecidableEq, Repr

/-- An action on a stitch output in the current cycle: its lane, its action code and its output (07 R243). -/
structure OutputAction where
  lane : Nat
  code : BitVec 8
  out : Nat
  deriving DecidableEq, Repr

/-- The stitch engine (chapter 07). `outputsBefore` holds the stitch outputs as the current cycle met them, and
`outputActions` the actions on them since, in lane order (07 R243). -/
structure Stitch where
  cycle : Nat
  disarmed : List Disarmed
  lanes : Vector Lane 8
  outputs : BitVec 16
  outputsBefore : BitVec 16
  outputActions : List OutputAction
  deriving DecidableEq, Repr

/-! ### Axes -/

/-- The live registers of an axis page, which take effect at a period start (00 Table 0.4): AX_CTRL.EN,
AX_IRQEN, AX_CMDSRC, 08 Tables 8.6-8.9 and DFINE, 10 Table 10.9. -/
structure LiveRegs where
  en : Bool
  irqEn : BitVec 6
  cmdSrc : BitVec 3
  per : Word
  cmp : Vector Word 3
  trg : Vector Word 4
  force : BitVec 12
  cmd : Word
  preTq : Word
  ilim : BitVec 15
  dfine : BitVec 12
  deriving DecidableEq, Repr

/-- A switch pulse within a period, in fine steps from the period start. -/
structure Pulse where
  on : Nat
  off : Nat
  deriving DecidableEq, Repr

/-- The role of a leg (10 R345, R352). -/
inductive Role where
  | floating
  | high
  | low
  | ramp
  deriving DecidableEq, Repr

/-- One leg: its mode, role and compare point for the period (08 R277, R278), the compare before dither scaling as the
fraction `nominal / den` in 1/65536 tick, so that nothing rounds it (R279, R293), the carry of R363 in 1/65536 tick, the
pulses worked out for the period (R282), and for how long, in fine steps, each switch had been on or off as the period
started, from which dead time (R280) and MINP (R304) count on. -/
structure Leg where
  mode : LegMode
  role : Role
  point : Nat
  nominal : Nat
  den : Nat
  carry : Int
  high : Option Pulse
  low : Option Pulse
  highFor : Nat
  highGap : Nat
  lowFor : Nat
  lowGap : Nat
  deriving DecidableEq, Repr

/-- The carrier of an axis (08 8.1, 8.5): ticks since the period start, lengths of this period and the next
in counts and the AX_PER each was drawn from (R290), LFSR, triggers fired this period, legs, a resync whose period end
waits for MINP, or in a member the wait for its own offset (R304), a resync that takes place at the end of the cycle (07
R244), whether the period in progress is one of a member (R292), the period starts counted by the speed loop, and the
carrier VMAX in force in mHz (06 R208). -/
structure Carrier where
  ticks : Nat
  period : Nat
  next : Nat
  per : Nat
  perNext : Nat
  lfsr : Word
  fired : BitVec 4
  legs : Vector Leg 3
  resync : Bool
  resyncDue : Bool
  asMember : Bool
  spdCount : Nat
  vmax : Nat
  deriving DecidableEq, Repr

/-- A hem in progress (10 R352-R355): the leg, whether it goes to the high role, span, captured profile
points, travel in angle-word units, current b. -/
structure Hem where
  leg : Fin 3
  toHigh : Bool
  span : Nat
  points : List Word
  travel : Nat
  b : Word
  deriving DecidableEq, Repr

/-- How a stop in progress ends (10 R376). -/
inductive StopKind where
  | none
  | stop
  | hold
  deriving DecidableEq, Repr

/-- A BRKT hold in progress and what follows it (10 R375, R376, R380). -/
inductive BrakeWait where
  | none
  | toRun
  | toReady
  deriving DecidableEq, Repr

/-- Drive control of an axis (chapter 10). `spref` is in mHz / (4 * 10^16), `accel` in (mHz/s) / (2 * 10^8)
and `iref` in units / 200000, so that no rule rounds. -/
structure Drive where
  sector : Nat
  hem : Option Hem
  duty : Word
  integ : Int
  sinteg : Int
  iref : Int
  spref : Int
  accel : Int
  cmdNow : Int
  xNow : Word
  /-- tick of the latest update of the input (10 R372, 13 R451) -/
  inAt : Nat
  cmdLost : Bool
  lrStart : Option Nat
  preTqFrozen : Option Int
  stop : StopKind
  wait : BrakeWait
  /-- the axis enters READY (or OFF) with every switch off at its next period start -/
  offNext : Bool
  /-- tick of the running period from which the reference ramps (10 R374) -/
  rampFrom : Nat
  overLimit : Bool
  advance : Int
  deriving DecidableEq, Repr

/-- The trip of a bridge (09 Tables 9.7, 9.12). -/
structure Trip where
  causes : BitVec 10
  first : BitVec 4
  held : Bool
  /-- a source of the group is active or has been quiet for less than 10 us -/
  active : Bool
  allOff : Bool
  lowShort : Bool
  forced : Bool
  clearing : Bool
  oc : BitVec 3
  ov : Bool
  uv : Bool
  dsMap : BitVec 6
  extMap : BitVec 4
  trips : Word
  deriving DecidableEq, Repr

/-- The pulse probe (11 11.2, 11.3). -/
structure Probe where
  running : Bool
  thenStart : Bool
  attempt : Nat
  width : Nat
  pulse : Nat
  inPulse : Bool
  attemptOver : Bool
  cut : Bool
  peaks : Vector Nat 12
  pulseEnd : Nat
  /-- demodulators with a fast-path result since the pulse start (11 R388) -/
  got : BitVec 24
  /-- net counts of the interface since the attempt began, and whether they passed the limit of 11 R391 -/
  net : Int
  moved : Bool
  angle : Word
  quality : BitVec 13
  outcome : BitVec 3
  attempts : BitVec 3
  aligned : Bool
  widthUsed : BitVec 8
  holdValid : Bool
  /-- tick of the latest success, from which HOLDT runs (11 R397) -/
  holdAt : Nat
  /-- no other rung has been active since the probe (06 Table 6.3) -/
  alone : Bool
  deriving DecidableEq, Repr

/-- The injection estimator (11 11.4); `angle` is its angle at tick `since`. -/
structure Inj where
  latch : Bool
  /-- the gate conditions but the interleave hold -/
  base : Bool
  gate : Bool
  seeded : Bool
  converged : Bool
  convCount : BitVec 8
  sign : Bool
  div : Nat
  periods : Nat
  angle : DWord
  speed : Int
  since : Nat
  err : Word
  resp : BitVec 15
  badErr : Nat
  badResp : Nat
  closedDiv : Nat
  /-- when the gate last closed -/
  closedAt : Nat
  /-- the gate stood open as the period in progress started -/
  injecting : Bool
  lastI : Vector Int 2
  window : List Int
  deriving DecidableEq, Repr

/-- One valid floating-leg sample of the back-EMF estimator: three times its e in 10 uV, so that R407 does not
round, and its time in ticks. -/
structure EmfSample where
  e : Int
  time : Nat
  deriving DecidableEq, Repr

/-- The back-EMF estimator (11 11.5): the lock count as it stands and as the last sector end left it, the last
valid sample of the sector, the terminal codes of the set in progress with their conversion ticks and whether each lay
in the high side's on-time (R406), the last crossing and the interval before it, the integral since it, and the angle in
force. -/
structure Bemf where
  locked : Bool
  run : Nat
  counted : Nat
  cross : BitVec 8
  amp : BitVec 12
  speed : Int
  dir : Int
  last : Option EmfSample
  codes : Vector Word 3
  times : Vector Nat 3
  ons : Vector Bool 3
  fix : DWord
  fixTime : Option Nat
  fixSector : Nat
  integral : Int
  heldE : Int
  setTime : Nat
  intervals : List Nat
  lastGap : Option Nat
  sectorMax : Nat
  broken : Nat
  angle : DWord
  angleTime : Nat
  deriving DecidableEq, Repr

/-- AX_GROUP in effect (08 Table 8.10). -/
structure Group where
  leader : Fin 8
  member : Bool
  leads : Bool
  offs : BitVec 8
  deriving DecidableEq, Repr

/-- One axis: its page, its carrier and its estimators. -/
structure Axis where
  st : AxSt
  stat : BitVec 6
  acc : LiveRegs
  eff : LiveRegs
  brake : Bool
  forced : Bool
  /-- AX_CTRL has been written since the last period start (10 Table 10.4, "EN written") -/
  enWritten : Bool
  rev : Bool
  car : Carrier
  drv : Drive
  trip : Trip
  group : Group
  ladder : Ladder
  enc : Encoder
  probe : Probe
  inj : Inj
  bemf : Bemf
  runTicks : Nat
  deriving DecidableEq, Repr

/-! ### Gate channels, STO, supervisor -/

/-- A gate channel (09 Table 9.11). -/
structure Channel where
  dsActive : Bool
  soft : Bool
  gateFault : Bool
  overTemp : Bool
  temp : Word
  dsCount : Word
  vgate : Word
  deriving DecidableEq, Repr

/-- A gate supply (09 R318). -/
structure Supply where
  onOk : Bool
  offOk : Bool
  deriving DecidableEq, Repr

/-- Safe torque off (09 Table 9.9). `low1`, `low2` tell that the present low of an input may still end as a
test pulse (R338); `bothLow` that both were low together since DISC set (R340). -/
structure Sto where
  in1 : Bool
  in2 : Bool
  hw1 : Bool
  hw2 : Bool
  source : Bool
  disc : Bool
  pulses : BitVec 8
  low1 : Bool
  low2 : Bool
  bothLow : Bool
  /-- both inputs have stood low together for 10 us and do so still -/
  demand : Bool
  deriving DecidableEq, Repr

/-- The safety supervisor (16 16.6). -/
structure Supv where
  reason : BitVec 4
  vauxTrip : Bool
  tempTrip : Bool
  domTrip : Bool
  domain : BitVec 8
  domDead : Bool
  domValid : Bool
  temp : Word
  vaux : Word
  vbak : Word
  deriving DecidableEq, Repr

/-! ### Feedback, converters, pins -/

/-- A counted edge (12 R423, R424): its tick, its direction, the edges counted before it in that direction since the
last reversal, and whether ZTO has passed since it. -/
structure EdgeStamp where
  time : Nat
  rev : Bool
  dir : Nat
  zto : Bool
  deriving DecidableEq, Repr

/-- A quadrature feedback interface (chapter 12). Stamps stand newest first; `z` tells that Z was active in the latest
sample (R420). -/
structure Fb where
  count : DWord
  a : Bool
  b : Bool
  z : Bool
  rev : Bool
  stamps : List EdgeStamp
  speed : Int
  cntMeth : Bool
  wantCnt : Bool
  winNet : Int
  cmp : DWord
  spacing : DWord
  arm : Bool
  oneshot : Bool
  hitw : BitVec 8
  hitSig : Bool
  merged : Word
  idxMode : BitVec 2
  idxCnt : DWord
  idxDev : Word
  phCnt : Word
  lfCnt : Word
  sinceIdx : Option Int
  revSinceIdx : Bool
  stat : BitVec 8
  hits : Word
  bypass : Int
  heldCmp : Option Word
  heldSpc : Option Word
  heldPre : Option Word
  deriving DecidableEq, Repr

/-- A coefficient pair (13 13.5). -/
structure Pair where
  ofs : Word
  gain : Word
  deriving DecidableEq, Repr

/-- A witness slot paired with a SAR slot (13 R469): the witness input, the kind and the pair in force. -/
structure WitSlot where
  input : Nat
  kind : Nat
  pair : Pair
  deriving DecidableEq, Repr

/-- When a start arrives, in ticks, and its place among those of one tick (13 R447): trigger compares by axis and compare,
CNV_START by lane, mains trackers. -/
structure Arrival where
  time : Nat
  place : Nat
  deriving DecidableEq, Repr

/-- A start that waits (13 R447). -/
structure PendStart where
  seq : Nat
  arrival : Arrival
  deriving DecidableEq, Repr

/-- A SAR slot in progress (13 R446, R448): the sequence (64 + m for mains tracker m), the number of the entry, the
input converted, the pair in force at the slot start, the inputs still to convert, the IRQ bit, the witness slot,
the tick at which the slot starts, and whether its conversion instant lies where a back-EMF sample counts (11 R406). A
slot that an idle converter begins keeps the arrival of its start, and the SKIP bit as it was where it counted a skipped pairing, for a start
of the same tick may still come before it (R447). -/
structure SarRun where
  seq : Nat
  entry : Nat
  input : Fin 8
  pair : Pair
  rest : List (Fin 8)
  irq : Bool
  wit : Option WitSlot
  start : Nat
  onTime : Bool
  lead : Option Arrival
  skip : Option Bool
  deriving DecidableEq, Repr

/-- A finished slot whose result waits for its handover (13 R446); `stored` tells that its witness's result already stands
in space 0x06, as a witness never runs in low-power mode (R452). -/
structure SarRes where
  run : SarRun
  raw : BitVec 12
  rawWit : BitVec 12
  stored : Bool
  deriving DecidableEq, Repr

/-- A SAR converter: the slot in progress, the result waiting, the pending starts (13 R447), and a slot that a test ended
whose paired witness slot runs on, or has ended and waits for its handover (R452, R467). -/
structure Sar where
  run : Option SarRun
  result : Option SarRes
  pend : List PendStart
  lone : Option SarRun
  loneResult : Option SarRes
  deriving DecidableEq, Repr

/-- The converters (chapter 13). `res` is space 0x06, `coef` space 0x07, `dac` the codes of the test DACs
(R465) and `witAt` the tick at which the slot of each witness result started. -/
structure Cnv where
  stat : BitVec 5
  witness : BitVec 8
  res : WordMem
  coef : WordMem
  heldOfs : WordMem
  heldMask : List Nat
  sar : Vector Sar 16
  dac : Vector (BitVec 10) 8
  witAt : Vector Nat 32
  stuck : BitVec 24
  deriving DecidableEq, Repr

/-- The pins (chapter 14), one bit per pin. -/
structure Pins where
  latch : BitVec 64
  level : BitVec 64
  sampled : BitVec 64
  fresh : BitVec 64
  /-- external trip inputs that have stood high, or low, for 30 ns (09 Table 9.4) -/
  extHigh : BitVec 4
  extLow : BitVec 4
  irq : BitVec 64
  irqEn : BitVec 64
  locked : BitVec 64
  held : BitVec 64
  holdLevel : BitVec 64
  holdOe : BitVec 64
  holdPullUp : BitVec 64
  holdPullDown : BitVec 64
  rxFault : BitVec 16
  fw : BitVec 4
  deriving DecidableEq, Repr

/-! ### Seam -/

/-- The root key a module or an offer carries, with the tie-breaks of 15 R513. -/
structure RootKey where
  prio : BitVec 8
  serial : BitVec 48
  deriving DecidableEq, Repr

/-- Time states (15 Table 15.3). -/
inductive TState where
  | free
  | slewing
  | locked
  deriving DecidableEq, Repr

/-- A Seam port (15 Table 15.9). `tx` keeps the start times of the last frames sent, by cycle number; `delays` holds
twice the last measurements of the link delay, newest first; `better` counts the cycles for which its offer has been
the better one (R514, R516). -/
structure Port where
  up : Bool
  role : BitVec 2
  tree : Option TreeBlock
  rseqAge : Nat
  better : Nat
  sender : DevId
  senderNoId : Bool
  parentFlag : Bool
  tx : List (Word × BitVec 64)
  lastRx : Option (Word × BitVec 64)
  delays : List Int
  badFrames : Word
  badTimes : List Nat
  alerts : Word
  neighbour : DevId
  queue : List Msg
  out : Option SeamFrame
  alertOut : List (BitVec 8 × AlertKind)
  alertWait : List (BitVec 8 × AlertKind)
  alertSent : Nat
  deriving DecidableEq, Repr

/-- A published channel (15 R527). -/
structure Pub where
  seq : BitVec 8
  loaded : Bool
  angle : DWord
  speed : Int
  stamp : BitVec 64
  free : Bool
  deriving DecidableEq, Repr

/-- The samples of one watched channel, as a subscription or the leader's check of a member keeps them
(15 R529-R532, R549). -/
structure Watch where
  held : Bool
  angle : DWord
  speed : Int
  stamp : BitVec 64
  lastSeq : Option (BitVec 8)
  fresh : Bool
  everUsable : Bool
  missed : BitVec 3
  hops : BitVec 8
  trip : Bool
  run : Bool
  gstop : Bool
  formed : Bool
  fpLo : Option Word
  fpHi : Option Word
  info2 : Option Word
  /-- SEQ mod 4 and INFO of the last four samples, newest first -/
  infos : List (Nat × Word)
  aux : Word
  deriving DecidableEq, Repr

/-- A sample held for sending on (15 R528). `from` is the port it came from, `none` for an own sample. -/
structure Held where
  port : Option (Fin 4)
  slot : AngleSlot
  /-- received or published in the cycle in progress -/
  now : Bool
  deriving DecidableEq, Repr

/-- A stored roll-call entry (15 R535). -/
structure RollStore where
  entry : RollEntry
  port : Fin 4
  fresh : Bool
  deriving DecidableEq, Repr

/-- A remote session (15 R542-R546). -/
structure Session where
  isOpen : Bool
  peer : DevId
  epoch : Word
  lastSeq : Option (BitVec 8)
  stored : Option Msg
  key : Option KeyClass
  win : Window
  since : Nat
  deriving DecidableEq, Repr

/-- The gang (15 15.8). `causes` holds the causes of each list entry in the bit order of SEAM_AGREE.WHY. -/
structure Gang where
  formed : Bool
  agree : BitVec 8
  causes : Vector (BitVec 6) 8
  agreeCycles : Nat
  configLeft : Nat
  brokenLeft : Nat
  /-- the gang that the alerts of kind 2 name -/
  configGang : BitVec 8
  deriving DecidableEq, Repr

/-- The Seam link (chapter 15). `corr` is the correction the next step applies and `done` what was ordered since the
last measured offset; `offs` holds the measurements taken in FREE, newest first (R523). -/
structure Seam where
  time : BitVec 64
  corr : Int
  done : Int
  tstate : TState
  tcount : Nat
  offset : Int
  measured : Bool
  offs : List Int
  stat : BitVec 15
  root : Option RootKey
  isRoot : Bool
  parentPort : Option (Fin 4)
  hops : Nat
  tooDeep : Bool
  rseq : BitVec 8
  cycle : Nat
  ports : Vector Port 4
  pubs : Vector Pub 2
  subs : Vector Watch 4
  mems : Vector Watch 8
  wrongSrc : Vector Word 4
  wrongOnce : BitVec 64
  samples : List (Nat × Held)
  roll : List RollStore
  epochs : List (DevId × Word)
  sess : Vector Session 4
  lat : Latches
  outbox : WordMem
  send : Option Msg
  inbox : WordMem
  full : Bool
  gang : Gang
  dupId : Bool
  alertSeen : List (BitVec 8 × AlertKind)
  deriving DecidableEq, Repr

/-! ### Faults, store, backup, inspection -/

/-- Where a test or an entry comes from (16 Table 16.5 ORIGIN). -/
inductive Origin where
  | error
  | boot
  | host
  | ack
  deriving DecidableEq, Repr

/-- An entry of the log cache (16 R582, Table 16.5). `units` are the units whose tests still have to end before
the fault is classified; `result` is the classification so far. -/
structure LogEntry where
  code : Word
  result : Option (BitVec 3)
  origin : Origin
  repeats : BitVec 2
  merged : Bool
  free : Bool
  time : BitVec 64
  rtc : BitVec 48
  axState : Word
  meas : Word
  firstFail : Word
  units : List TestUnit
  deriving DecidableEq, Repr

/-- A queued or running test (16 R562, R563): the unit, the code that queued it, its origin, whether it
belongs to the proof test (19 R669), and the unit whose test runs before it (13 R470). -/
structure Test where
  unit : TestUnit
  code : Word
  origin : Origin
  proof : Bool
  after : Option TestUnit
  deriving DecidableEq, Repr

/-- A lasting unit (16 R571, R572). Kind 99 is the STO path of code 0x2202, kind 98 a Dalug die of an
unsupported revision (04 R131); neither is a unit of Table 16.2. -/
structure Lasting where
  unit : TestUnit
  code : Word
  deriving DecidableEq, Repr

/-- One earlier transient (16 R568): unit, class, time in ms. -/
structure Transient where
  unit : TestUnit
  cls : Nat
  time : Nat
  deriving DecidableEq, Repr

/-- Faults and tests (chapter 16). The queues are numbered 0-7 for the axis groups, 8 for the system group
and 9 for the supervisor group; the head of a queue is the test that runs. -/
structure Faults where
  stat : BitVec 9
  top : BitVec 10
  empty : Bool
  count : Word
  trans : Word
  queues : Vector (List Test) 10
  lasting : List Lasting
  history : List Transient
  cache : List LogEntry
  recent : List (TestUnit × Nat)
  stestReq : Word
  stestRes : Word
  deriving DecidableEq, Repr

/-- The store command in progress (17 17.2, 17.5). -/
inductive StoreOp where
  | bank (target : Bool) (words : List Word) (seq : DWord)
  | begin (copy : Bool)
  | header (words : List Word) (seals : Bool)
  deriving DecidableEq, Repr

/-- The record store (chapter 17). `waiting` are counter increments not yet written, as counter and amount. -/
structure Store where
  mem : WordMem
  op : Option StoreOp
  result : BitVec 3
  rollback : Bool
  norec : Bool
  bank : Bool
  erased : Bool
  chkFail : Bool
  done : Bool
  session : Option (Party × Bool)
  seq : DWord
  waiting : List (Nat × Nat)
  deriving DecidableEq, Repr

/-- The backup domain (17 17.7-17.9). `since` are the alarms latched since the last acknowledgement, `shown`
those returned as 1 by a read since; `toLog` those to be logged. -/
structure Backup where
  rtc : BitVec 48
  frac : Nat
  ram : WordMem
  lo : Word
  hi : Word
  carry : Int
  ab : AbSample
  abKnown : Bool
  ref : DWord
  stat : Word
  alarm : BitVec 4
  since : BitVec 4
  shown : BitVec 4
  latched : Bool
  toLog : BitVec 4
  toLogBoot : BitVec 4
  vbakArmed : Bool
  deriving DecidableEq, Repr

/-- The proof test and the inspection record (chapter 19). -/
structure Proof where
  running : Bool
  stoWait : Bool
  done : Bool
  pass : Bool
  stores : BitVec 2
  failed : BitVec 8
  passed : Nat
  failedUnits : Nat
  axes : BitVec 8
  sto : Bool
  /-- progress of the STO phase, by input: seen high, low at the last sample, its HW bit seen to act, and the tick of
  its last change; and whether the demand was seen -/
  seen : BitVec 2
  low : BitVec 2
  acted : BitVec 2
  times : Vector Nat 2
  demand : Bool
  deriving DecidableEq, Repr

/-- The state of the module and the queue of waiting commands. -/
structure State where
  pending : List Instr
  /-- ticks of 5 ns since the last boot -/
  now : Nat
  /-- draws of free values made; the MODEL's own field -/
  free : Nat
  power : Power
  host : HostPort
  lat : Latches
  win : Vector Window 4
  cfg : ConfigMem
  boot : BootInfo
  otp : Otp
  src : Vector Source 32
  paceFrac : Vector Word 2
  mains : Vector Mains 2
  stitch : Stitch
  axes : Vector Axis 8
  chan : Vector Channel 48
  supply : Vector Supply 32
  sto : Sto
  spread : BitVec 4
  supv : Supv
  fb : Vector Fb 8
  cnv : Cnv
  pin : Pins
  seam : Seam
  flt : Faults
  store : Store
  bak : Backup
  proof : Proof
  deriving DecidableEq, Repr

/-! ### The machine right after reset (03 R96): the boot gate has closed on the first power-on of a module as
shipped. The defaults of the parts are also what every boot restores (04 R119). -/

/-- No latch read since reset (02 R71). -/
def resetLatches : Latches where
  speedH := Vector.replicate 8 0
  angH := Vector.replicate 8 0
  posH := Vector.replicate 8 0
  fprintH := 0
  storeSeqH := 0
  bakCountH := 0
  time1 := 0
  time2 := 0
  rtc1 := 0
  rtc2 := 0

/-- The host port after reset (02 R54, R77, 03 Table 3.4). -/
def resetHost : HostPort where
  key := none
  resp := { status := .noPrevious, tag := 0, data := 0 }
  hsdo := none
  sysStat := 0
  irqEn := 0
  guardCount := 0
  guardCause := 0
  guardFlag := false
  lastRd := 0
  timeHi := 0

/-- An idle window (03 Table 3.8). -/
def resetWindow : Window where
  space := 0
  addr := 0
  count := 0
  inc := false
  atEnd := false
  fetching := false
  writing := none
  fetched := 0
  pairHi := []

/-- Blank configuration memories (04 R119); SEAM_ID reads 0x8000 without an identity record (17 R592). -/
def resetConfig : ConfigMem where
  shadow := [(0x1F0022, 0x8000)]
  running := [(0x1F0022, 0x8000)]
  pending := []
  live := []
  advTab := Vector.replicate 8 []
  state := .idle
  dirty := false
  lastPass := false
  seq := 0
  fitRes := 0
  fitDetail := 0
  fitMargin := 0
  bounds := Vector.replicate 8 { bound := 0, pdepth := 0, margin := 0 }
  tablePending := false
  axesPending := 0
  cfgCrc := 0

/-- The default protection set-up (04 R140). -/
def defaultSetup : WordMem := [(0, 1)]

/-- What boot leaves on the first power-on of a module as shipped (20 20.1): POR; SETUP_DEFAULT and STORE;
INTEGRATE (05 R182); EPOCH 1 (17 R601). -/
def resetBoot : BootInfo where
  step := 0
  rstCause := 1
  bootStat := 0x0808
  patch := Config.shippedVersion
  life := 2
  compat := Config.shippedCompat
  dalugMask := Config.romDalugMask
  applied := 0
  codeRows := 0
  patchStat := 0
  failIndex := 0
  setup := defaultSetup
  orphanGroups := 0
  orphanPins := 0
  orphanSpaces := 0
  bridgeOff := 0
  dieOff := 0
  badRows := []
  lifeLost := false
  committed := false
  epoch := 1

/-- Words 0 to 29 of the patch-set header of a module as shipped (05 Table 5.8, log entry 7). -/
def shippedHeader : List Word :=
  [1, Config.shippedVersion, Config.romRel, Config.dieRev.setWidth 16, 0, Config.shippedCompat.setWidth 16]
    ++ List.replicate 24 0

/-- The OTP of a module as shipped (05 R182, Table 5.2; log entry 7). -/
def resetOtp : Otp where
  cells := WordMem.ofCells
    ([(0, Config.shippedSerial.extractLsb' 0 16), (1, Config.shippedSerial.extractLsb' 16 16),
      (2, Config.shippedSerial.extractLsb' 32 16), (3, 0x0948), (0x0C00, 0x000F)]
      ++ (List.range 30).map (fun i => (0x0400 + i, shippedHeader.getD i 0))
      ++ [(0x041E, loWord (crc32 shippedHeader)), (0x041F, hiWord (crc32 shippedHeader))])
  spares := []
  redir := Vector.replicate 16 (Vector.replicate 3 0)
  wlock := 0
  rlock := 0
  fetching := false
  dataPhase := none
  op := none
  result := 0
  dead := false

/-- A source at angle 0 and speed 0. -/
def resetSource : Source where
  angle := 0
  prev := 0
  speed := 0
  cut := none
  overCount := 0
  isOver := false

/-- A mains tracker after reset. -/
def resetMains : Mains where
  lock := false
  range := false
  freq := 0
  lastLocked := 0
  nextSample := 0
  steady := 0
  frac := 0

/-- A ladder without an active rung. -/
def resetLadder : Ladder where
  active := .none
  blend := none
  blendP := 0
  qual := 0
  ret := 0
  rungAng := Vector.replicate 5 0
  rungSpd := Vector.replicate 5 0
  reqTravel := Vector.replicate 5 0

/-- A lane after reset (07 Table 7.7). -/
def resetLane : Lane where
  queue := []
  lastExec := 0
  maxDepth := 0
  bound := 0
  pdepth := 0
  late := 0
  worstLate := 0
  lateSlot := 0
  drop := 0
  dropSlot := 0
  skip := 0
  fired := 0
  margin := 0
  irqFlag := 0
  lastIrq := 0

/-- The stitch engine after reset. -/
def resetStitch : Stitch where
  cycle := 0
  disarmed := []
  lanes := Vector.replicate 8 resetLane
  outputs := 0
  outputsBefore := 0
  outputActions := []

/-- The live registers of an axis page after reset (03 Table 3.11). -/
def resetLive : LiveRegs where
  en := false
  irqEn := 0
  cmdSrc := 0
  per := 0x30D4
  cmp := Vector.replicate 3 0
  trg := Vector.replicate 4 0
  force := 0
  cmd := 0
  preTq := 0
  ilim := 0
  dfine := 0

/-- A position no period reaches. -/
def farFine : Nat := 2 ^ 32

/-- A leg whose switches have been off for longer than any dead time. -/
def resetLeg : Leg where
  mode := .off
  role := .floating
  point := 0
  nominal := 0
  den := 1
  carry := 0
  high := none
  low := none
  highFor := 0
  highGap := farFine
  lowFor := 0
  lowGap := farFine

/-- A carrier at the start of a period of the reset AX_PER. -/
def resetCarrier : Carrier where
  ticks := 0
  period := 12500
  next := 12500
  per := 12500
  perNext := 12500
  lfsr := 0
  fired := 0
  legs := Vector.replicate 3 resetLeg
  resync := false
  resyncDue := false
  asMember := false
  spdCount := 0
  vmax := 16000000

/-- Drive control at rest. -/
def resetDrive : Drive where
  sector := 0
  hem := none
  duty := 0
  integ := 0
  sinteg := 0
  iref := 0
  spref := 0
  accel := 0
  cmdNow := 0
  xNow := 0
  inAt := 0
  cmdLost := false
  lrStart := none
  preTqFrozen := none
  stop := .none
  wait := .none
  offNext := false
  rampFrom := 0
  overLimit := false
  advance := 0

/-- No trip (09 Table 9.7). -/
def resetTrip : Trip where
  causes := 0
  first := 0
  held := false
  active := false
  allOff := false
  lowShort := false
  forced := false
  clearing := false
  oc := 0
  ov := false
  uv := false
  dsMap := 0
  extMap := 0
  trips := 0

/-- No probe since reset (11 Table 11.5). -/
def resetProbe : Probe where
  running := false
  thenStart := false
  attempt := 0
  width := 0
  pulse := 0
  inPulse := false
  attemptOver := false
  cut := false
  peaks := Vector.replicate 12 0
  pulseEnd := 0
  got := 0
  net := 0
  moved := false
  angle := 0
  quality := 0
  outcome := 0
  attempts := 0
  aligned := false
  widthUsed := 0
  holdValid := false
  holdAt := 0
  alone := false

/-- Injection at rest. -/
def resetInj : Inj where
  latch := false
  base := false
  gate := false
  seeded := false
  converged := false
  convCount := 0
  sign := false
  div := 0
  periods := 0
  angle := 0
  speed := 0
  since := 0
  err := 0
  resp := 0
  badErr := 0
  badResp := 0
  closedDiv := 0
  closedAt := 0
  injecting := false
  lastI := Vector.replicate 2 0
  window := []

/-- The back-EMF estimator at rest. -/
def resetBemf : Bemf where
  locked := false
  run := 0
  counted := 0
  cross := 0
  amp := 0
  speed := 0
  dir := 0
  last := none
  codes := Vector.replicate 3 0
  times := Vector.replicate 3 0
  ons := Vector.replicate 3 false
  fix := 0
  fixTime := none
  fixSector := 0
  integral := 0
  heldE := 0
  setTime := 0
  intervals := []
  lastGap := none
  sectorMax := 0
  broken := 0
  angle := 0
  angleTime := 0

/-- Axis `n` after reset: OFF, its own leader (08 Table 8.10). -/
def resetAxis (n : Fin 8) : Axis where
  st := .off
  stat := 0
  acc := resetLive
  eff := resetLive
  brake := false
  forced := false
  enWritten := false
  rev := false
  car := resetCarrier
  drv := resetDrive
  trip := resetTrip
  group := { leader := n, member := false, leads := false, offs := 0 }
  ladder := resetLadder
  enc := { acc := 0, sinceError := none }
  probe := resetProbe
  inj := resetInj
  bemf := resetBemf
  runTicks := 0

/-- A gate channel after reset: no event, 25.0 degrees (log entry 9). -/
def resetChannel : Channel where
  dsActive := false
  soft := false
  gateFault := false
  overTemp := false
  temp := 250
  dsCount := 0
  vgate := 0

/-- Both STO inputs high, no demand (log entry 9). -/
def resetSto : Sto where
  in1 := true
  in2 := true
  hw1 := false
  hw2 := false
  source := false
  disc := false
  pulses := 0
  low1 := false
  low2 := false
  bothLow := false
  demand := false

/-- The supervisor after a power-on boot; readings as log entry 9 gives. -/
def resetSupv : Supv where
  reason := 0
  vauxTrip := false
  tempTrip := false
  domTrip := false
  domain := 0
  domDead := false
  domValid := false
  temp := 250
  vaux := 2400
  vbak := 3000

/-- A feedback interface after reset (12 R417, Tables 12.5-12.8). -/
def resetFb : Fb where
  count := 0
  a := false
  b := false
  z := false
  rev := false
  stamps := []
  speed := 0
  cntMeth := false
  wantCnt := false
  winNet := 0
  cmp := 0
  spacing := 0
  arm := false
  oneshot := false
  hitw := 0
  hitSig := false
  merged := 0
  idxMode := 0
  idxCnt := 0
  idxDev := 0
  phCnt := 0
  lfCnt := 0
  sinceIdx := none
  revSinceIdx := false
  stat := 0
  hits := 0
  bypass := 0
  heldCmp := none
  heldSpc := none
  heldPre := none

/-- The coefficients boot loads from a blank OTP region 1: OFS 0 and GAIN 0x8000 in each of the 192 pairs of
space 0x07 (13 R464, Table 13.13). -/
def blankCoef : WordMem := (List.range 192).map fun i => (2 * i + 1, 0x8000)

/-- An idle SAR converter. -/
def resetSar : Sar where
  run := none
  result := none
  pend := []
  lone := none
  loneResult := none

/-- The converters after reset (13 Tables 13.7-13.13). -/
def resetCnv : Cnv where
  stat := 0
  witness := 0
  res := []
  coef := blankCoef
  heldOfs := []
  heldMask := []
  sar := Vector.replicate 16 resetSar
  dac := Vector.replicate 8 0
  witAt := Vector.replicate 32 0
  stuck := 0

/-- Pins in their boot state (14 R499). -/
def resetPins : Pins where
  latch := 0
  level := 0
  sampled := 0
  fresh := 0
  extHigh := 0
  extLow := 0xF
  irq := 0
  irqEn := 0
  locked := 0
  held := 0
  holdLevel := 0
  holdOe := 0
  holdPullUp := 0
  holdPullDown := 0
  rxFault := 0
  fw := 0

/-- A Seam port after reset. -/
def resetPort : Port where
  up := false
  role := 0
  tree := none
  rseqAge := 0
  better := 0
  sender := 0
  senderNoId := false
  parentFlag := false
  tx := []
  lastRx := none
  delays := []
  badFrames := 0
  badTimes := []
  alerts := 0
  neighbour := 0
  queue := []
  out := none
  alertOut := []
  alertWait := []
  alertSent := 0

/-- A publication without a sample. -/
def resetPub : Pub where
  seq := 0
  loaded := false
  angle := 0
  speed := 0
  stamp := 0
  free := true

/-- A watched channel without a sample. -/
def resetWatch : Watch where
  held := false
  angle := 0
  speed := 0
  stamp := 0
  lastSeq := none
  fresh := false
  everUsable := false
  missed := 0
  hops := 0
  trip := false
  run := false
  gstop := false
  formed := false
  fpLo := none
  fpHi := none
  info2 := none
  infos := []
  aux := 0

/-- A closed session. -/
def resetSession : Session where
  isOpen := false
  peer := 0
  epoch := 0
  lastSeq := none
  stored := none
  key := none
  win := resetWindow
  since := 0

/-- The Seam link after reset: time 0 and FREE (15 15.4). -/
def resetSeam : Seam where
  time := 0
  corr := 0
  done := 0
  tstate := .free
  tcount := 0
  offset := 0
  measured := false
  offs := []
  stat := 0
  root := none
  isRoot := false
  parentPort := none
  hops := 0
  tooDeep := false
  rseq := 0
  cycle := 0
  ports := Vector.replicate 4 resetPort
  pubs := Vector.replicate 2 resetPub
  subs := Vector.replicate 4 resetWatch
  mems := Vector.replicate 8 resetWatch
  wrongSrc := Vector.replicate 4 0
  wrongOnce := 0
  samples := []
  roll := []
  epochs := []
  sess := Vector.replicate 4 resetSession
  lat := resetLatches
  outbox := []
  send := none
  inbox := []
  full := false
  gang := { formed := false, agree := 0, causes := Vector.replicate 8 0,
            agreeCycles := 0, configLeft := 0, brokenLeft := 0, configGang := 0 }
  dupId := false
  alertSeen := []

/-- No fault, an empty log (16 Tables 16.8-16.12). -/
def resetFaults : Faults where
  stat := 0
  top := 0
  empty := true
  count := 0
  trans := 0
  queues := Vector.replicate 10 []
  lasting := []
  history := []
  cache := []
  recent := []
  stestReq := 0
  stestRes := 0

/-- The cell of a counter that reads `v`, written as increment number `seq` (17 R598). -/
def tallyCell (v : DWord) (seq : Word) : List Word :=
  [loWord v, hiWord v, seq, crc16 [loWord v, hiWord v, seq]]

/-- The record store of a module as shipped, after the first boot counted itself in counter 0xC0
(17 R600, log entry 7): no bank, so NOREC (R590). -/
def resetStore : Store where
  mem := WordMem.putList [] (0x8000 + 32 * 0xC0) (tallyCell 1 1)
  op := none
  result := 0
  rollback := false
  norec := true
  bank := false
  erased := false
  chkFail := false
  done := false
  session := none
  seq := 0
  waiting := []

/-- The backup domain as shipped, just started on its VBAK (17 R613, log entry 6). -/
def resetBackup : Backup where
  rtc := 0
  frac := 0
  ram := []
  lo := 0
  hi := 0
  carry := 0
  ab := { a := false, b := false }
  abKnown := false
  ref := 0
  stat := 1
  alarm := 0
  since := 0
  shown := 0
  latched := false
  toLog := 0
  toLogBoot := 0
  vbakArmed := true

/-- No proof test since reset (19 Table 19.4). -/
def resetProof : Proof where
  running := false
  stoWait := false
  done := false
  pass := false
  stores := 0
  failed := 0
  passed := 0
  failedUnits := 0
  axes := 0
  sto := false
  seen := 0
  low := 0
  acted := 0
  times := Vector.replicate 2 0
  demand := false

/-- Every supply powered, RUN (01 Table 1.6). -/
def resetPower : Power where
  phase := .run
  vaux := true
  vio := true
  vbak := true
  pstate := .run
  target := none
  pwrReq := 0
  causes := 0
  reason := 0

/-- The machine right after reset. -/
def State.reset : State where
  pending := []
  now := 0
  free := 0
  power := resetPower
  host := resetHost
  lat := resetLatches
  win := Vector.replicate 4 resetWindow
  cfg := resetConfig
  boot := resetBoot
  otp := resetOtp
  src := Vector.replicate 32 resetSource
  paceFrac := Vector.replicate 2 0
  mains := Vector.replicate 2 resetMains
  stitch := resetStitch
  axes := Vector.ofFn resetAxis
  chan := Vector.replicate 48 resetChannel
  supply := Vector.replicate 32 { onOk := true, offOk := true }
  sto := resetSto
  spread := 3
  supv := resetSupv
  fb := Vector.replicate 8 resetFb
  cnv := resetCnv
  pin := resetPins
  seam := resetSeam
  flt := resetFaults
  store := resetStore
  bak := resetBackup
  proof := resetProof

end Sys2Proof.Machine
end

