-- ==== Sys2Proof/Machine/Ops.lean ====
section
/-! DEFINITION. Named operations over the state: fields of words, configuration reads, updates of one axis,
channel, interface or port, groups, the protection set-up's bridges, event bits. -/

namespace Sys2Proof.Machine

/-! ### Words -/

/-- Field [lo + n - 1 : lo] of a word, as a number. -/
def bits (w : Word) (lo n : Nat) : Nat := w.toNat / 2 ^ lo % 2 ^ n

/-- Bit `i` of a word. -/
def bit (w : Word) (i : Nat) : Bool := w.getLsbD i

/-- A value where 0 selects a default (06 R232). -/
def orDefault (v d : Nat) : Nat := if v = 0 then d else v

/-- A word with the low `n` bits kept. -/
def keepLow (w : Word) (n : Nat) : Word := w &&& BitVec.ofNat 16 (2 ^ n - 1)

/-- `v` with bit `i` set. -/
def setBit {n : Nat} (v : BitVec n) (i : Nat) : BitVec n := v ||| (1#n <<< i)

/-- `v` with bit `i` cleared. -/
def clearBit {n : Nat} (v : BitVec n) (i : Nat) : BitVec n := v &&& ~~~(1#n <<< i)

/-- `v` with bit `i` equal to `b`. -/
def putBit {n : Nat} (v : BitVec n) (i : Nat) (b : Bool) : BitVec n :=
  if b then setBit v i else clearBit v i

/-- A counting field that saturates at its highest value. -/
def satInc {n : Nat} (v : BitVec n) : BitVec n := if v = BitVec.allOnes n then v else v + 1

/-- A signed number clamped to `lo` .. `hi`. -/
def clampInt (v lo hi : Int) : Int := if v < lo then lo else if hi < v then hi else v

/-- A 16-bit register value of a signed number, saturating. -/
def satWord (v : Int) : Word := BitVec.ofInt 16 (clampInt v (-32768) 32767)

/-- The sign of a number: -1, 0 or 1. -/
def signOf (v : Int) : Int := if v < 0 then -1 else if v = 0 then 0 else 1

/-! ### Free values -/

/-- The number of the next free value and the state after its draw (log entry 3). -/
def drawFree (s : State) : Nat × State := (s.free, { s with free := s.free + 1 })

/-! ### One element of an indexed part -/

/-- Changes axis `n`. -/
def modAxis (n : Fin 8) (f : Axis → Axis) (s : State) : State :=
  { s with axes := s.axes.set n (f s.axes[n]) }

/-- Changes the drive control of axis `n`. -/
def modDrive (n : Fin 8) (f : Drive → Drive) (s : State) : State :=
  modAxis n (fun a => { a with drv := f a.drv }) s

/-- Changes the carrier of axis `n`. -/
def modCar (n : Fin 8) (f : Carrier → Carrier) (s : State) : State :=
  modAxis n (fun a => { a with car := f a.car }) s

/-- Changes the trip of bridge `n`. -/
def modTrip (n : Fin 8) (f : Trip → Trip) (s : State) : State :=
  modAxis n (fun a => { a with trip := f a.trip }) s

/-- Changes the ladder of axis `n`. -/
def modLadder (n : Fin 8) (f : Ladder → Ladder) (s : State) : State :=
  modAxis n (fun a => { a with ladder := f a.ladder }) s

/-- Changes the probe of axis `n`. -/
def modProbe (n : Fin 8) (f : Probe → Probe) (s : State) : State :=
  modAxis n (fun a => { a with probe := f a.probe }) s

/-- Changes the injection estimator of axis `n`. -/
def modInj (n : Fin 8) (f : Inj → Inj) (s : State) : State :=
  modAxis n (fun a => { a with inj := f a.inj }) s

/-- Changes the back-EMF estimator of axis `n`. -/
def modBemf (n : Fin 8) (f : Bemf → Bemf) (s : State) : State :=
  modAxis n (fun a => { a with bemf := f a.bemf }) s

/-- Changes gate channel `k`. -/
def modChan (k : Fin 48) (f : Channel → Channel) (s : State) : State :=
  { s with chan := s.chan.set k (f s.chan[k]) }

/-- Changes feedback interface `n`. -/
def modFb (n : Fin 8) (f : Fb → Fb) (s : State) : State :=
  { s with fb := s.fb.set n (f s.fb[n]) }

/-- Changes source `n`. -/
def modSrc (n : Fin 32) (f : Source → Source) (s : State) : State :=
  { s with src := s.src.set n (f s.src[n]) }

/-- Changes lane `l`. -/
def modLane (l : Fin 8) (f : Lane → Lane) (s : State) : State :=
  { s with stitch := { s.stitch with lanes := s.stitch.lanes.set l (f s.stitch.lanes[l]) } }

/-- Changes SAR converter `j`. -/
def modSar (j : Fin 16) (f : Sar → Sar) (s : State) : State :=
  { s with cnv := { s.cnv with sar := s.cnv.sar.set j (f s.cnv.sar[j]) } }

/-- Changes Seam port `p`. -/
def modPort (p : Fin 4) (f : Port → Port) (s : State) : State :=
  { s with seam := { s.seam with ports := s.seam.ports.set p (f s.seam.ports[p]) } }

/-- Changes the Seam link. -/
def modSeam (f : Seam → Seam) (s : State) : State := { s with seam := f s.seam }

/-- Writes one word of space 0x06. -/
def putRes (k : Nat) (w : Word) (s : State) : State :=
  { s with cnv := { s.cnv with res := s.cnv.res.put k w } }

/-- Applies `f` for each index in turn. -/
def forEach {α : Type} (l : List α) (f : α → State → State) (s : State) : State :=
  l.foldl (fun t x => f x t) s

/-- The axes in ascending order. -/
def allAxes : List (Fin 8) := List.finRange 8

/-! ### Configuration -/

/-- The key of a word of a space in the configuration memories. -/
def cfgKey (space addr : Nat) : Nat := space * 65536 + addr

/-- A word of the running configuration. -/
def runWord (s : State) (space addr : Nat) : Word := s.cfg.running.get (cfgKey space addr)

/-- A word of the shadow configuration. -/
def shadowWord (s : State) (space addr : Nat) : Word := s.cfg.shadow.get (cfgKey space addr)

/-- A Live word of a configuration space. -/
def liveWord (s : State) (space addr : Nat) : Word := s.cfg.live.get (cfgKey space addr)

/-- Word `off` of the parameter block of axis `n` in the running configuration (03 R113). -/
def axWord (s : State) (n : Fin 8) (off : Nat) : Word := runWord s 2 (256 * n.val + off)

/-- A 32-bit value of the parameter block of axis `n`. -/
def axWord32 (s : State) (n : Fin 8) (off : Nat) : Nat :=
  (joinWords (axWord s n off) (axWord s n (off + 1))).toNat

/-- A Commit-class register of the running configuration. -/
def runReg (s : State) (addr : Nat) : Word := runWord s 0x1F addr

/-- Writes the bits `mask` of a word of an axis block into the running configuration and the shadow alike (06 R221). -/
def writeBoth (n : Fin 8) (off : Nat) (mask w : Word) (s : State) : State :=
  let k := cfgKey 2 (256 * n.val + off)
  let merge := fun (m : WordMem) => m.put k ((m.get k &&& ~~~mask) ||| (w &&& mask))
  { s with cfg := { s.cfg with running := merge s.cfg.running, shadow := merge s.cfg.shadow } }

/-! ### Pins (chapter 14) -/

/-- Word `w` of pin block `p` in the running configuration (14 Table 14.5). -/
def pinWord (s : State) (p w : Nat) : Word := runWord s 9 (8 * p + w)

/-- Pin `p` is analogue (14 R476). -/
def pinAnalog (s : State) (p : Nat) : Bool := bit (pinWord s p 0) 7

/-- Pin `p` belongs to a differential pair (14 R477). -/
def pinDiff (s : State) (p : Nat) : Bool := decide (p < 32) && bit (pinWord s (p - p % 2) 0) 8

/-- Pin `p` is the odd pin of a differential pair, whose block is ignored (14 R477). -/
def pinPaired (s : State) (p : Nat) : Bool := pinDiff s p && p % 2 == 1

/-- Word `w` of pin block `p` as it acts (14 R477). -/
def padWord (s : State) (p w : Nat) : Word := if pinPaired s p then 0 else pinWord s p w

/-- The input level of pin `p` (14 R475, R477). -/
def inputLevel (s : State) (p : Nat) : Bool := s.pin.level.getLsbD p && !pinAnalog s p && !pinPaired s p

/-- Input signal `i` follows a pin: it is routed, to a pin whose input is on (14 R476, R477, R481). -/
def signalRouted (s : State) (i : Nat) : Bool :=
  let w := runWord s 9 (0x200 + i)
  let p := bits w 0 6
  bit w 7 && !pinAnalog s p && !pinPaired s p

/-- Input signal `i` (14 R481, Table 14.3). -/
def inputSignal (s : State) (i : Nat) : Bool :=
  let w := runWord s 9 (0x200 + i)
  bit w 7 && inputLevel s (bits w 0 6)

/-! ### The one-time memory as it reads (05 5.4, 5.5) -/

/-- Each bit by majority of three (05 R177). -/
def majority {n : Nat} (a b c : BitVec n) : BitVec n := (a &&& b) ||| (a &&& c) ||| (b &&& c)

/-- The fuses of redirection entry `i` as they read. -/
def redirFuses (t : Otp) (i : Fin 16) : BitVec 9 :=
  let copies := t.redir[i]
  majority copies[(0 : Fin 3)] copies[(1 : Fin 3)] copies[(2 : Fin 3)]

/-- The logical row that redirection entry `i` names, if it is valid. -/
def redirRow (t : Otp) (i : Fin 16) : Option (BitVec 8) :=
  if (redirFuses t i).getLsbD 8 then some ((redirFuses t i).extractLsb' 0 8) else none

/-- The spare row that stands for a logical row: the valid entry with the highest index (05 R177). -/
def spareOf (t : Otp) (row : Nat) : Option (Fin 16) :=
  (List.finRange 16).foldl (fun best i =>
    if redirRow t i = some (BitVec.ofNat 8 row) then some i else best) none

/-- A word as stored, read through the redirection table (05 R159). -/
def otpRaw (t : Otp) (a : Nat) : Word :=
  match spareOf t (a / 32) with
  | some i => t.spares.get (32 * i.val + a % 32)
  | none => t.cells.get a

/-- The state a LIFE word holds (05 R181). -/
def lifeOf (w : Word) : Nat :=
  if bits w 6 2 ≠ 0 then 4 else if bits w 4 2 ≠ 0 then 3 else if bits w 2 2 ≠ 0 then 2
  else if bits w 0 2 ≠ 0 then 1 else 0

/-- The life-cycle state as the fuses now stand; 4 while region 6 is unusable (05 R682). -/
def lifeNow (s : State) : Nat := if s.boot.lifeLost then 4 else lifeOf (otpRaw s.otp 0x0C00)

/-! ### Protection set-up (04 4.5) -/

/-- The bridge word of bridge `n` (04 Table 4.9). -/
def bridgeWord (s : State) (n : Fin 8) : Word := s.boot.setup.get (0x10 + n.val)

/-- Bridge `n` is enabled: by the set-up, and not left disabled by boot (04 R131, R134, R135). -/
def bridgeOn (s : State) (n : Fin 8) : Bool :=
  bit (bridgeWord s n) 0 && !s.boot.bridgeOff.getLsbD n.val

/-- The configured trip action of bridge `n` is LOW_SHORT (04 Table 4.9). -/
def lowShortSet (s : State) (n : Fin 8) : Bool := bit (bridgeWord s n) 2

/-- The rail a correct gate stands at, 0.1 V (09 Table 9.3). -/
def railOf (s : State) (n : Fin 8) (on : Bool) : Word :=
  match bit (bridgeWord s n) 1, on with
  | false, true => 150
  | false, false => -80
  | true, true => 180
  | true, false => -40

/-! ### Groups (08 8.6) -/

/-- The axis whose state machine drives axis `n`. -/
def leaderOf (s : State) (n : Fin 8) : Fin 8 :=
  if s.axes[n].group.member then s.axes[n].group.leader else n

/-- Axis `n` is a member of a group in effect. -/
def isMember (s : State) (n : Fin 8) : Bool := s.axes[n].group.member

/-- The axes of the group of axis `n`, itself included, ascending. -/
def groupOf (s : State) (n : Fin 8) : List (Fin 8) :=
  allAxes.filter fun m => leaderOf s m == leaderOf s n

/-- The state of axis `n`; a member reads its leader's (08 R294). -/
def axSt (s : State) (n : Fin 8) : AxSt := s.axes[leaderOf s n].st

/-- The driving states (10 R349). -/
def AxSt.driving : AxSt → Bool
  | .start | .run | .stopping | .hold | .gangstop => true
  | _ => false

/-- OFF, READY or LATCHED, the states in which an axis counts as stopped for 01 R34, 05 R186, 08 R296. -/
def AxSt.atRest : AxSt → Bool
  | .off | .ready | .latched => true
  | _ => false

/-- The code of an axis state (10 Table 10.7). -/
def AxSt.code : AxSt → Nat
  | .off => 0
  | .ready => 1
  | .probe => 2
  | .start => 3
  | .run => 4
  | .stopping => 5
  | .hold => 6
  | .tripped => 7
  | .test => 8
  | .latched => 9
  | .gangstop => 10

/-- The code of a rung (06 Table 6.3). -/
def Rung.code : Rung → Nat
  | .none => 0
  | .hold => 1
  | .inj => 2
  | .bemf => 3
  | .enc => 4
  | .seam => 5

/-! ### Event bits -/

/-- Sets bit `i` of SYS_STAT (02 Table 2.10). -/
def setSysStat (i : Nat) (s : State) : State :=
  { s with host := { s.host with sysStat := setBit s.host.sysStat i } }

/-- Sets bit `i` of AX_STAT of axis `n` (10 Table 10.8). -/
def setAxStat (i : Nat) (n : Fin 8) (s : State) : State :=
  modAxis n (fun a => { a with stat := setBit a.stat i }) s

/-- Sets bit `i` of AX_FBSTAT of interface `n` (12 Table 12.5). -/
def setFbStat (i : Nat) (n : Fin 8) (s : State) : State :=
  modFb n (fun f => { f with stat := setBit f.stat i }) s

/-- Sets bit `i` of CNV_STAT (13 Table 13.7). -/
def setCnvStat (i : Nat) (s : State) : State :=
  { s with cnv := { s.cnv with stat := setBit s.cnv.stat i } }

/-- Sets bit `i` of SEAM_STAT (15 Table 15.8). -/
def setSeamStat (i : Nat) (s : State) : State :=
  modSeam (fun m => { m with stat := setBit m.stat i }) s

/-- Sets bit `i` of FLT_STAT (16 Table 16.9). -/
def setFltStat (i : Nat) (s : State) : State :=
  { s with flt := { s.flt with stat := setBit s.flt.stat i } }

/-! ### Time -/

/-- Milliseconds since boot (16 R569). -/
def nowMs (s : State) : Nat := s.now / 200000

/-- Seam time is free-running (15 R525). -/
def timeFree (s : State) : Bool := s.seam.tstate == .free

/-! ### Power -/

/-- The module is past the boot gate. -/
def running (s : State) : Bool := s.power.phase == .run

/-- SYS_PSTATE reads RUN or STANDBY: everything configured is clocked (01 Table 1.6). -/
def awake (s : State) : Bool := running s && s.power.pstate != .sleep

/-- The backup domain is supplied: by VBAK, or by VIO while it stands (17 R613, 18 R639). Once the module has powered down
without VBAK, VIO does not keep it (18 Table 18.5; log entry 85). -/
def bakAlive (s : State) : Bool := s.power.vbak || (s.power.vio && s.power.phase != .off && s.power.phase != .backup)

/-- The RTC (17 R614): its count, with the backup-clock periods that have passed since the angle engine last stepped (log
entry 5). -/
def rtcNow (s : State) : BitVec 48 :=
  if awake s || !bakAlive s then s.bak.rtc else s.bak.rtc + BitVec.ofNat 48 (Config.clockElapsed s.free)

/-- Carriers run: SYS_PSTATE reads RUN (01 Table 1.6). -/
def carriersRun (s : State) : Bool := running s && s.power.pstate == .run

/-- The windows of the register map and of the sessions. -/
def allWindows (s : State) : List Window := s.win.toList ++ s.seam.sess.toList.map (·.win)

/-! ### Counters of the record store (17 Table 17.4) -/

/-- Adds `k` increments of counter `c` to those waiting: a counter that waits already adds up while the store
is out of service (17 R629), and otherwise queues again. -/
def addWaiting (merge : Bool) (c k : Nat) : List (Nat × Nat) → List (Nat × Nat)
  | [] => [(c, k)]
  | (d, m) :: r => if merge && d == c then (d, m + k) :: r else (d, m) :: addWaiting merge c k r

/-- The increments of each counter that wait, added up (17 R629). -/
def mergeTallies (l : List (Nat × Nat)) : List (Nat × Nat) := l.foldl (fun w x => addWaiting true x.1 x.2 w) []

/-- The store is lasting (16 Table 16.3, kind 10). -/
def storeOut (s : State) : Bool := s.flt.lasting.any fun u => u.unit.kind == 10

/-- Queues one increment of counter `c` (17 R600). -/
def countTally (c : Nat) (s : State) : State :=
  { s with store := { s.store with waiting := addWaiting (storeOut s) c 1 s.store.waiting } }

end Sys2Proof.Machine
end

