-- ==== Sys2Proof/Machine/AxisState.lean ====
section
/-! DEFINITION. The axis state machine's shared moves (10 Table 10.4): entering a state, clearing the brake
release, turning every switch off, and which switches and gates are on. -/

namespace Sys2Proof.Machine

/-- The prescaler of an axis: ticks per count (08 R272); a member counts as its leader does (08 R293). -/
def prescOf (s : State) (n : Fin 8) : Nat := 2 ^ bits (axWord s (leaderOf s n) 0x60) 0 2

/-- The carrier of member `n` stands at 0 until its leader's counter reaches its offset (08 R292, R304). -/
def parked (s : State) (n : Fin 8) : Bool := isMember s n && s.axes[n].car.resync

/-- The carrier counter of axis `n`, in counts (08 R272). -/
def carCount (s : State) (n : Fin 8) : Nat :=
  if parked s n then 0 else min (s.axes[n].car.ticks / prescOf s n) (s.axes[n].car.period - 1)

/-- Fine steps since the period start of axis `n`, inside the period; for a carrier that waits, since the wait began. -/
def carFine (s : State) (n : Fin 8) : Nat :=
  if parked s n then 16 * s.axes[n].car.ticks
  else min (16 * s.axes[n].car.ticks) (16 * s.axes[n].car.period * prescOf s n - 1)

/-- A pulse covers a position. -/
def Pulse.covers (p : Option Pulse) (x : Nat) : Bool :=
  match p with
  | none => false
  | some q => q.on ≤ x && x < q.off

/-- The switches probe direction `k` turns on: high sides and low sides of U, V, W (11 Table 11.1). -/
def probePattern : Nat → (Bool × Bool × Bool) × (Bool × Bool × Bool)
  | 0 => ((false, false, true), (true, false, false))
  | 1 => ((false, false, true), (true, true, false))
  | 2 => ((false, false, true), (false, true, false))
  | 3 => ((true, false, true), (false, true, false))
  | 4 => ((true, false, false), (false, true, false))
  | 5 => ((true, false, false), (false, true, true))
  | 6 => ((true, false, false), (false, false, true))
  | 7 => ((true, true, false), (false, false, true))
  | 8 => ((false, true, false), (false, false, true))
  | 9 => ((false, true, false), (true, false, true))
  | 10 => ((false, true, false), (true, false, false))
  | 11 => ((false, true, true), (true, false, false))
  | _ => ((false, false, false), (false, false, false))

/-- Component `leg` of a triple of legs. -/
def legOf (t : Bool × Bool × Bool) (leg : Fin 3) : Bool :=
  match leg.val with
  | 0 => t.1
  | 1 => t.2.1
  | _ => t.2.2

/-- The directions in the order of an attempt (11 R386). -/
def probeOrder : List Nat := [0, 6, 1, 7, 2, 8, 3, 9, 4, 10, 5, 11]

/-- The axis engine commands a switch on: the trip action and the pulses of the period (08 R277, 09 R323,
R324), or the probe (11 R386, R389). -/
def switchOn (s : State) (n : Fin 8) (leg : Fin 3) (high : Bool) : Bool :=
  let a := s.axes[n]
  let l := s.axes[leaderOf s n]
  if l.st = .probe then
    l.probe.running && l.probe.inPulse &&
      (let pat := probePattern (probeOrder.getD l.probe.pulse 12)
       legOf (if high then pat.1 else pat.2) leg)
  else if high then Pulse.covers a.car.legs[leg].high (carFine s n)
  else Pulse.covers a.car.legs[leg].low (carFine s n)

/-- The gate drive of the module is not removed: past the boot gate and in RUN (01 Table 1.6). -/
def drivePower (s : State) : Bool := running s && s.power.pstate == .run

/-- The gate of a switch is driven on: the command, the bridge, and the STO hardware path (09 R335). -/
def gateOn (s : State) (n : Fin 8) (leg : Fin 3) (high : Bool) : Bool :=
  drivePower s && bridgeOn s n && switchOn s n leg high &&
    !(if high then s.sto.hw1 else s.sto.hw2)

/-- The legs. -/
def allLegs : List (Fin 3) := List.finRange 3

/-- Every switch of bridge `n` is commanded off. -/
def allSwitchesOff (s : State) (n : Fin 8) : Bool :=
  allLegs.all fun leg => !switchOn s n leg true && !switchOn s n leg false

/-- The gate channel of a switch (01 Table 1.5). -/
def channelOf (n : Fin 8) (leg : Fin 3) (high : Bool) : Nat :=
  6 * n.val + 2 * leg.val + (if high then 0 else 1)

/-- A pulse cut short at position `x`. -/
def Pulse.cut (x : Nat) (p : Option Pulse) : Option Pulse :=
  match p with
  | none => none
  | some q => if q.on < x then some { q with off := min q.off x } else none

/-- For how long a switch that ends at position `e` on has been on, in fine steps; 0 for one that is off there. `base` is
what it had been on as the period started. -/
def Pulse.onFor (base e : Nat) (p : Option Pulse) : Nat :=
  match p with
  | none => 0
  | some q =>
    if q.on = 0 ∧ e ≤ q.off then e + base
    else if q.on < e ∧ e ≤ q.off then e - q.on
    else 0

/-- For how long a switch has been off at position `e`, 0 for one that is on there. `base` is what it had been off as the
period started. -/
def Pulse.offFor (base e : Nat) (p : Option Pulse) : Nat :=
  match p with
  | none => min farFine (base + e)
  | some q => if e ≤ q.on then min farFine (base + e) else e - q.off

/-- The leg at position `e` of its period, as a new period counts on from it: how long each switch has been on or off. -/
def Leg.ended (e : Nat) (l : Leg) : Leg :=
  { l with
    highFor := Pulse.onFor l.highFor e l.high
    highGap := Pulse.offFor l.highGap e l.high
    lowFor := Pulse.onFor l.lowFor e l.low
    lowGap := Pulse.offFor l.lowGap e l.low }

/-- A switch of the period turned off at position `x`; `probe` tells that a probe pulse holds it on. -/
def Pulse.stop (x : Nat) (probe : Bool) (p : Option Pulse) : Option Pulse :=
  if probe then some { on := 0, off := x } else Pulse.cut x p

/-- The leg with its switches off from position `x`; `ph` and `pl` tell which of them a probe pulse holds on. -/
def Leg.silent (x : Nat) (ph pl : Bool) (l : Leg) : Leg :=
  { l with mode := .off, point := 0, nominal := 0, den := 1, high := Pulse.stop x ph l.high, low := Pulse.stop x pl l.low }

/-- A probe pulse holds a switch on. -/
def probeOn (s : State) (n : Fin 8) (leg : Fin 3) (high : Bool) : Bool :=
  s.axes[leaderOf s n].st == .probe && switchOn s n leg high

/-- Turns every switch of bridge `n` off at once. -/
def switchesOff (n : Fin 8) (s : State) : State :=
  let legs := Vector.ofFn fun leg : Fin 3 =>
    Leg.silent (carFine s n) (probeOn s n leg true) (probeOn s n leg false) s.axes[n].car.legs[leg]
  modCar n (fun c => { c with legs := legs }) s

/-- The dead times of a leg in fine steps: DTR before the high side, DTF before the low side (08 Table
8.11). -/
def deadR (s : State) (n : Fin 8) (leg : Fin 3) : Nat := 16 * bits (axWord s n (0x61 + 2 * leg.val)) 0 10

/-- See `deadR`. -/
def deadF (s : State) (n : Fin 8) (leg : Fin 3) : Nat := 16 * bits (axWord s n (0x62 + 2 * leg.val)) 0 10

/-- A leg under LOW_SHORT from position `x`: the high side off, the low side on once the high side has been
off for the dead time `dtf` (09 R324, R328); `ph` and `pl` tell which switch a probe pulse holds on. -/
def Leg.short (x dtf : Nat) (ph pl : Bool) (l : Leg) : Leg :=
  let gap := if ph then 0 else Pulse.offFor l.highGap x l.high
  let low := match l.low with
    | some q => if q.on ≤ x ∧ x < q.off then q.on else x + (dtf - gap)
    | none => if pl then x else x + (dtf - gap)
  { l with mode := .off, point := 0, nominal := 0, den := 1, high := Pulse.stop x ph l.high,
           low := some { on := low, off := farFine } }

/-- Clears the brake-release output of axis `n` (10 R378). -/
def clearBrake (n : Fin 8) (s : State) : State :=
  if s.axes[n].brake then setAxStat 5 n (modAxis n (fun a => { a with brake := false }) s) else s

/-- Sets the brake-release output of axis `n` (10 R375). -/
def setBrake (n : Fin 8) (s : State) : State :=
  if s.axes[n].brake then s else setAxStat 5 n (modAxis n (fun a => { a with brake := true }) s)

/-- A force code with every "on" code turned to none (08 R301). -/
def dropOnForces (f : BitVec 12) : BitVec 12 :=
  f &&& ~~~((f >>> 1 &&& 0x555#12) ||| (f &&& 0xAAA#12))

/-- Applies `g` to the force codes of an axis, accepted and in effect. -/
def mapForce (g : BitVec 12 → BitVec 12) (a : Axis) : Axis :=
  { a with acc := { a.acc with force := g a.acc.force }, eff := { a.eff with force := g a.eff.force } }

/-- Ends a probe in progress with outcome ABORTED (11 Table 11.3); it has aligned nothing (Table 11.5). -/
def abortProbe (n : Fin 8) (s : State) : State :=
  modProbe n (fun p =>
    if p.running then { p with running := false, inPulse := false, outcome := 5, aligned := false } else p) s

/-- Ends convergence: CONVERGED clears, and SEEDED and the count with it (11 R402). -/
def Inj.lose (i : Inj) : Inj :=
  if i.converged then { i with converged := false, seeded := false, convCount := 0 } else i

/-- What an axis loses when it leaves the driving states: carry (10 R364), hem, injection lock (11 R402),
back-EMF lock (11 R410). -/
def Axis.leaveDriving (a : Axis) : Axis :=
  { a with
    car := { a.car with legs := a.car.legs.map fun l => { l with carry := 0 } }
    drv := { a.drv with hem := none, lrStart := none, preTqFrozen := none }
    inj := { a.inj.lose with base := false, gate := false, closedDiv := 0, injecting := false }
    bemf := { a.bemf with locked := false, run := 0, counted := 0, last := none, fixTime := none,
                          intervals := [], lastGap := none, integral := 0, heldE := 0, sectorMax := 0, broken := 0 } }

/-- What happens to a bridge of the group when its axis goes from `old` to `new`: estimators and forces
(08 R301). -/
def Axis.onChange (old new : AxSt) (a : Axis) : Axis :=
  let a := if old.driving && !new.driving then a.leaveDriving else a
  let a := if old = .ready then mapForce dropOnForces a else a
  let a := if new = .tripped ∨ new = .latched then mapForce (fun _ => 0) a else a
  { a with stat := setBit a.stat 0 }

/-- What reaching READY ends in the leader: the forced stop, waits and stops in progress. -/
def Axis.atReady (a : Axis) : Axis :=
  { a with forced := false
           drv := { a.drv with stop := .none, wait := .none, offNext := false } }

/-- Axis `n` (its leader, for a member) enters state `new`; READY with EN 0 is OFF (10 R381, Table 10.4). -/
def setState (n : Fin 8) (new : AxSt) (s : State) : State :=
  let l := leaderOf s n
  let old := s.axes[l].st
  let new := if new = .ready ∧ s.axes[l].eff.en = false then .off else new
  if old = new then s
  else
    let s := if old = .probe ∧ new ≠ .start then abortProbe l s else s
    let s := forEach (groupOf s n) (fun m => modAxis m (Axis.onChange old new)) s
    modAxis l (fun a =>
      let a := if new = .ready ∨ new = .off then a.atReady else a
      let a := if new = .run ∨ new = .stopping then a else { a with drv := { a.drv with lrStart := none } }
      { a with st := new }) s

/-- What every halt of an axis ends: the brake release (10 R378), a stop in progress. -/
def haltAxis (n : Fin 8) (s : State) : State :=
  let l := leaderOf s n
  modDrive l (fun d => { d with stop := .none, wait := .none, offNext := false }) (clearBrake l s)

/-- LATCHED (10 Table 10.4, 16 R571): ALL_OFF, brake release cleared; an axis in OFF stays in OFF. -/
def latchAxis (n : Fin 8) (s : State) : State :=
  if axSt s n = .off ∨ axSt s n = .latched then s
  else
    let s := forEach (groupOf s n) switchesOff (haltAxis n s)
    let s := forEach (groupOf s n) (fun m => modTrip m fun t =>
      { t with allOff := t.held, lowShort := false, clearing := false }) s
    setState n .latched s

/-- LATCHED ends: the axis enters READY, and a trip action still held ends with it (16 R574). -/
def unlatchAxis (n : Fin 8) (s : State) : State :=
  if axSt s n = .latched then
    let s := forEach (groupOf s n) (fun m => modTrip m fun t =>
      { t with held := false, first := 0, allOff := false, lowShort := false, forced := false,
               clearing := false }) s
    setState n .ready s
  else s

/-- AX_STATE of axis `n` (10 Table 10.7); a member reads its leader's (08 R294). -/
def axStateReg (s : State) (n : Fin 8) : Word :=
  let l := s.axes[leaderOf s n]
  let blend := match l.ladder.blend with
    | none => 0
    | some b => if b.upgrade then 2 else 1
  let inUse := match l.ladder.blend with
    | none => l.ladder.active
    | some b => b.toRung
  BitVec.ofNat 16 (l.st.code + 16 * inUse.code + 128 * blend)
    ||| flagBit l.brake 9 ||| flagBit l.forced 10 ||| flagBit l.rev 11

end Sys2Proof.Machine
end

