-- ==== Sys2Proof/Machine/Faults.lean ====
section
/-! DEFINITION. Faults and targeted tests (chapter 16): raising a fault, the test queues, classification,
lasting units and what they take out of service. -/

namespace Sys2Proof.Machine

/-! ### Codes and units -/

/-- Class and unit type of a fault code, bits [15:8] (16 R559). -/
def codeType (c : Word) : Nat := bits c 8 8

/-- The rows of Table 16.1 that escalate. -/
def escalates (c : Word) : Bool :=
  [0x10, 0x11, 0x20, 0x21, 0x30, 0x31, 0x32, 0x40, 0x50, 0x51, 0x61, 0x70, 0x80, 0x81, 0x90].contains
    (codeType c)

/-- A fault code from its type byte and unit field. -/
def faultCode (type unitField : Nat) : Word := BitVec.ofNat 16 (256 * type + unitField)

/-- The code under which a test that no error started is logged: detail 3 (16 R559, R577), and the plain
code for kind 11. Engine 8 is named by source 26 (log entry 10). -/
def testCode (u : TestUnit) : Word :=
  match u.kind with
  | 0 => faultCode 0x10 (0xC0 + u.index)
  | 1 => faultCode 0x11 (0xC0 + u.index)
  | 2 => faultCode 0x30 (0xC0 + u.index)
  | 3 => faultCode 0x31 (0xC0 + u.index)
  | 4 => faultCode 0x32 (0xC0 + u.index)
  | 5 => faultCode 0x40 (0xC0 + u.index)
  | 6 => faultCode 0x20 (0xC0 + u.index)
  | 7 => faultCode 0x21 (0xC0 + u.index)
  | 8 => faultCode 0x50 (0xC0 + if u.index = 8 then 26 else u.index)
  | 9 => faultCode 0x70 (0xC0 + u.index)
  | 10 => faultCode 0x80 (0xC0 + u.index)
  | _ => faultCode 0x90 u.index

/-- Axis numbers from a list of naturals. -/
def axList (l : List Nat) : List (Fin 8) := allAxes.filter fun n => l.contains n.val

/-- The axes a clock domain serves (16 Table 16.7, 01 Table 1.9). -/
def domainAxes (i : Nat) : List (Fin 8) :=
  if i < 48 then axList [i / 6]
  else if i < 96 then axList [(i - 48) / 6]
  else if i < 120 then axList [(i - 96) / 3]
  else if i < 144 then axList [(i - 120) / 3]
  else if i < 160 then axList [(i - 144) / 2]
  else if i < 164 then axList [2 * (i - 160), 2 * (i - 160) + 1]
  else if i < 196 then axList [(i - 164) % 8]
  else []

/-- The axes a unit is bound to (16 Tables 16.2, 16.3). -/
def unitAxes (u : TestUnit) : List (Fin 8) :=
  match u.kind with
  | 0 => axList [u.index / 6]
  | 1 => axList [u.index / 4]
  | 2 => axList [u.index / 2]
  | 3 => axList [2 * u.index, 2 * u.index + 1]
  | 4 => axList [u.index / 3]
  | 5 => axList [u.index]
  | 6 => axList [u.index / 3]
  | 7 => axList [u.index]
  | 8 => axList [u.index]
  | 11 => domainAxes u.index
  | 98 => axList [u.index]
  | 99 => allAxes
  | _ => []

/-- The queue of a unit: 0-7 the axis groups, 8 the system group, 9 the supervisor group (16 R562). -/
def queueOf (u : TestUnit) : Fin 10 :=
  match u.kind with
  | 9 => 8
  | 10 => 8
  | 11 => 9
  | 8 => if u.index = 8 then 8 else Fin.ofNat 10 (u.index % 8)
  | 3 => Fin.ofNat 10 (2 * u.index % 8)
  | 0 => Fin.ofNat 10 (u.index / 6 % 8)
  | 1 => Fin.ofNat 10 (u.index / 4 % 8)
  | 2 => Fin.ofNat 10 (u.index / 2 % 8)
  | 4 => Fin.ofNat 10 (u.index / 3 % 8)
  | 6 => Fin.ofNat 10 (u.index / 3 % 8)
  | _ => Fin.ofNat 10 (u.index % 8)

/-! ### Queues -/

/-- A unit is queued or under test (16 R563). -/
def isQueued (s : State) (u : TestUnit) : Bool :=
  s.flt.queues[queueOf u].any fun t => t.unit == u

/-- The test at the head of a queue may run: tests of gate channels and supplies wait until every switch of
their bridge is off (16 R561), that of the record store for the close of the boot gate (17 R591), that of a witness for
the SAR converter it disagreed with, in whatever queue that stands (13 R470, 16 R562). That of a demodulator while
another one of its axis is under test does not arise, as both stand in one queue (13 R458). -/
def mayRun (s : State) (u : TestUnit) : Bool :=
  if u.kind ≤ 1 then (unitAxes u).all fun n => allSwitchesOff s n
  else if u.kind = 10 ∧ s.power.phase = .boot then false
  else match s.flt.queues[queueOf u].find? fun t => t.unit == u with
    | some t => !t.after.any fun v => isQueued s v
    | none => true

/-- A unit's test runs: it stands at the head of its queue and may run. -/
def isTesting (s : State) (u : TestUnit) : Bool :=
  (match s.flt.queues[queueOf u].head? with
   | some t => t.unit == u
   | none => false) && mayRun s u

/-- A unit's test ended less than 1 ms ago (16 R564). -/
def justTested (s : State) (u : TestUnit) : Bool :=
  s.flt.recent.any fun r => r.1 == u && s.now < r.2 + 200000

/-- A unit is lasting (16 R571). -/
def isLasting (s : State) (u : TestUnit) : Bool := s.flt.lasting.any fun l => l.unit == u

/-- A test of a unit of the group of axis `n` is queued or runs (16 R565); its witness counts for the even
axis, in whose queue it stands. -/
def axisTesting (s : State) (n : Fin 8) : Bool :=
  (groupOf s n).any fun m => !(s.flt.queues[(Fin.ofNat 10 m.val : Fin 10)]).isEmpty

/-- AX_FAULT of axis `n`: the earliest lasting unit that remains (16 R571, R572). -/
def axFault (s : State) (n : Fin 8) : Word :=
  match s.flt.lasting.find? fun l => (unitAxes l.unit).contains n with
  | some l => l.code
  | none => 0

/-- Clock domain `i` failed its recheck and is dead (16 R581, Table 16.7). -/
def domainDead (s : State) (i : Nat) : Bool := isLasting s ⟨11, i⟩

/-- Engine 8 is lasting: sources 24 to 31 hold (16 Table 16.3). -/
def engineOut (s : State) : Bool := isLasting s ⟨8, 8⟩

/-- Mains tracker `m` turns: awake, its engine in service and its domain alive (16 Tables 16.3, 16.7). -/
def mainsRuns (s : State) (m : Fin 2) : Bool := awake s && !engineOut s && !domainDead s (196 + m.val)

/-- Changes the queue of a unit. -/
def modQueue (q : Fin 10) (f : List Test → List Test) (s : State) : State :=
  { s with flt := { s.flt with queues := s.flt.queues.set q (f s.flt.queues[q]) } }

/-- Adds `k` to a saturating counter word of space 0x06. -/
def addRes (a k : Nat) (s : State) : State :=
  putRes a (BitVec.ofNat 16 (min 65535 ((s.cnv.res.get a).toNat + k))) s

/-- The test DAC that the test of a unit takes over: T(n) for S(2n) and S(2n+1), T(2k) for W(k) (13 R466). -/
def testDac (u : TestUnit) : Option (Fin 8) :=
  if u.kind = 2 then some (Fin.ofNat 8 (u.index / 2))
  else if u.kind = 3 then some (Fin.ofNat 8 (2 * u.index))
  else none

/-- Puts a code on test DAC `n` (13 R465). -/
def putDac (n : Fin 8) (v : BitVec 10) (s : State) : State :=
  { s with cnv := { s.cnv with dac := s.cnv.dac.set n v } }

/-- A running test holds test DAC `n`. -/
def dacTaken (s : State) (n : Fin 8) : Bool :=
  [(⟨2, 2 * n.val⟩ : TestUnit), ⟨2, 2 * n.val + 1⟩].any (isTesting s) ||
    (n.val % 2 == 0 && isTesting s ⟨3, n.val / 2⟩)

/-- Test DAC `n` takes its committed TDAC word, 0 where the bridge is disabled (03 R115), unless a test holds it
(13 R465, R467, 13.11). -/
def freeDac (n : Fin 8) (s : State) : State :=
  if dacTaken s n then s
  else putDac n (if bridgeOn s n then (runWord s 5 (0x705 + 16 * n.val)).extractLsb' 0 10 else 0) s

/-- The test DAC of a unit whose test has ended returns to its committed code (13 R467). -/
def returnDac (u : TestUnit) (s : State) : State :=
  match testDac u with
  | some n => freeDac n s
  | none => s

/-- The slot and the pending starts of a converter end, the paired witness slot apart (13 R452, R467). -/
def Sar.stop (c : Sar) : Sar :=
  { resetSar with
    lone := if c.run.any fun r => r.wit.isSome then c.run else c.lone
    loneResult := if c.result.any fun r => r.run.wit.isSome && !r.stored then c.result else c.loneResult }

/-- What the start of a test does: the results of a SAR converter keep their values with HELD set, its slot
and pending starts end (13 R467); a bypass counter starts at 0 (12 R436). -/
def onTestStart (u : TestUnit) (s : State) : State :=
  if h : u.kind = 2 ∧ u.index < 16 then
    let j : Fin 16 := ⟨u.index, h.2⟩
    let k := s.cnv.sar[j].pend.length
    let s := addRes (0x160 + j.val) k s
    let s := if k = 0 then s else setCnvStat 2 s
    let s := modSar j Sar.stop s
    forEach (List.range 8) (fun i t =>
      putRes (8 * u.index + i) (setBit (t.cnv.res.get (8 * u.index + i)) 13) t) s
  else if h : u.kind = 5 ∧ u.index < 8 then modFb ⟨u.index, h.2⟩ (fun f => { f with bypass := 0 }) s
  else s

/-- The accumulated count of the encoder rung after `k` more steps (06 R202, 12 R418). -/
def stepAcc (s : State) (n : Fin 8) (k : Int) : Nat :=
  let cpr := axWord32 s n 0x89
  (((s.axes[n].enc.acc : Int) + k) % ((if cpr = 0 then 4294967296 else cpr : Nat) : Int)).toNat

/-- The change of count that disturbs a probe attempt when it is passed, 5 degrees electrical (11 R391). -/
def probeLimit (s : State) (n : Fin 8) : Nat := axWord32 s n 0x89 / (72 * max (bits (axWord s n 0x8B) 0 7) 1)

/-- Interface `n` counts `k` steps into the accumulation of the encoder rung (06 R202) and, while ENC_EN is 1, into the
net change of a probe attempt (11 R391). -/
def accumulate (n : Fin 8) (k : Int) (s : State) : State :=
  let lim := probeLimit s n
  let watch := s.axes[n].probe.running && bridgeOn s n && bit (axWord s n 0x80) 0
  modAxis n (fun a =>
    let net := a.probe.net + k
    { a with
      enc := { a.enc with acc := stepAcc s n k }
      probe := if watch then { a.probe with net := net, moved := a.probe.moved || decide (lim < net.natAbs) }
        else a.probe }) s

/-- What the end of a test does: the bypass total joins the count and the accumulation (12 R436), and a passed
test of a demodulator ends its stuck report (log entry 17). -/
def onTestEnd (u : TestUnit) (pass : Bool) (s : State) : State :=
  if h : u.kind = 5 ∧ u.index < 8 then
    let n : Fin 8 := ⟨u.index, h.2⟩
    let k := s.fb[n].bypass
    let s := accumulate n k s
    modFb n (fun f => { f with
      count := f.count + BitVec.ofInt 32 k, winNet := f.winNet + k, bypass := 0
      sinceIdx := f.sinceIdx.map (· + k) }) s
  else if u.kind = 4 && pass then
    { s with cnv := { s.cnv with stuck := clearBit s.cnv.stuck u.index } }
  else s

/-- Runs the start of the test at the head of a queue. -/
def startHead (q : Fin 10) (s : State) : State :=
  match s.flt.queues[q].head? with
  | some t => onTestStart t.unit s
  | none => s

/-- Queues a test; a unit stands in its queue at most once (16 R563). -/
def queueTest (t : Test) (s : State) : State :=
  if isQueued s t.unit then s
  else
    let q := queueOf t.unit
    let s' := modQueue q (fun l => l ++ [t]) s
    if (s.flt.queues[q]).isEmpty then startHead q s' else s'

/-! ### The log cache -/

/-- An entry detected now (16 Table 16.5). -/
def newEntry (s : State) (code : Word) (origin : Origin) (meas : Word) : LogEntry where
  code := code
  result := none
  origin := origin
  repeats := 0
  merged := false
  free := timeFree s
  time := s.seam.time
  rtc := rtcNow s
  axState := 0xFFFF
  meas := meas
  firstFail := 0
  units := []

/-- The cache holds 32 entries; a further one is lost (16 R582). -/
def cacheEntry (e : LogEntry) (s : State) : State :=
  if 32 ≤ s.flt.cache.length then setFltStat 8 s
  else { s with flt := { s.flt with cache := s.flt.cache ++ [e] } }

/-- Records a fault or a record that no test classifies (16 R567, RESULT as given). -/
def recordEntry (e : LogEntry) (result : BitVec 3) (s : State) : State :=
  cacheEntry { e with result := some result, units := [] } s

/-- Marks every entry that waits for `u` as merged (16 R563). -/
def markMerged (u : TestUnit) (s : State) : State :=
  { s with flt := { s.flt with cache := (s.flt.cache.map fun e =>
      if e.units.contains u then { e with merged := true } else e) } }

/-- A fault that waits in the cache joined the test of `u`. -/
def hasFault (s : State) (u : TestUnit) : Bool := s.flt.cache.any fun e => e.units.contains u

/-- The fault is an error of the unit its row tests. The sources, probes, trackers and axes of rows 0x50 to 0x61 are not
the engines and converters that those rows test (16 Table 16.1). -/
def unitError (c : Word) : Bool :=
  [0x10, 0x11, 0x20, 0x21, 0x30, 0x31, 0x32, 0x40, 0x70, 0x80, 0x81, 0x90].contains (codeType c)

/-- Raises a fault with its measurement; `units` are those its row of Table 16.1 tests. An error of a unit
under test, or tested less than 1 ms ago, is withheld (16 R564); any other that implicates a unit queued or under test
joins that test (R563). -/
def raiseFault (code : Word) (units : List TestUnit) (axState meas : Word) (s : State) :
    State :=
  if unitError code && units.any (fun u => isTesting s u || justTested s u) then s
  else
    let e := { newEntry s code .error meas with axState := axState }
    if units.isEmpty then recordEntry e 5 s
    else
      let merging := units.filter fun u => hasFault s u
      let s := cacheEntry { e with units := units } s
      let s := forEach merging markMerged s
      forEach units (fun u => queueTest { unit := u, code := code, origin := .error, proof := false, after := none }) s

/-- A fault boot finds, ORIGIN 1. It is recorded, for step 6 writes it (17 Table 17.6); the units its row tests are
tested once the gate closes, by tests that boot started (16 R577; log entry 110). -/
def bootFault (code : Word) (units : List TestUnit) (s : State) : State :=
  forEach units (fun u => queueTest { unit := u, code := code, origin := .boot, proof := false, after := none })
    (recordEntry (newEntry s code .boot 0) 5 s)

/-! ### Lasting units -/

/-- AX_STAT.FAULT of each axis whose AX_FAULT differs between two states (16 Table 16.12). -/
def noteFaults (old s : State) : State :=
  forEach allAxes (fun n t => if axFault old n = axFault s n then t else setAxStat 4 n t) s

/-- What goes with a unit out of service beside its axes: increments of one counter add up while the store is out (17
R629), and a dead domain 212 leaves OTP_CMD busy until a reset (16 Table 16.7). -/
def outOfService (u : TestUnit) (s : State) : State :=
  if u.kind = 10 then { s with store := { s.store with waiting := mergeTallies s.store.waiting } }
  else if u = ⟨11, 212⟩ then { s with otp := { s.otp with dead := true } }
  else s

/-- A unit becomes lasting: its axes are LATCHED and AX_FAULT follows (16 R571, Table 16.3). -/
def makeLasting (u : TestUnit) (code : Word) (s : State) : State :=
  if isLasting s u then s
  else
    let s' := outOfService u { s with flt := { s.flt with lasting := s.flt.lasting ++ [⟨u, code⟩] } }
    let s' := noteFaults s (setFltStat 2 s')
    forEach (unitAxes u) latchAxis s'

/-- A re-test clears a unit (16 R574). -/
def clearUnit (u : TestUnit) (s : State) : State :=
  let s' := { s with flt := { s.flt with
    lasting := s.flt.lasting.filter fun l => !(l.unit == u)
    history := s.flt.history.filter fun h => !(h.unit == u) } }
  let s' := noteFaults s s'
  forEach (unitAxes u) (fun n t =>
    if (groupOf t n).all (fun m => axFault t m == 0) then unlatchAxis n t else t) s'

/-! ### Classification (16 16.4) -/

/-- Puts the outcome of the test of `u` into every entry that waits for it; a lasting outcome stands over a
transient one. -/
def settleEntries (u : TestUnit) (result : BitVec 3) (repeats : BitVec 2) (firstFail : Word) (s : State) :
    State :=
  { s with flt := { s.flt with cache := (s.flt.cache.map fun e =>
      if e.units.contains u then
        let worse := match e.result with
          | none => true
          | some r => r.toNat < result.toNat
        { e with
          units := e.units.filter fun v => !(v == u)
          result := if worse then some result else e.result
          repeats := if worse then repeats else e.repeats
          firstFail := if e.firstFail = 0 then firstFail else e.firstFail }
      else e) } }

/-- Earlier transients of a unit and class within the last 1,000 s (16 R568). -/
def transientsOf (s : State) (u : TestUnit) (c : Nat) : List Transient :=
  s.flt.history.filter fun h => h.unit == u && h.cls == c && nowMs s ≤ h.time + 1000000

/-- The history without the entries of a unit and class. -/
def dropHistory (u : TestUnit) (c : Nat) (l : List Transient) : List Transient :=
  l.filter fun h => !(h.unit == u && h.cls == c)

/-- A passed test of a unit for a code: transient, or lasting by escalation (16 R567, R568). -/
def classifyPass (u : TestUnit) (code : Word) (s : State) : State :=
  let c := bits code 12 4
  let h := transientsOf s u c
  if escalates code && 2 ≤ h.length then
    let s := { s with flt := { s.flt with history := dropHistory u c s.flt.history } }
    let s := settleEntries u 3 3 0 s
    makeLasting u code (setFltStat 3 s)
  else
    let h' := if escalates code then h ++ [{ unit := u, cls := c, time := nowMs s }] else h
    let s := { s with flt := { s.flt with
      history := dropHistory u c s.flt.history ++ h'
      trans := satInc s.flt.trans } }
    setFltStat 1 (settleEntries u 1 (BitVec.ofNat 2 h'.length) 0 s)

/-- An entry of the test of a unit that no error started (16 R577), with AX_STATE of its axis. -/
def testEntry (s : State) (u : TestUnit) (origin : Origin) (firstFail : Word) : LogEntry :=
  { newEntry s (testCode u) origin 0 with
    firstFail := firstFail
    axState := match (unitAxes u).head? with
      | some n => axStateReg s n
      | none => 0xFFFF }

/-- A failed test makes its unit lasting (16 R567); one that no error started is logged under its own code
(R577), beside the faults that joined it. -/
def classifyFail (t : Test) (firstFail : Word) (s : State) : State :=
  let s := settleEntries t.unit 2 0 firstFail s
  if t.origin = .error then makeLasting t.unit t.code s
  else
    makeLasting t.unit (testCode t.unit) (recordEntry (testEntry s t.unit t.origin firstFail) 2 s)

/-- A test of a unit that is already lasting is a re-test (16 R574, R576, R577). -/
def settleRetest (t : Test) (pass : Bool) (firstFail : Word) (s : State) : State :=
  let firstFail := if pass then 0 else firstFail
  let s := settleEntries t.unit (if pass then 1 else 2) 0 firstFail s
  let s := recordEntry (testEntry s t.unit t.origin firstFail) (if pass then 4 else 2) s
  if pass then clearUnit t.unit (setFltStat 4 s) else s

/-- STEST_RES of the last host test (16 Table 16.11): KIND and INDEX with the given flags. -/
def stestResult (u : TestUnit) (flags : Nat) : Word :=
  BitVec.ofNat 16 (flags + 16 * u.kind + 256 * u.index)

/-- The last host test was of unit `u` (16 Table 16.11). -/
def isHostTest (s : State) (u : TestUnit) : Bool :=
  bits s.flt.stestRes 4 12 == u.kind % 16 + 16 * u.index

/-- A host test of a unit of the group of axis `n` is still queued. -/
def hostTestsLeft (s : State) (n : Fin 8) : Bool :=
  (groupOf s n).any fun m =>
    (s.flt.queues[(Fin.ofNat 10 m.val : Fin 10)]).any fun t => t.origin == .host

/-- A test leaves the head of its queue and is among the tests that ended lately (16 R562, R564). -/
def leaveQueue (u : TestUnit) (s : State) : State :=
  let s := modQueue (queueOf u) List.tail s
  { s with flt := { s.flt with
    recent := (s.flt.recent.filter fun r => s.now < r.2 + 200000) ++ [(u, s.now)] } }

/-- A test is a re-test of its unit: the host or an acknowledgement asked for it (16 R573, R576). Only a re-test clears a
lasting unit (R571). -/
def Test.isRetest (t : Test) : Bool := t.origin == .host || t.origin == .ack

/-- The codes of the faults that started or joined the test of `u`, in the order of their detection (16 R563). -/
def joinedCodes (s : State) (t : Test) : List Word :=
  (s.flt.cache.filter fun e => e.units.contains t.unit).map (·.code) ++ (if t.origin = .error then [t.code] else [])

/-- The code under which a passed test counts: that of a fault whose row escalates, if one joined (16 R568). -/
def countedCode (l : List Word) : Option Word :=
  match l.find? escalates with
  | some c => some c
  | none => l.head?

/-- The verdict of a test on its unit (16 R567, R572): `was` tells that the unit was lasting, `codes` are those of the
faults that started or joined the test. -/
def judgeTest (t : Test) (was pass : Bool) (codes : List Word) (firstFail : Word) (s : State) : State :=
  if was && t.isRetest then settleRetest t pass firstFail s
  else if !pass then classifyFail t firstFail s
  else match countedCode codes with
    | some c => classifyPass t.unit c s
    | none => s

/-- A test of the proof test is counted (19 R669). -/
def countProof (t : Test) (pass : Bool) (s : State) : State :=
  if t.proof then { s with proof := { s.proof with
    passed := s.proof.passed + (if pass then 1 else 0)
    failedUnits := s.proof.failedUnits + (if pass then 0 else 1)
    failed := if pass then s.proof.failed else satInc s.proof.failed } }
  else s

/-- A test that the host requested shows its result (16 R577). -/
def reportTest (t : Test) (pass : Bool) (s : State) : State :=
  if t.origin == .host && isHostTest s t.unit then
    setFltStat 5 { s with flt := { s.flt with stestRes := stestResult t.unit (1 + if pass then 2 else 0) } }
  else s

/-- The axes of a unit leave TEST once no host test of theirs is left (10 Table 10.4). -/
def leaveTest (u : TestUnit) (s : State) : State :=
  forEach (unitAxes u) (fun n v =>
    if axSt v n = .test && !hostTestsLeft v n then setState n .ready v else v) s

/-- The end of a test (16 R560, R568): its queue goes on, its unit is classified, a TEST axis returns to
READY after its last host test. -/
def completeTest (u : TestUnit) (pass : Bool) (firstFail : Word) (s : State) : State :=
  match s.flt.queues[queueOf u].head? with
  | none => s
  | some t =>
    if t.unit ≠ u ∨ !mayRun s u then s
    else
      let was := isLasting s u
      let s := judgeTest t was pass (joinedCodes s t) firstFail (leaveQueue u (onTestEnd u pass s))
      returnDac u (startHead (queueOf u) (leaveTest u (reportTest t pass (countProof t pass s))))

end Sys2Proof.Machine
end

