-- ==== Sys2Proof/Machine/Pwm.lean ====
section
/-! DEFINITION. Carriers, duty and dead time (chapter 08): the dither LFSR, the pulses of a leg, the loading of
a period, and the refusals of AX_PER and AX_FORCE. Positions are fine steps of 312.5 ps from the period
start. -/

namespace Sys2Proof.Machine

/-! ### Period lengths -/

/-- One step of the dither LFSR (08 R289). -/
def lfsrStep (l : Word) : Word := if l.getLsbD 0 then (l >>> 1) ^^^ 0xB400#16 else l >>> 1

/-- R of 08 R288 for a nominal period and a DITH. -/
def ditherRange (per dith : Nat) : Nat := per * dith / (1000 + dith)

/-- The committed DITH of the leader of axis `n`. -/
def dithOf (s : State) (n : Fin 8) : Nat := bits (axWord s (leaderOf s n) 0x68) 0 7

/-- The DITH applied: 0 while SYS_SPREAD.CARRDITH is 0 (09 Table 9.10). -/
def dithNow (s : State) (n : Fin 8) : Nat := if s.spread.getLsbD 1 then dithOf s n else 0

/-- The period length drawn from LFSR state `l` (08 R288). -/
def drawLength (per dith : Nat) (l : Word) : Nat := per - ditherRange per dith * l.toNat / 65536

/-- AX_PER in force for axis `n`, its leader's for a member (08 R293, R294). -/
def perOf (s : State) (n : Fin 8) : Nat := s.axes[leaderOf s n].eff.per.toNat

/-- OFFS of a member in effect (08 Table 8.10). -/
def offsOf (s : State) (n : Fin 8) : Nat := s.axes[n].group.offs.toNat

/-- The length of a member period (08 R292). -/
def memberLength (s : State) (n : Fin 8) : Nat :=
  let c := s.axes[leaderOf s n].car
  c.period - c.period * offsOf s n / 256 + c.next * offsOf s n / 256

/-- Draws the length of the period after the one in progress from LFSR state `l` and an AX_PER (08 R290). -/
def Carrier.draw (c : Carrier) (per dith : Nat) (l : Word) : Carrier :=
  { c with lfsr := l, next := drawLength per dith l, perNext := per }

/-- Moves the carrier of axis `n` to its next period: the length drawn a period ago comes into force and the one
after it is drawn now (08 R290). A live AX_PER comes into force with the period that starts (00 Table 0.4), so it is the
AX_PER of that draw, and the first period of the new length is the one after (log entry 94). -/
def advancePeriod (n : Fin 8) (s : State) : State :=
  modAxis n (fun a => { a with
    eff := { a.eff with per := a.acc.per }
    car := { a.car with period := a.car.next, per := a.car.perNext }.draw a.acc.per.toNat (dithNow s n)
      (lfsrStep a.car.lfsr) }) s

/-- The carrier of axis `n` is clocked and runs (08 R276, 01 Table 1.10). -/
def carrierOn (s : State) (n : Fin 8) : Bool := carriersRun s && bridgeOn s n

/-- Loads the LFSR with SEED (08 R289); the period start that takes the commit steps it and draws the next period from
the new state (8.10). A carrier that is stopped draws its first period now. -/
def reseed (n : Fin 8) (s : State) : State :=
  let seed := axWord s n 0x69
  if carrierOn s n then modCar n (fun c => { c with lfsr := seed }) s
  else modCar n (fun c => c.draw (perOf s n) (dithNow s n) (lfsrStep seed)) s

/-! ### The top carrier rate -/

/-- The top carrier rate for a nominal period, a prescaler and a DITH, in mHz, as a fraction (06 R208). -/
def topRate (per presc dith : Nat) : Nat × Nat := (200000000 * (1000 + dith), per * presc)

/-- The carrier VMAX words of axis `n` (06 Table 6.2); 0 stands for the top carrier rate, which is taken when a
commit takes effect (log entry 11). -/
def carrierVmax (s : State) (n : Fin 8) : Nat :=
  let v := axWord32 s n 0x94
  if v ≠ 0 then v
  else
    let r := topRate (perOf s n) (prescOf s n) (dithOf s n)
    if r.2 = 0 then 0 else (r.1 + r.2 - 1) / r.2

/-- Takes the carrier VMAX of every axis. -/
def refreshVmax (s : State) : State :=
  forEach allAxes (fun n t => modCar n (fun c => { c with vmax := carrierVmax s n }) t) s

/-! ### Pulses of a leg (08 8.2, 8.3) -/

/-- A pulse that is on at the end of the previous period, at its position `e`. -/
def Pulse.onAtEnd (e : Nat) (p : Option Pulse) : Bool :=
  match p with
  | none => false
  | some q => decide (q.on < e) && decide (e ≤ q.off)

/-- What the pulses of a leg depend on besides its mode and compare point: the period, the dead times, MINP and
the force codes of its high and low side. -/
structure LegCtx where
  period : Nat
  dtr : Nat
  dtf : Nat
  minp : Nat
  forceHigh : Nat
  forceLow : Nat
  deriving DecidableEq, Repr

/-- The pulses of an unforced leg whose high side waits `wh` and whose low side waits `wl` at the period start
(08 R278, R282, R284 with Table 8.3). -/
def freePulses (c : LegCtx) (mode : LegMode) (h wh wl : Nat) : Option Pulse × Option Pulse :=
  let mn := max c.minp 1
  match mode with
  | .off => (none, none)
  | .low => (none, some { on := wl, off := c.period })
  | .pwmH =>
    if min h c.period < wh + mn then (none, none)
    else (some { on := wh, off := min h c.period }, none)
  | .pwm =>
    if h < wh + mn then (none, some { on := wl, off := c.period })
    else if c.period < h + c.dtf + mn then (some { on := wh, off := c.period }, none)
    else (some { on := wh, off := h }, some { on := h + c.dtf, off := c.period })

/-- The pulses of a leg with its forces (08 R297, R298, R303). -/
def legPulses (c : LegCtx) (mode : LegMode) (h wh wl : Nat) : Option Pulse × Option Pulse :=
  if c.forceHigh = 2 then (some { on := wh, off := c.period }, none)
  else if c.forceLow = 2 then (none, some { on := wl, off := c.period })
  else
    let mode := if c.forceLow = 1 ∧ mode = .pwm then .pwmH else mode
    let p := freePulses c mode h wh wl
    (if c.forceHigh = 1 then none else p.1, if c.forceLow = 1 then none else p.2)

/-- The force code of a switch (08 Table 8.9). -/
def forceCode (f : BitVec 12) (leg : Fin 3) (high : Bool) : Nat :=
  f.toNat / 2 ^ (4 * leg.val + (if high then 0 else 2)) % 4

/-- MINP of axis `n` in fine steps. -/
def minpOf (s : State) (n : Fin 8) : Nat := 16 * bits (axWord s n 0x67) 0 8

/-- A leg's plan for a period: its mode, its compare point after dither scaling in fine steps, and its compare before
scaling as a fraction in 1/65536 tick. -/
structure LegPlan where
  mode : LegMode
  point : Nat
  nominal : Nat
  den : Nat
  deriving DecidableEq, Repr

/-- The plan of an idle leg. -/
def idlePlan : LegPlan where
  mode := .off
  point := 0
  nominal := 0
  den := 1

/-- The context of a leg of axis `n` in a period of `p` counts. -/
def legCtx (s : State) (n : Fin 8) (leg : Fin 3) (p : Nat) : LegCtx where
  period := 16 * p * prescOf s n
  dtr := deadR s n leg
  dtf := deadF s n leg
  minp := minpOf s n
  forceHigh := forceCode s.axes[n].eff.force leg true
  forceLow := forceCode s.axes[n].eff.force leg false

/-- A leg of a tripped or latched bridge after position `e`: it keeps its trip action, a low side of LOW_SHORT with its
turn-on still to come (09 R324, R326-R328). -/
def Leg.tripped (e : Nat) (lowShort : Bool) (l : Leg) : Leg :=
  { l.ended e with
    mode := .off, point := 0, nominal := 0, den := 1, high := none
    low := if lowShort then l.low.map fun q => { on := q.on - e, off := farFine } else none }

/-- Bridge `n` keeps its trip action. -/
def tripHolds (s : State) (n : Fin 8) : Bool := s.axes[n].trip.held || axSt s n == .latched

/-- The low sides of bridge `n` follow LOW_SHORT. -/
def shortHolds (s : State) (n : Fin 8) : Bool := s.axes[n].trip.held && s.axes[n].trip.lowShort

/-- A leg at a period start, the previous period having ended at position `e` (08 R277, R280, 09 R327). A switch that
is off waits out what is left of its dead time, however long ago its partner turned off. -/
def loadLeg (s : State) (n : Fin 8) (leg : Fin 3) (p e : Nat) (plan : LegPlan) : Leg :=
  let l := s.axes[n].car.legs[leg]
  if tripHolds s n then l.tripped e (shortHolds s n)
  else
    let c := legCtx s n leg p
    let l := l.ended e
    let wh := if 0 < l.highFor then 0 else c.dtr - l.lowGap
    let wl := if 0 < l.lowFor then 0 else c.dtf - l.highGap
    let pu := legPulses c plan.mode plan.point wh wl
    { l with
      mode := plan.mode, point := plan.point, nominal := plan.nominal, den := plan.den, high := pu.1, low := pu.2 }

/-- Starts a period of `p` counts on axis `n` with the given plan, the previous one having ended at position
`e`. -/
def loadPeriod (n : Fin 8) (p e : Nat) (plan : Vector LegPlan 3) (s : State) : State :=
  modCar n (fun c => { c with
    ticks := 0
    period := p
    fired := 0
    resync := false
    legs := Vector.ofFn fun leg => loadLeg s n leg p e plan[leg] }) s

/-- The end position of a period that runs to its length. -/
def periodEnd (s : State) (n : Fin 8) : Nat := 16 * s.axes[n].car.period * prescOf s n

/-- The live registers of axis `n` come into force at its period start, AX_PER apart (00 Table 0.4). -/
def adoptLive (n : Fin 8) (s : State) : State :=
  modAxis n (fun a => { a with eff := { a.acc with per := a.eff.per } }) s

/-- DFINE of a leg in force (08 Table 8.11). -/
def dfineOf (s : State) (n : Fin 8) (leg : Fin 3) : Nat :=
  s.axes[n].eff.dfine.toNat / 16 ^ leg.val % 16

/-- The compare of a leg in DIRECT mode, in fine steps before scaling: the leader's AX_CMP with the axis's own
DFINE (08 R279, R293). -/
def directCompare (s : State) (n : Fin 8) (leg : Fin 3) : Nat :=
  s.axes[leaderOf s n].eff.cmp[leg].toNat * prescOf s n * 16 + dfineOf s n leg

/-- A plan of the unscaled compare `u / den` in 1/65536 tick, scaled to a period of `p` counts and truncated to the fine
step (08 R288, R293). -/
def scalePlan (mode : LegMode) (u den p per : Nat) : LegPlan where
  mode := mode
  point := u * p / (4096 * (den * per))
  nominal := u
  den := den

/-! ### Refusals -/

/-- The shortest period of axis `n` in ticks, with AX_PER `per` (08 R283). -/
def shortestPeriod (s : State) (n : Fin 8) (per : Nat) : Nat :=
  let presc := prescOf s n
  let sh := (per - ditherRange per (dithOf s n)) * presc
  if isMember s n then sh - presc else sh

/-- Every leg of axis `n` fits a shortest period (08 R283). -/
def legsFit (s : State) (n : Fin 8) (shortest : Nat) : Bool :=
  allLegs.all fun leg =>
    decide ((deadR s n leg + deadF s n leg + 2 * minpOf s n) / 16 + 2 ≤ shortest)

/-- A live AX_PER breaks 08 R273, R283 or 06 R208, judged by the words of enabled bridges alone (03 R115). -/
def perRefused (s : State) (n : Fin 8) (data : Word) : Bool :=
  let per := data.toNat
  let presc := prescOf s n
  let r := topRate per presc (dithOf s n)
  (bridgeOn s n && (decide (per * presc < 2000) || decide (133333 < per * presc))) ||
    (groupOf s n).any fun m => bridgeOn s m &&
      (!legsFit s m (shortestPeriod s m per) || decide (s.axes[m].car.vmax * r.2 < r.1))

/-- AX_FORCE codes a switch on. -/
def codesOn (data : Word) : Bool :=
  allLegs.any fun leg =>
    forceCode (data.setWidth 12) leg true == 2 || forceCode (data.setWidth 12) leg false == 2

/-- AX_FORCE codes both switches of a leg on, or uses code 3 (08 R299). -/
def forceBad (data : Word) : Bool :=
  allLegs.any fun leg =>
    let h := forceCode (data.setWidth 12) leg true
    let l := forceCode (data.setWidth 12) leg false
    h == 3 || l == 3 || (h == 2 && l == 2)

end Sys2Proof.Machine
end

