-- ==== Sys2Proof/Machine/Trips.lean ====
section
/-! DEFINITION. Gate channels, trips and safe torque off (chapter 09): which trip sources are active, how a trip
latches over a group and is cleared, and the commands of the gate side and of the STO inputs. -/

namespace Sys2Proof.Machine

/-! ### Trip sources -/

/-- The gate channels of bridge `n`. -/
def bridgeChans (s : State) (n : Fin 8) : List Channel :=
  (List.finRange 6).map fun i => s.chan[(⟨6 * n.val + i.val, by omega⟩ : Fin 48)]

/-- The gate supplies of bridge `n`: UH, VH, WH, low side. -/
def bridgeSupplies (s : State) (n : Fin 8) : List Supply :=
  (List.finRange 4).map fun i => s.supply[(⟨4 * n.val + i.val, by omega⟩ : Fin 32)]

/-- Both rails are above their thresholds (09 R318). -/
def Supply.ok (p : Supply) : Bool := p.onOk && p.offOk

/-- Word `w` of bridge block `n` of space 0x08 (09 Table 9.12). -/
def tripWord (s : State) (n : Fin 8) (w : Nat) : Word := runWord s 8 (0x300 + 16 * n.val + w)

/-- A supervisor trip decision is in force (16 R578, R580). -/
def supvTrip (s : State) : Bool := s.supv.vauxTrip || s.supv.tempTrip || s.supv.domTrip

/-- External trip input `k` has stood for 30 ns at the level that bridge `n` takes as active (09 Table 9.12 EXTPOL). -/
def extStands (s : State) (n : Fin 8) (k : Nat) : Bool :=
  if bit (tripWord s n 4) k then s.pin.extHigh.getLsbD k else s.pin.extLow.getLsbD k

/-- The external trip inputs that are active and enabled for bridge `n`. -/
def extActive (s : State) (n : Fin 8) : BitVec 4 :=
  (List.range 4).foldl (fun v k => putBit v k (bit (tripWord s n 0) (3 + k) && extStands s n k)) 0

/-- Source `c` of bridge `n` is active (09 Table 9.6); the numbers are the bits of AX_TRIP. INT (7) and GROUP (9)
are active at an instant only. -/
def sourceActive (s : State) (n : Fin 8) (c : Nat) : Bool :=
  let t := s.axes[n].trip
  let w := tripWord s n 0
  match c with
  | 0 => (bridgeChans s n).any fun k => k.dsActive
  | 1 => bit w 0 && t.oc != 0
  | 2 => bit w 1 && t.ov
  | 3 => bit w 2 && t.uv
  | 4 => s.sto.source
  | 5 => extActive s n != 0
  | 6 => supvTrip s
  | 8 => (bridgeChans s n).any (fun k => k.gateFault || k.overTemp) || (bridgeSupplies s n).any fun p => !p.ok
  | _ => false

/-- Some source of bridge `n` is active. -/
def anySource (s : State) (n : Fin 8) : Bool := (List.range 9).any fun c => sourceActive s n c

/-- Source `c` is watched in an axis state (09 Table 9.4). -/
def watchedIn (c : Nat) : AxSt → Bool
  | .off | .latched => false
  | .ready | .tripped => c != 3
  | _ => true

/-- Source `c` of bridge `n` is watched. -/
def watched (s : State) (n : Fin 8) (c : Nat) : Bool := bridgeOn s n && watchedIn c (axSt s n)

/-- AX_TRIP.ACTIVE: a source of the group is active or has been quiet for less than 10 us. -/
def tripBusy (s : State) (n : Fin 8) : Bool :=
  (groupOf s n).any fun m => s.axes[m].trip.active || anySource s m

/-! ### The trip action (09 R321-R328) -/

/-- Causes that force ALL_OFF: DESAT, STO, CHAN (09 R325). -/
def forcingCauses : BitVec 10 := 0x111

/-- The lowest cause of a set, as AX_TRIP.FIRST codes it. -/
def firstCause (c : BitVec 10) : BitVec 4 :=
  match (List.range 10).find? fun i => c.getLsbD i with
  | some i => BitVec.ofNat 4 (i + 1)
  | none => 0

/-- Bridge `n` starts its trip action with causes `c` (09 R323-R325). -/
def startTripAction (n : Fin 8) (c : BitVec 10) (s : State) : State :=
  let forced := c &&& forcingCauses != 0
  let short := lowShortSet s n && !forced
  let x := carFine s n
  let legs := Vector.ofFn fun leg =>
    if short then
      Leg.short x (deadF s n leg) (probeOn s n leg true) (probeOn s n leg false) s.axes[n].car.legs[leg]
    else Leg.silent x (probeOn s n leg true) (probeOn s n leg false) s.axes[n].car.legs[leg]
  let s := countTally (0x40 + 16 * n.val + ((firstCause c).toNat - 1)) (modCar n (fun k => { k with legs := legs }) s)
  modTrip n (fun t => { t with
    first := firstCause c
    held := true
    allOff := !short
    lowShort := short
    forced := forced && lowShortSet s n
    trips := satInc t.trips }) s

/-- A forcing cause that arrives while LOW_SHORT holds turns the low sides off (09 R325). -/
def forceAllOff (n : Fin 8) (s : State) : State :=
  if s.axes[n].trip.lowShort then
    modTrip n (fun t => { t with allOff := true, lowShort := false, forced := true }) (switchesOff n s)
  else s

/-- The causes that reach bridge `n` from the new causes of its group: its own, or GROUP (09 R295). -/
def groupCause (own : BitVec 10) : BitVec 10 := if own = 0 then 0x200 else own

/-- New causes reach the bridges of the group of leader `l`: they are set in AX_TRIP, cancel a clear that waits
for its period start, and trip the group unless it is tripped. -/
def tripGroup (new : Vector (BitVec 10) 8) (l : Fin 8) (s : State) : State :=
  let g := (groupOf s l).filter fun m => bridgeOn s m
  if g.all (fun m => new[m] == 0) then s
  else
    let s := forEach g (fun m => modTrip m fun t => { t with causes := t.causes ||| new[m], clearing := false }) s
    if axSt s l = .tripped then
      forEach g (fun m t => if new[m] &&& forcingCauses != 0 then forceAllOff m t else t) s
    else
      let s := forEach g (fun m t =>
        modTrip m (fun r => { r with causes := r.causes ||| groupCause new[m] })
          (startTripAction m (groupCause new[m]) t)) s
      setState l .tripped (haltAxis l s)

/-- New watched causes reach every group at once. -/
def tripAll (new : Vector (BitVec 10) 8) (s : State) : State :=
  forEach (allAxes.filter fun n => !isMember s n) (tripGroup new) s

/-- The causes of bridge `n` that became active from `old` to `s`. -/
def newSources (old s : State) (n : Fin 8) : BitVec 10 :=
  (List.range 9).foldl (fun v c =>
    if sourceActive s n c && !sourceActive old n c then setBit v c else v) 0

/-- The watched ones among causes `c`. -/
def watchedOf (s : State) (n : Fin 8) (c : BitVec 10) : BitVec 10 :=
  (List.range 9).foldl (fun v i => if c.getLsbD i && watched s n i then setBit v i else v) 0

/-- What sources that became active since `old` do: their quiet time has to start again, and a watched one trips
(09 R321, R329). -/
def settleTrips (old s : State) : State :=
  let new := Vector.ofFn fun n => newSources old s n
  let s := forEach allAxes (fun n t =>
    if new[n] = 0 then t else modTrip n (fun r => { r with active := true }) t) s
  tripAll (Vector.ofFn fun n => watchedOf s n new[n]) s

/-- Changes the state by `f` and lets the sources that become active trip. -/
def withTrips (f : State → State) (s : State) : State := settleTrips s (f s)

/-- EXTMAP of every enabled bridge names the external inputs that are active for it (09 Table 9.12). -/
def noteExternal (s : State) : State :=
  forEach allAxes (fun n t =>
    if bridgeOn t n && extActive t n != 0 then modTrip n (fun r => { r with extMap := r.extMap ||| extActive t n }) t
    else t) s

/-- An axis that entered a watched state: a source already active latches (log entry 12). -/
def rewatch (n : Fin 8) (s : State) : State :=
  if axSt s n = .tripped then s
  else
    let new := Vector.ofFn fun m =>
      if leaderOf s m = leaderOf s n then
        (List.range 9).foldl (fun v c =>
          if sourceActive s m c && watched s m c then setBit v c else v) (0 : BitVec 10)
      else 0
    tripGroup new (leaderOf s n) s

/-- The axes that a re-test has taken from LATCHED to a state that watches again: a source already active latches (09
R321, log entry 12). -/
def rewatchFreed (old s : State) : State :=
  forEach (allAxes.filter fun n => !isMember s n && axSt old n == .latched && axSt s n != .latched) rewatch s

/-- An internal trip of axis `n` (06 R231, 07 R252): active at the instant only. -/
def tripInternal (n : Fin 8) (s : State) : State :=
  let s := modTrip n (fun r => { r with active := true }) s
  if watched s n 7 then
    tripGroup (Vector.ofFn fun m => if m = n then 0x080 else 0) (leaderOf s n) s
  else s

/-! ### Clearing (09 9.7) -/

/-- The trip action of a group ends at its period start (09 R331). -/
def finishClear (l : Fin 8) (s : State) : State :=
  let s := forEach (groupOf s l) (fun m t =>
    modTrip m (fun r => { r with
      held := false, first := 0, allOff := false, lowShort := false, forced := false, clearing := false })
      (switchesOff m t)) s
  setState l .ready s

/-- The statuses that refuse a write of AX_TRIPCLR (09 R329, R333). -/
def tripClearRefused (s : State) (n : Fin 8) (data : Word) : Bool :=
  !isMember s n &&
    (axSt s n == .latched || (axSt s n == .tripped && bit data 0 && tripBusy s n))

/-- An accepted write of AX_TRIPCLR: DSMAP and EXTMAP of the group start anew (09 Table 9.12), and the trip action ends
at the next period start (R331); without a running carrier it does at once (log entry 13). -/
def clearTrip (n : Fin 8) (data : Word) (s : State) : State :=
  if isMember s n || axSt s n != .tripped || !bit data 0 then s
  else
    let s := forEach (groupOf s n) (fun m => modTrip m fun t => { t with dsMap := 0, extMap := 0 }) s
    if carrierOn s n then modTrip n (fun t => { t with clearing := true }) s
    else finishClear n s

/-- AX_TRIP (09 Table 9.7). -/
def axTripReg (s : State) (n : Fin 8) : Word :=
  let t := s.axes[n].trip
  t.causes.setWidth 16 ||| (t.first.setWidth 16 <<< 10) ||| flagBit (tripBusy s n) 14 ||| flagBit t.held 15

/-! ### Commands of the gate side -/

/-- The bridge, leg and side of a gate channel (01 Table 1.5). -/
def chanBridge (k : Fin 48) : Fin 8 := ⟨k.val / 6, by omega⟩

/-- The leg of a gate channel. -/
def chanLeg (k : Fin 48) : Fin 3 := ⟨k.val % 6 / 2, by omega⟩

/-- A gate channel is a high side. -/
def chanHigh (k : Fin 48) : Bool := k.val % 2 == 0

/-- The channel is on, so that it watches its sense line (09 R313). -/
def chanDriven (s : State) (k : Fin 48) : Bool := gateOn s (chanBridge k) (chanLeg k) (chanHigh k)

/-- Raises a fault of axis `n` on one unit. -/
def raiseOn (n : Fin 8) (code : Word) (u : TestUnit) (meas : Word) (s : State) : State :=
  raiseFault code [u] (axStateReg s n) meas s

/-- DESAT_DETECT (09 R313-R316). -/
def desatDetect (k : Fin 48) (s : State) : State :=
  let n := chanBridge k
  if bit (runWord s 8 (16 * k.val + 2)) 8 && chanDriven s k then
    let s' := raiseOn n (faultCode 0x10 k.val) ⟨0, k.val⟩ 0 s
    let s' := modTrip n (fun t => { t with dsMap := setBit t.dsMap (k.val % 6) }) s'
    let s' := modChan k (fun c => { c with dsActive := true, soft := true, dsCount := satInc c.dsCount }) s'
    switchesOff n (settleTrips s s')
  else s

/-- See `desatDetect`. -/
def execDesatDetect (ch : Fin 48) (s : State) : Host.Outcome State Fault Refusal := .next (desatDetect ch s)

/-- SOFT_TURNOFF_END (09 R314, R315). -/
def execSoftTurnoffEnd (ch : Fin 48) (s : State) : Host.Outcome State Fault Refusal :=
  .next (modChan ch (fun c => { c with dsActive := false, soft := false }) s)

/-- Gate supplies of an enabled bridge run and are monitored outside SLEEP (09 R318). -/
def gateSide (s : State) (n : Fin 8) : Bool := awake s && bridgeOn s n

/-- A gate supply in the steps of boot (04 Table 4.5) and outside them. -/
inductive SupplyState where
  | off
  | started
  | on
  deriving DecidableEq, Repr

/-- The gate supplies of bridge `n` (04 R124, R126, Table 4.5, 09 R318). -/
def supplyState (s : State) (n : Fin 8) : SupplyState :=
  if gateSide s n then .on
  else if s.power.phase == .boot && bridgeOn s n && decide (5 ≤ s.boot.step) then
    (if s.boot.step = 5 then .started else .on)
  else .off

/-- A gate in boot (04 Table 4.5): on the passive pull-down of its channel, or at the turn-off voltage with the Miller
clamp on. -/
inductive BootGate where
  | passive
  | clamped
  deriving DecidableEq, Repr

/-- The gates of bridge `n` in boot (04 Table 4.5). -/
def bootGate (s : State) (n : Fin 8) : BootGate := if supplyState s n = .off then .passive else .clamped

/-- The bridge of a gate supply. -/
def supplyBridge (p : Fin 32) : Fin 8 := ⟨p.val / 4, by omega⟩

/-- A fault of axis `n` on one unit, in boot as boot records it (16 R577). -/
def raiseOrBoot (n : Fin 8) (code : Word) (u : TestUnit) (s : State) : State :=
  if s.power.phase = .boot then bootFault code [u] s else raiseOn n code u 0 s

/-- SUPPLY_UNDERVOLTAGE (09 R318): a supply is monitored from the moment it is ready, in boot too, until it stops. -/
def supplyUndervoltage (p : Fin 32) (offRail : Bool) (s : State) : State :=
  let n := supplyBridge p
  let old := s.supply[p]
  if supplyState s n = .on ∧ (if offRail then old.offOk else old.onOk) = true then
    let s' := raiseOrBoot n (faultCode 0x11 (p.val + if offRail then 64 else 0)) ⟨1, p.val⟩ s
    let new : Supply := if offRail then { old with offOk := false } else { old with onOk := false }
    settleTrips s { s' with supply := s'.supply.set p new }
  else s

/-- See `supplyUndervoltage`. -/
def execSupplyUndervoltage (sup : Fin 32) (offRail : Bool) (s : State) : Host.Outcome State Fault Refusal :=
  .next (supplyUndervoltage sup offRail s)

/-- GATE_SUPPLY_RECOVERY (09 R330): the supply is no longer a source. -/
def execGateSupplyRecovery (sup : Fin 32) (s : State) : Host.Outcome State Fault Refusal :=
  .next { s with supply := s.supply.set sup { onOk := true, offOk := true } }

/-- GATE_VOLTAGE_FAULT (09 R319). -/
def gateVoltageFault (k : Fin 48) (v : Word) (s : State) : State :=
  let n := chanBridge k
  if gateSide s n && !s.chan[k].gateFault then
    let s' := raiseOn n (faultCode 0x10 (64 + k.val)) ⟨0, k.val⟩ v s
    settleTrips s (modChan k (fun c => { c with gateFault := true, vgate := v }) s')
  else s

/-- See `gateVoltageFault`. -/
def execGateVoltageFault (ch : Fin 48) (vgate : Word) (s : State) : Host.Outcome State Fault Refusal :=
  .next (gateVoltageFault ch vgate s)

/-- GATE_VOLTAGE_MISMATCH_END (09 R319, R330). -/
def execGateVoltageMismatchEnd (ch : Fin 48) (s : State) : Host.Outcome State Fault Refusal :=
  .next (modChan ch (fun c => { c with gateFault := false }) s)

/-- TTRIP of a channel in 0.1 degrees (09 Table 9.11). -/
def tripTemp (s : State) (k : Fin 48) : Int := 10 * orDefault (bits (runWord s 8 (16 * k.val + 3)) 0 8) 150

/-- CHANNEL_TEMPERATURE_MEASURE (09 R320). -/
def channelTemperature (k : Fin 48) (v : Word) (s : State) : State :=
  let n := chanBridge k
  if gateSide s n then
    let s1 := modChan k (fun c => { c with temp := v }) s
    if !s.chan[k].overTemp && tripTemp s k < v.toInt then
      let s' := raiseOn n (faultCode 0x10 (128 + k.val)) ⟨0, k.val⟩ v s1
      settleTrips s (modChan k (fun c => { c with overTemp := true }) s')
    else if v.toInt ≤ tripTemp s k - 100 then modChan k (fun c => { c with overTemp := false }) s1
    else s1
  else s

/-- See `channelTemperature`. -/
def execChannelTemperatureMeasure (ch : Fin 48) (temp : Word) (s : State) :
    Host.Outcome State Fault Refusal := .next (channelTemperature ch temp s)

/-- EXTERNAL_TRIP_INPUT (09 R322, Table 9.4): the input has stood for 30 ns at its present level, which is the
active one for the bridges whose EXTPOL says so. -/
def externalTrip (k : Fin 4) (s : State) : State :=
  let high := inputSignal s (24 + k.val)
  withTrips (fun s => noteExternal { s with pin := { s.pin with
    extHigh := putBit s.pin.extHigh k.val high, extLow := putBit s.pin.extLow k.val !high } }) s

/-- See `externalTrip`. -/
def execExternalTripInput (k : Fin 4) (s : State) : Host.Outcome State Fault Refusal := .next (externalTrip k s)

/-- EXTERNAL_TRIP_INPUT_INACTIVE (09 R330): the input is no source of a bridge for which its present level is
inactive. -/
def execExternalTripInputInactive (k : Fin 4) (s : State) : Host.Outcome State Fault Refusal :=
  let high := inputSignal s (24 + k.val)
  .next { s with pin := { s.pin with
    extHigh := if high then s.pin.extHigh else clearBit s.pin.extHigh k.val
    extLow := if high then clearBit s.pin.extLow k.val else s.pin.extLow } }

/-- TRIP_SOURCE_QUIET (09 R329): every source of the group has been inactive for 10 us. -/
def tripSourceQuiet (n : Fin 8) (s : State) : State :=
  if (groupOf s n).any fun m => anySource s m then s
  else forEach (groupOf s n) (fun m => modTrip m fun r => { r with active := false }) s

/-- See `tripSourceQuiet`. -/
def execTripSourceQuiet (ax : Fin 8) (s : State) : Host.Outcome State Fault Refusal :=
  .next (tripSourceQuiet ax s)

/-! ### Safe torque off (09 9.8) -/

/-- STO1 for 0 and STO2 for 1 is high. -/
def Sto.input (t : Sto) (which : Fin 2) : Bool := if which = 0 then t.in1 else t.in2

/-- The other input. -/
def otherInput (which : Fin 2) : Fin 2 := if which = 0 then 1 else 0

/-- The input with a new level; HW1 and HW2 release at once with a high input (09 R335). -/
def Sto.setInput (t : Sto) (which : Fin 2) (high : Bool) : Sto :=
  let t := if high then { t with demand := false } else t
  if which = 0 then { t with in1 := high, hw1 := t.hw1 && !high }
  else { t with in2 := high, hw2 := t.hw2 && !high }

/-- Whether the present low of an input may still end as a test pulse. -/
def Sto.setLow (t : Sto) (which : Fin 2) (b : Bool) : Sto :=
  if which = 0 then { t with low1 := b } else { t with low2 := b }

/-- See `Sto.setLow`. -/
def Sto.isLow (t : Sto) (which : Fin 2) : Bool := if which = 0 then t.low1 else t.low2

/-- A falling input (09 R337, R340). -/
def Sto.fall (t : Sto) (which : Fin 2) : Sto :=
  let t := (t.setInput which false).setLow which true
  { t with bothLow := t.bothLow || (t.disc && !t.in1 && !t.in2) }

/-- A rising input: a low that raised no demand was a test pulse (09 R338, log entry 14); both inputs high end
the source and, after both were low together, DISC (R340, R341). -/
def Sto.rise (t : Sto) (which : Fin 2) : Sto :=
  let t := if t.isLow which then { t with pulses := t.pulses + 1 } else t
  let t := (t.setInput which true).setLow which false
  if t.in1 && t.in2 then
    let t := if t.disc && t.bothLow then { t with disc := false, bothLow := false } else t
    { t with source := t.source && t.disc }
  else t

/-- Changes the STO part; an STO source that becomes active trips every axis (09 R337). -/
def modSto (f : Sto → Sto) (s : State) : State := withTrips (fun t => { t with sto := f t.sto }) s

/-- STO_INPUT_CHANGE (09 R335, R338, R340, R341). The hardware path follows in every power state (R336); the
logic path runs past the boot gate. -/
def stoInputChange (which : Fin 2) (high : Bool) (s : State) : State :=
  if s.sto.input which = high then s
  else if running s then modSto (fun t => if high then t.rise which else t.fall which) s
  else { s with sto := s.sto.setInput which high }

/-- See `stoInputChange`. -/
def execStoInputChange (which : Fin 2) (high : Bool) (s : State) : Host.Outcome State Fault Refusal :=
  .next (stoInputChange which high s)

/-- STO_DEMAND (09 R337): both inputs have been low together for 10 us. -/
def stoDemand (s : State) : State :=
  if running s && !s.sto.in1 && !s.sto.in2 then
    modSto (fun t => { t with source := true, low1 := false, low2 := false, demand := true }) s
  else s

/-- See `stoDemand`. -/
def execStoDemand (s : State) : Host.Outcome State Fault Refusal := .next (stoDemand s)

/-- STO_SINGLE_INPUT_TIMEOUT (09 R337): the input has been low for more than 1 ms. -/
def stoSingleTimeout (which : Fin 2) (s : State) : State :=
  if running s && !s.sto.input which then
    modSto (fun t => { t.setLow which false with source := true }) s
  else s

/-- See `stoSingleTimeout`. -/
def execStoSingleInputTimeout (which : Fin 2) (s : State) : Host.Outcome State Fault Refusal :=
  .next (stoSingleTimeout which s)

/-- STO_DISCREPANCY (09 R340): the input has been low for more than 100 ms while the other is high. -/
def stoDiscrepancy (which : Fin 2) (s : State) : State :=
  if running s && !s.sto.input which && s.sto.input (otherInput which) then
    modSto (fun t => { t with disc := true, bothLow := false, source := true })
      (raiseFault 0x2201 [] 0xFFFF 0 s)
  else s

/-- See `stoDiscrepancy`. -/
def execStoDiscrepancy (which : Fin 2) (s : State) : Host.Outcome State Fault Refusal :=
  .next (stoDiscrepancy which s)

/-- STO_HARDWARE_PATH_ACT (09 R335, R336): HW1 or HW2 takes the demand of its input. -/
def execStoHardwarePathAct (which : Fin 2) (s : State) : Host.Outcome State Fault Refusal :=
  .next { s with sto :=
    if which = 0 then { s.sto with hw1 := !s.sto.in1 } else { s.sto with hw2 := !s.sto.in2 } }

/-- SYS_STO (09 Table 9.9). -/
def stoReg (s : State) : Word :=
  let t := s.sto
  flagBit t.in1 0 ||| flagBit t.in2 1 ||| flagBit t.hw1 2 ||| flagBit t.hw2 3 ||| flagBit t.source 4
    ||| flagBit t.disc 5 ||| (t.pulses.setWidth 16 <<< 8)

end Sys2Proof.Machine
end

