-- ==== Sys2Proof/Machine/Angles.lean ====
section
/-! DEFINITION. The rungs of the rotor ladder: which is enabled, valid, in band and qualifies (chapter 06,
Table 6.3), and the reads of angles and speeds. -/

namespace Sys2Proof.Machine

/-! ### Angles in force -/

/-- The source that carries the rotor angle of axis `n`. -/
def rotorSrc (n : Fin 8) : Fin 32 := ⟨n.val, by omega⟩

/-- The source that carries the advanced angle of axis `n`. -/
def advSrc (n : Fin 8) : Fin 32 := ⟨8 + n.val, by omega⟩

/-- The source that carries the carrier angle of axis `n`. -/
def carSrc (n : Fin 8) : Fin 32 := ⟨16 + n.val, by omega⟩

/-- The ladder output speed of axis `n` in mHz (06 R199); a member carries its leader's (R680). -/
def ladderSpeed (s : State) (n : Fin 8) : Int := s.src[rotorSrc (leaderOf s n)].speed

/-- The rotor angle word of axis `n` (06 R199, R680). -/
def rotorAngle (s : State) (n : Fin 8) : DWord := s.src[rotorSrc (leaderOf s n)].angle

/-- The advanced angle word of axis `n` (06 R200, R680). -/
def advAngle (s : State) (n : Fin 8) : DWord := s.src[advSrc (leaderOf s n)].angle

/-- An ang16 as an angle word (00 R13). -/
def angWord (a : Word) : DWord := a ++ (0#16)

/-- The signed difference of two angle words. -/
def angDiff (a b : DWord) : Int := (a - b).toInt

/-- A speed in mHz as the measurement of a source fault: Hz, signed (16 Table 16.5; log entry 118). -/
def hertz (speed : Int) : Word := satWord (speed.tdiv 1000)

/-- The angle, in angle-word units, that a speed in mHz travels in a time in ticks. -/
def travelTicks (speed : Int) (ticks : Nat) : Int := (speed * (ticks * 4294967296 : Nat)).tdiv 200000000000

/-- The estimated angle of injection now (11 R403, 06 R203); an estimator that is not seeded stands on the ladder output
angle (11 R400). -/
def injAngle (s : State) (n : Fin 8) : DWord :=
  let i := s.axes[n].inj
  if i.seeded then i.angle + BitVec.ofInt 32 (travelTicks i.speed (s.now - i.since)) else rotorAngle s n

/-! ### Seam subscriptions as sources (15 15.5) -/

/-- The words of the station-source tail of source 24 + `k` (03 Table 3.15, 06 Table 6.7). -/
def tailWord (s : State) (k w : Nat) : Word := runWord s 2 (256 * k + w)

/-- Subscription `k` is enabled. -/
def subOn (s : State) (k : Fin 4) : Bool := bit (tailWord s (2 + k.val) 0xE0) 0

/-- A watched channel is stale (15 R531). -/
def Watch.stale (w : Watch) : Bool := !w.everUsable || decide (4 ≤ w.missed.toNat)

/-- Subscription `k` is stale (15 R531). -/
def subStale (s : State) (k : Fin 4) : Bool := s.seam.subs[k].stale

/-! ### Space 0x0A as running (15 Table 15.9) -/

/-- A word of space 0x0A of the running configuration. -/
def seamWord (s : State) (a : Nat) : Word := runWord s 0x0A a

/-- The channel of subscription `k`. -/
def subChannel (s : State) (k : Fin 4) : Nat := bits (seamWord s (0x20 + 16 * k.val)) 0 6

/-- PUBID of subscription `k`. -/
def subPub (s : State) (k : Fin 4) : DevId := (seamWord s (0x21 + 16 * k.val)).extractLsb' 0 10

/-- Entry `m` of the gang list is enabled. -/
def memOn (s : State) (m : Fin 8) : Bool := bit (seamWord s (0x80 + 2 * m.val)) 15

/-- The device ID of entry `m` of the gang list. -/
def memId (s : State) (m : Fin 8) : DevId := (seamWord s (0x80 + 2 * m.val)).extractLsb' 0 10

/-- The channel of entry `m` of the gang list. -/
def memChannel (s : State) (m : Fin 8) : Nat := bits (seamWord s (0x81 + 2 * m.val)) 0 6

/-- The device ID, if the module has one (15 R538). -/
def ownId (s : State) : Option DevId :=
  if bit (runReg s 0x022) 15 then none else some ((runReg s 0x022).extractLsb' 0 10)

/-! ### Gangs (15 15.8) -/

/-- The gang number; 0 for none. -/
def gangNumber (s : State) : BitVec 8 := (runReg s 0x025).extractLsb' 0 8

/-- Axis `n` is a gang axis (15 Table 15.12). -/
def gangAxis (s : State) (n : Fin 8) : Bool :=
  bits (runReg s 0x025) 0 8 != 0 && bit (runReg s 0x025) (8 + n.val)

/-- The gang axes. -/
def gangAxes (s : State) : List (Fin 8) := allAxes.filter (gangAxis s)

/-- This module leads its gang (15 15.8). -/
def isLeader (s : State) : Bool :=
  gangNumber s != 0 && memOn s 0 && ownId s == some (memId s 0)

/-- The subscription to the shared channel. -/
def sharedSub (s : State) : Option (Fin 4) :=
  (List.finRange 4).find? fun k => subOn s k && subChannel s k == memChannel s 0 && subPub s k == memId s 0

/-! ### The fingerprint (15 R548) -/

/-- The offsets of a gang axis block that the fingerprint covers. -/
def fprintOffsets : List Nat :=
  0x00 :: (List.range 7).map (0x06 + ·) ++ (List.range 8).map (0x20 + ·) ++ [0x40, 0x41, 0x42, 0x81, 0x82, 0x90, 0x91]

/-- The fingerprint of the running configuration. -/
def fprintOf (s : State) : DWord :=
  crc32 ((gangAxes s).flatMap (fun n => fprintOffsets.map (axWord s n)) ++ [runReg s 0x025]
    ++ (List.range 16).map (fun i => seamWord s (0x80 + i)))

/-- The fingerprint as SEAM_FPRINT shows it: 0 until a commit formed a running configuration (log entry 24). -/
def fprintReg (s : State) : DWord := if s.boot.committed then fprintOf s else 0

/-- This module counts its gang as formed (15 R550): a member does so only while the shared channel is not stale. -/
def gangFormed (s : State) : Bool :=
  s.seam.gang.formed && (isLeader s || (match sharedSub s with
    | some k => !subStale s k
    | none => false))

/-! ### Rungs (06 6.6) -/

/-- Word 0x80 of axis `n`; the words of a disabled bridge's block are not used (03 R115). -/
def ladderWord (s : State) (n : Fin 8) : Word := if bridgeOn s n then axWord s n 0x80 else 0

/-- SEAMSEL of axis `n`. -/
def seamSel (s : State) (n : Fin 8) : Nat := bits (ladderWord s n) 4 3

/-- The subscription SEAMSEL names. -/
def seamSub (s : State) (n : Fin 8) : Option (Fin 4) :=
  if h : 1 ≤ seamSel s n ∧ seamSel s n ≤ 4 then some ⟨seamSel s n - 1, by omega⟩ else none

/-- RATED in mHz. -/
def ratedOf (s : State) (n : Fin 8) : Nat := axWord32 s n 0x81

/-- The top of the injection band in mHz (06 Table 6.6). -/
def injMax (s : State) (n : Fin 8) : Nat := ratedOf s n * orDefault (bits (axWord s n 0x83) 0 10) 50 / 1000

/-- The bottom of the back-EMF band in mHz (06 Table 6.6). -/
def bemfMin (s : State) (n : Fin 8) : Nat := ratedOf s n * orDefault (bits (axWord s n 0x84) 0 10) 30 / 1000

/-- A rung is enabled (06 Table 6.6, R220). -/
def rungOn (s : State) (n : Fin 8) : Rung → Bool
  | .none => false
  | .hold => bit (ladderWord s n) 3
  | .inj => bit (ladderWord s n) 2
  | .bemf => bit (ladderWord s n) 1
  | .enc => bit (ladderWord s n) 0 && seamSel s n == 0
  | .seam => seamSel s n != 0

/-- A receiver of interface `n` reports a line fault now, with LFEN 1 (12 R434). -/
def lineFaultNow (s : State) (n : Fin 8) : Bool :=
  bit (axWord s n 0xC0) 5 &&
    [n.val, 8 + n.val, 16 + n.val].any fun i =>
      let w := runWord s 9 (0x200 + i)
      let p := bits w 0 6
      bit w 7 && pinDiff s p && s.pin.rxFault.getLsbD (p / 2)

/-- The encoder window holds no error (06 Table 6.3): 256 edges counted since the last one, or none since the
window began. -/
def encClean (s : State) (n : Fin 8) : Bool :=
  (match s.axes[n].enc.sinceError with
   | none => true
   | some k => decide (256 ≤ k)) && !lineFaultNow s n

/-- A rung is valid (06 Table 6.3, 16 Table 16.3). -/
def rungValid (s : State) (n : Fin 8) : Rung → Bool
  | .none => false
  | .hold => s.axes[n].probe.holdValid
  | .inj => s.axes[n].inj.converged
  | .bemf => s.axes[n].bemf.locked
  | .enc => bit (axWord s n 0x8D) 0 && encClean s n && !isLasting s ⟨5, n.val⟩
  | .seam =>
    match seamSub s n with
    | some k => subOn s k && !subStale s k && !isLasting s ⟨8, 8⟩
    | none => false

/-- A rung is inside its speed band (06 Table 6.3). -/
def rungInBand (s : State) (n : Fin 8) : Rung → Bool
  | .none => false
  | .hold => s.axes[n].probe.alone
  | .inj => decide ((ladderSpeed s n).natAbs < injMax s n)
  | .bemf => decide (bemfMin s n ≤ (ladderSpeed s n).natAbs)
  | .enc => true
  | .seam => true

/-- A rung qualifies (06 R219). -/
def qualifies (s : State) (n : Fin 8) (r : Rung) : Bool := rungOn s n r && rungValid s n r && rungInBand s n r

/-- The rungs from the best rank down. -/
def rungRanks : List Rung := [.seam, .enc, .bemf, .inj, .hold]

/-- The best rung that qualifies. -/
def bestRung (s : State) (n : Fin 8) : Rung := (rungRanks.find? fun r => qualifies s n r).getD .none

/-- The best rung that is enabled and valid, without band tests (06 R222). -/
def bestValid (s : State) (n : Fin 8) : Rung :=
  (rungRanks.find? fun r => rungOn s n r && rungValid s n r).getD .none

/-- Some rung qualifies. -/
def anyRung (s : State) (n : Fin 8) : Bool := bestRung s n != .none

/-- The rank of a rung, 1 the best (06 Table 6.3). -/
def Rung.rank : Rung → Nat
  | .enc => 1
  | .seam => 1
  | .bemf => 2
  | .inj => 3
  | .hold => 4
  | .none => 5

/-- The position of a rung in word 0x98 (06 Table 6.6). -/
def Rung.pos : Rung → Fin 5
  | .none => 0
  | .hold => 0
  | .inj => 1
  | .bemf => 2
  | .enc => 3
  | .seam => 4

/-- The ladder of axis `n` runs (06 R222). -/
def ladderRuns (s : State) (n : Fin 8) : Bool := axSt s n == .probe || (axSt s n).driving

/-! ### The advance (10 10.3) -/

/-- Breakpoint `b` of the table axis `n` took: speed and advance (10 Table 10.2). -/
def breakpoint (s : State) (n : Fin 8) (b : Nat) : Nat × Nat :=
  let m := s.cfg.advTab[n]
  let a := cfgKey 3 (64 * bits (axWord s n 0x42) 0 3 + 4 * b)
  ((m.get32 a).toNat, bits (m.get (a + 2)) 0 14)

/-- The interpolation of 10 R359 at the absolute speed `v` over breakpoints `b` and following, `k` of them
left. -/
def advanceFrom (s : State) (n : Fin 8) (v : Nat) : Nat → Nat → Nat
  | 0, b => (breakpoint s n b).2
  | k + 1, b =>
    let p := breakpoint s n b
    let q := breakpoint s n (b + 1)
    if v ≤ p.1 then p.2
    else if v < q.1 then
      (Int.toNat ((p.2 : Int) + ((q.2 : Int) - p.2) * ((v : Int) - p.1) / ((q.1 : Int) - p.1)))
    else advanceFrom s n v k (b + 1)

/-- The signed advance of axis `n` at a ladder speed (10 R359). -/
def advanceAt (s : State) (n : Fin 8) (speed : Int) : Int :=
  let w := axWord s n 0x42
  let k := min (bits w 4 5) 16
  if !bit w 3 || k == 0 then 0
  else signOf speed * (advanceFrom s n speed.natAbs (k - 1) 0 : Nat)

end Sys2Proof.Machine
end

