-- ==== Sys2Proof/Machine/Drive.lean ====
section
/-! DEFINITION. Drive control (chapter 10): sectors and hems, the regulators and the profile generator, erosion
compensation, start, stop, brake, command sources and the refusals of AX_RUN. -/

namespace Sys2Proof.Machine

/-! ### Parameters (10 Tables 10.10-10.12) -/

/-- MODE of axis `n`. -/
def modeOf (s : State) (n : Fin 8) : Nat := bits (axWord s n 0) 0 2

/-- DIRECT mode. -/
def isDirect (s : State) (n : Fin 8) : Bool := bridgeOn s n && modeOf s n == 2

/-- Torque mode. -/
def isTorque (s : State) (n : Fin 8) : Bool := modeOf s n == 1

/-- AX_ILIM in force. -/
def ilimOf (s : State) (n : Fin 8) : Int := s.axes[n].eff.ilim.toNat

/-- ZSPD in mHz; 0 selects floor(RATED / 100). -/
def zspdOf (s : State) (n : Fin 8) : Nat := orDefault (axWord s n 0x0B).toNat (ratedOf s n / 100)

/-- TQRAMP in current units per ms. -/
def tqRamp (s : State) (n : Fin 8) : Nat := orDefault (bits (axWord s n 0x0C) 0 15) 1000

/-- BRKT in ms. -/
def brktOf (s : State) (n : Fin 8) : Nat := bits (axWord s n 0x0A) 0 11

/-- The rotor VMAX words of axis `n` (06 Table 6.2). -/
def rotorVmax (s : State) (n : Fin 8) : Nat := axWord32 s n 0x90

/-- SPDDIV; 0 selects the nominal carrier frequency over 4,000 Hz, rounded, at least 1 (10 R366). -/
def spdDiv (s : State) (n : Fin 8) : Nat :=
  let d := bits (axWord s n 0x22) 0 8
  let ticks := 4000 * (perOf s n * prescOf s n)
  if d ≠ 0 then d else max 1 ((400000000 + ticks) / (2 * ticks))

/-! ### Sectors and hems (10 10.1, 10.2) -/

/-- The high-role and low-role legs of a row of 10 Table 10.1. -/
def sectorRow : Nat → Fin 3 × Fin 3
  | 0 => (0, 1)
  | 1 => (0, 2)
  | 2 => (1, 2)
  | 3 => (1, 0)
  | 4 => (2, 0)
  | _ => (2, 1)

/-- The high-role and low-role legs of a sector in an orientation (10 R345, R347). -/
def sectorRoles (sector : Nat) (rev : Bool) : Fin 3 × Fin 3 :=
  if rev then sectorRow ((sector + 3) % 6) else sectorRow sector

/-- The floating leg of a sector. -/
def floatingLeg (r : Fin 3 × Fin 3) : Fin 3 := ⟨(3 - r.1.val - r.2.val) % 3, by omega⟩

/-- The sector of an advanced angle (10 Table 10.1). -/
def sectorOf (ang16 : Nat) : Nat :=
  if ang16 < 10923 then 0
  else if ang16 < 21845 then 1
  else if ang16 < 32768 then 2
  else if ang16 < 43691 then 3
  else if ang16 < 54613 then 4
  else 5

/-- The points of the hem profile axis `n` selects (10 R357). -/
def hemPoints (s : State) (n : Fin 8) : List Word :=
  s.cfg.running.slice (cfgKey 4 (128 * n.val + 32 * bits (axWord s n 0x41) 0 2)) 32

/-- The profile value `b` of a hem at its travel, `none` once its progress has reached 1 (10 R353, R357). -/
def hemValue (h : Hem) : Option Nat :=
  let den := h.span * 65536
  if den ≤ h.travel then none
  else
    let j := 32 * h.travel / den
    let before : Int := if j = 0 then 0 else (h.points.getD (j - 1) 0).toNat
    let point : Int := (h.points.getD j 0).toNat
    some (Int.toNat (before + (point - before) * (32 * h.travel % den : Nat) / (den : Nat)))

/-- The hem a COMMUTE from one pair of roles to another starts: the outgoing leg and the role it goes to
(10 R352). -/
def outgoingLeg (old new : Fin 3 × Fin 3) : Option (Fin 3 × Bool) :=
  if old.1 ≠ new.1 ∧ old.1 ≠ new.2 then (if old.2 = new.1 ∨ old.2 = new.2 then some (old.1, false) else none)
  else if old.2 ≠ new.1 ∧ old.2 ≠ new.2 then some (old.2, true)
  else none

/-! ### The sector end of the back-EMF estimator (11 R410) -/

/-- BVMIN in 0.1 V; 0 selects 20. -/
def bvminOf (s : State) (n : Fin 8) : Nat := orDefault (bits (axWord s n 0xB2) 0 12) 20

/-- NLOCK; 0 selects 6. -/
def nlockOf (s : State) (n : Fin 8) : Nat := orDefault (bits (axWord s n 0xB3) 0 4) 6

/-- The lock count at the end of a sector (11 R410); `bvmin` is in 0.1 V. -/
def Bemf.sectorEnd (b : Bemf) (bvmin nlock : Nat) : Bemf :=
  let low := decide (b.sectorMax < 30000 * bvmin)
  let run := if low then 0 else b.run
  let veryLow := decide (2 * b.sectorMax < 30000 * bvmin)
  { b with
    run := run, counted := run
    amp := BitVec.ofNat 12 (min 4095 (b.sectorMax / 30000))
    locked := (b.locked || (decide (nlock ≤ run) && decide (b.counted < run))) && !veryLow
    sectorMax := 0, last := none }

/-- The sector of axis `n` ends with a COMMUTE to sector `sec`: the estimator of a leader or lone axis whose rung is
enabled judges its count (11 R384, R410). -/
def bemfSectorEnd (n : Fin 8) (sec : Nat) (s : State) : State :=
  if sec ≠ s.axes[n].drv.sector ∧ (axSt s n).driving ∧ rungOn s n .bemf ∧ !isMember s n then
    modBemf n (fun b => b.sectorEnd (bvminOf s n) (nlockOf s n)) s
  else s

/-- A COMMUTE of axis `n` executes (07 R242, 10 R350, R352-R356, R379). -/
def commuteAxis (n : Fin 8) (sector : Nat) (s : State) : State :=
  let a := s.axes[n]
  let drives := (axSt s n).driving && !isDirect s n
  let span := bits (axWord s n 0x40) 0 14
  let hem :=
    if !drives then a.drv.hem
    else if span = 0 then none
    else match outgoingLeg (sectorRoles a.drv.sector a.rev) (sectorRoles sector a.rev) with
      | some (leg, toHigh) =>
        some { leg := leg, toHigh := toHigh, span := span, points := hemPoints s n, travel := 0, b := 0 }
      | none => none
  modDrive n (fun d => { d with
    sector := sector
    hem := hem
    lrStart := d.lrStart.map fun _ => s.now }) (bemfSectorEnd n sector s)

/-! ### Measured current (10 R367, 11 R404) -/

/-- The latest main-path result of a leg of bridge `m` (13 Table 13.12). -/
def legCurrent (s : State) (m : Fin 8) (leg : Fin 3) : Int :=
  (s.cnv.res.get (0x120 + 3 * m.val + leg.val)).toInt

/-- i of one bridge on the roles in force, motoring positive. -/
def bridgeCurrent (s : State) (m : Fin 8) : Int :=
  let l := s.axes[leaderOf s m]
  let r := sectorRoles l.drv.sector l.rev
  (legCurrent s m r.1 - legCurrent s m r.2).tdiv 2

/-- i of axis `n` at this instant: the mean over the bridges of its group. -/
def groupCurrent (s : State) (n : Fin 8) : Int :=
  let g := groupOf s n
  (g.foldl (fun t m => t + bridgeCurrent s m) 0).tdiv (max g.length 1 : Nat)

/-- The measured current: while the injection gate is open, the mean over the last 2 INJDIV period starts (11 R404). -/
def measuredCurrent (s : State) (n : Fin 8) : Int :=
  let w := s.axes[n].inj.window
  if s.axes[n].inj.gate && !w.isEmpty then (w.foldl (· + ·) 0).tdiv (w.length : Nat) else groupCurrent s n

/-- AX_IMEAS, positive for forward torque; a member reads its own bridge (10 R367). -/
def imeasReg (s : State) (n : Fin 8) : Word :=
  let i := if isMember s n then bridgeCurrent s n else measuredCurrent s n
  satWord (if s.axes[leaderOf s n].rev then -i else i)

/-! ### The command (10 10.7) -/

/-- CMDNOW (10 R371): AX_CMD for source 0. -/
def cmdNow (s : State) (n : Fin 8) : Int :=
  if s.axes[n].eff.cmdSrc = 0 then s.axes[n].eff.cmd.toInt else s.axes[n].drv.cmdNow

/-- The normalised input of a source 1, 2 or 3 and the CMDNOW it gives (10 R371). -/
def setInput (n : Fin 8) (x : Nat) (s : State) : State :=
  let zero : Int := (axWord s n 2).toNat
  let v := (((x : Int) - zero) * (axWord s n 3).toInt).tdiv 32768
  modDrive n (fun d => { d with xNow := BitVec.ofNat 16 x, cmdNow := clampInt v (-32767) 32767 }) s

/-- CMDTO in ticks; 0 selects 100 ms (10 Table 10.10). -/
def cmdTimeout (s : State) (n : Fin 8) : Nat := 200000 * orDefault (bits (axWord s n 6) 0 10) 100

/-- The input of axis `n` has had no edge or no conversion for CMDTO (10 R372, 13 R451). -/
def inputStale (s : State) (n : Fin 8) : Bool := decide (s.axes[n].drv.inAt + cmdTimeout s n ≤ s.now)

/-- A new value of the input arrives now. -/
def freshInput (n : Fin 8) (x : Nat) (s : State) : State :=
  modDrive n (fun d => { d with inAt := s.now }) (setInput n x s)

/-- A duty or frequency input without an edge for CMDTO reads by the level of its pin, or 0 (10 R372). -/
def stepInput (n : Fin 8) (s : State) : State :=
  if bridgeOn s n && inputStale s n then
    match s.axes[n].eff.cmdSrc.toNat with
    | 2 => setInput n (if inputSignal s (28 + n.val) then 65535 else 0) s
    | 3 => setInput n 0 s
    | _ => s
  else s

/-- The input lies outside its window, a conversion not refreshed within CMDTO counting as outside (13 R451), or the
command channel is stale (10 Table 10.3). -/
def commandOut (s : State) (n : Fin 8) : Bool :=
  let x := s.axes[n].drv.xNow.toNat
  let out := decide (x < (axWord s n 4).toNat) || decide ((axWord s n 5).toNat < x)
  match s.axes[n].eff.cmdSrc.toNat with
  | 1 => out || inputStale s n
  | 2 | 3 => out
  | 4 => (List.finRange 4).any fun k =>
      subOn s k && bit (runWord s 0x0A (0x22 + 16 * k.val)) n.val && subStale s k
  | _ => false

/-! ### Stops, brake and locked rotor (10 10.8, 10.9) -/

/-- The axis ends its motion: the brake is clear and the switches go off (10 R376, R380). -/
def Drive.ending (d : Drive) : Bool := d.wait == .toReady || d.offNext

/-- Every switch is off from the next period start, when the axis enters READY; without a running carrier, at
once. -/
def readyNext (n : Fin 8) (s : State) : State :=
  if carrierOn s n then modDrive n (fun d => { d with wait := .none, offNext := true }) s
  else setState n .ready (forEach (groupOf s n) switchesOff s)

/-- The end of a motion: the brake-release output is cleared and, with `hold`, torque is held for BRKT. -/
def endRide (n : Fin 8) (hold : Bool) (s : State) : State :=
  let s := clearBrake n s
  let s := modDrive n (fun d => { d with lrStart := none }) s
  if hold && brktOf s n != 0 then modDrive n (fun d => { d with wait := .toReady }) s
  else readyNext n s

/-- The axis enters STOPPING, or stays in it, to end with `stop`; a motion that already ends keeps its end (10 R376,
R380). -/
def enterStopping (n : Fin 8) (how : StopKind) (s : State) : State :=
  let s := if s.axes[n].drv.ending then s else modDrive n (fun d => { d with stop := how }) s
  if s.axes[n].st == .stopping then s else setState n .stopping s

/-- A forced stop of axis `n` (10 R377, Table 10.4), in GANGSTOP too (log entry 109). -/
def forcedStop (n : Fin 8) (s : State) : State :=
  let l := leaderOf s n
  let force := modAxis l fun a => { a with forced := true }
  match s.axes[l].st with
  | .start => if s.axes[l].drv.ending then force s else endRide l s.axes[l].brake (force s)
  | .run | .hold | .stopping | .gangstop => enterStopping l .stop (force s)
  | _ => s

/-- The command of a driving axis is lost (10 R373): CMDLOSS, class 0x6 fault, forced stop. -/
def commandLost (n : Fin 8) (s : State) : State :=
  let csar := bits (axWord s n 1) 0 4
  let units : List TestUnit := if s.axes[n].eff.cmdSrc = 1 then [⟨2, csar⟩] else []
  let s := raiseFault (faultCode 0x60 n.val) units (axStateReg s n) 0 (setAxStat 1 n s)
  forcedStop n s

/-- A lost command ends the motion of an axis that starts to drive (log entry 16). -/
def checkCommand (n : Fin 8) (s : State) : State :=
  if s.axes[n].drv.cmdLost && (axSt s n).driving then commandLost n s else s

/-- The axis enters START (10 R350, R374): sector from the advanced angle, reference from 0; the injection latch
is set (11 R398). -/
def enterStart (n : Fin 8) (s : State) : State :=
  let a := s.axes[n]
  let d := { resetDrive with
    sector := sectorOf ((advAngle s n).toNat / 65536)
    cmdNow := a.drv.cmdNow, xNow := a.drv.xNow, inAt := a.drv.inAt, cmdLost := a.drv.cmdLost
    advance := a.drv.advance, rampFrom := a.car.ticks }
  let s := modAxis n (fun a => { a with
    drv := d
    inj := { a.inj with latch := true }
    car := { a.car with spdCount := 0 } }) s
  checkCommand n (rewatch n (setState n .start s))

/-- The axis enters RUN from START (10 R375). -/
def enterRun (n : Fin 8) (s : State) : State :=
  let d := s.axes[n].drv
  let pretq := d.preTqFrozen.getD s.axes[n].eff.preTq.toInt
  setState n .run (modAxis n (fun a => { a with
    drv := { d with sinteg := pretq, spref := 0, accel := 0, wait := .none }
    car := { a.car with spdCount := 0 } }) s)

/-- START in DIRECT mode (10 Table 10.4). -/
def enterDirect (n : Fin 8) (s : State) : State :=
  checkCommand n (rewatch n (setState n .run s))

/-- BRAKE_RELEASE (10 R374, R375): the reference has reached AX_PRETQ and PRETIME has passed. -/
def brakeReleased (n : Fin 8) (s : State) : State :=
  let a := s.axes[n]
  if !isMember s n && a.st == .start && !a.brake && !a.drv.ending &&
      a.drv.iref == 200000 * a.eff.preTq.toInt then
    let s := setBrake n s
    let s := modDrive n (fun d => { d with preTqFrozen := some a.eff.preTq.toInt, wait := .toRun }) s
    if brktOf s n = 0 then enterRun n s else s
  else s

/-- See `brakeReleased`. -/
def execBrakeRelease (ax : Fin 8) (s : State) : Host.Outcome State Fault Refusal := .next (brakeReleased ax s)

/-- BRAKE_TIME_END (10 R375, R376, R380). -/
def brakeTimeEnd (n : Fin 8) (s : State) : State :=
  match s.axes[n].drv.wait with
  | .none => s
  | .toRun => if s.axes[n].st == .start then enterRun n s else s
  | .toReady => readyNext n s

/-- See `brakeTimeEnd`. -/
def execBrakeTimeEnd (ax : Fin 8) (s : State) : Host.Outcome State Fault Refusal := .next (brakeTimeEnd ax s)

/-- LOCKED_ROTOR (10 R379, R380). -/
def lockedRotor (n : Fin 8) (s : State) : State :=
  let a := s.axes[n]
  if a.drv.lrStart.isSome && !a.drv.ending && (a.st == .run || a.st == .stopping) then
    let s := raiseOn n (faultCode 0x61 n.val) ⟨8, n.val⟩ 0 (setAxStat 2 n s)
    endRide n true s
  else s

/-- See `lockedRotor`. -/
def execLockedRotor (ax : Fin 8) (s : State) : Host.Outcome State Fault Refusal := .next (lockedRotor ax s)

/-- COMMAND_LOSS (10 R373). -/
def commandLoss (n : Fin 8) (s : State) : State :=
  if commandOut s n && !s.axes[n].drv.cmdLost then
    let s := modDrive n (fun d => { d with cmdLost := true }) s
    if (axSt s n).driving && !isMember s n then commandLost n s else s
  else s

/-- See `commandLoss`. -/
def execCommandLoss (ax : Fin 8) (s : State) : Host.Outcome State Fault Refusal := .next (commandLoss ax s)

/-- COMMAND_RESTORE (10 R373). -/
def execCommandRestore (ax : Fin 8) (s : State) : Host.Outcome State Fault Refusal :=
  .next (if commandOut s ax then s else modDrive ax (fun d => { d with cmdLost := false }) s)

/-- The input x of an edge of the command signal (10 Table 10.3, R372): a duty whose period lies outside
50 us to 20 ms counts as no edge; times are in ticks. -/
def edgeInput (src period high : Nat) : Option Nat :=
  if src = 2 then
    if 10000 ≤ period ∧ period ≤ 4000000 then some (min 65535 (high * 65536 / period)) else none
  else if src = 3 then
    if period = 0 then some 65535 else some (min 65535 (200000000 * 65536 / (100000 * period)))
  else none

/-- COMMAND_INPUT_EDGE (10 R371): an edge of the pin that is routed to the command input of axis `n` (14 R481). -/
def commandEdge (n : Fin 8) (period high : Nat) (s : State) : State :=
  if !signalRouted s (28 + n.val) || !bridgeOn s n then s
  else match edgeInput s.axes[n].eff.cmdSrc.toNat period high with
    | some x => freshInput n x s
    | none => s

/-- See `commandEdge`. -/
def execCommandInputEdge (ax : Fin 8) (period high : Nat) (s : State) : Host.Outcome State Fault Refusal :=
  .next (commandEdge ax period high s)

/-! ### Regulators at a period start (10 10.4-10.6) -/

/-- A step of at most `step` towards a target. -/
def moveToward (v target step : Int) : Int :=
  if v < target then min target (v + step) else max target (v - step)

/-- The orientation at a period start (10 R347). -/
def orientation (s : State) (n : Fin 8) : Bool :=
  let w := ladderSpeed s n
  let z : Int := zspdOf s n
  let iref := s.axes[n].drv.iref
  if z < w then false
  else if w < -z then true
  else if iref = 0 then s.axes[n].rev
  else decide (iref < 0)

/-- The target of the profile (10 R369): 0 in every stop. -/
def profileTarget (s : State) (n : Fin 8) : Int :=
  if s.axes[n].st == .run then
    let v := (cmdNow s n * (ratedOf s n : Nat)).tdiv 16384
    clampInt v (-(rotorVmax s n : Nat)) (rotorVmax s n)
  else 0

/-- One run of the profile generator (10 R369, R370): the new spref and a, in the units of `Drive`. -/
def profileStep (s : State) (n : Fin 8) (dt : Nat) : Int × Int :=
  let d := s.axes[n].drv
  let target := profileTarget s n * 40000000000000000
  let acc : Int := 2000000000 * (axWord s n 0x25).toNat
  let dec : Int := 2000000000 * (axWord s n 0x26).toNat
  let jerk : Int := 10 * (axWord s n 0x27).toNat
  let dv := target - d.spref
  let amax := if 0 ≤ target * d.spref ∧ d.spref.natAbs < target.natAbs then acc else dec
  let a :=
    if jerk = 0 then signOf dv * amax
    else if signOf d.accel = signOf dv ∧ (dv.natAbs : Int) * (2 * jerk) ≤ d.accel * d.accel then
      d.accel - signOf d.accel * min (d.accel.natAbs : Int) (jerk * (dt : Nat))
    else clampInt (d.accel + signOf dv * jerk * (dt : Nat)) (-amax) amax
  let v := d.spref + a * (dt : Nat)
  if (dv ≠ 0 ∧ (target - v) * dv ≤ 0) ∨ (dv = 0 ∧ v ≠ target) then (target, 0) else (v, a)

/-- One run of the speed loop and its profile (10 R367, R369). -/
def speedLoop (n : Fin 8) (s : State) : State :=
  let p := profileStep s n (spdDiv s n * perOf s n * prescOf s n)
  let d := s.axes[n].drv
  let es := p.1.tdiv 40000000000000000 - ladderSpeed s n
  let ilim := ilimOf s n
  let sinteg := clampInt (d.sinteg + (es * (axWord s n 0x21).toNat).tdiv 1048576) (-ilim) ilim
  let iref := clampInt ((es * (axWord s n 0x20).toNat).tdiv 4096 + sinteg) (-ilim) ilim
  modDrive n (fun d => { d with spref := p.1, accel := p.2, sinteg := sinteg, iref := 200000 * iref }) s

/-- The reference at a period start, `dt` ticks after the previous one (10 R366, R368, R374, R377). -/
def stepReference (n : Fin 8) (dt : Nat) (s : State) : State :=
  let a := s.axes[n]
  let step : Int := (tqRamp s n * dt : Nat)
  if a.drv.ending then s
  else if a.st == .start then
    let target := a.drv.preTqFrozen.getD a.eff.preTq.toInt
    modDrive n (fun d => { d with iref := moveToward d.iref (200000 * target) step }) s
  else if isTorque s n then
    let target := if a.st == .run then clampInt (cmdNow s n) (-ilimOf s n) (ilimOf s n) else 0
    modDrive n (fun d => { d with iref := moveToward d.iref (200000 * target) step }) s
  else
    let s' := if a.car.spdCount % spdDiv s n = 0 then speedLoop n s else s
    modCar n (fun c => { c with spdCount := c.spdCount + 1 }) s'

/-- The current loop and the current limit (10 R365, R367). -/
def currentLoop (n : Fin 8) (s : State) : State :=
  let a := s.axes[n]
  let r := a.drv.iref.tdiv 200000
  let e := (if a.rev then -r else r) - measuredCurrent s n
  let integ := clampInt (a.drv.integ + (e * (axWord s n 0x24).toNat).tdiv 4096) 0 65535
  let duty := clampInt ((e * (axWord s n 0x23).toNat).tdiv 256 + integ) 0 65535
  let cut := min duty ((7 * (a.drv.duty.toNat : Int)).tdiv 8)
  let past := a.drv.overLimit
  let s := modDrive n (fun d => { d with
    integ := if past then cut else integ
    duty := BitVec.ofInt 16 (if past then cut else duty)
    overLimit := false }) s
  if past then setAxStat 3 n s else s

/-- The orientation for the period, chosen before injection and regulators take its currents; a change restarts the integrator and ends a hem (10 R348). -/
def orient (n : Fin 8) (s : State) : State :=
  let rev := orientation s n
  if rev = s.axes[n].rev then s
  else modAxis n (fun a => { a with rev := rev, drv := { a.drv with integ := 0, hem := none } }) s

/-- The value of a hem for the period; a finished hem floats its leg (10 R352). -/
def stepHem (n : Fin 8) (s : State) : State :=
  modDrive n (fun d => { d with hem :=
    match d.hem with
    | none => none
    | some h =>
      if h.leg = floatingLeg (sectorRoles d.sector s.axes[n].rev) then
        (hemValue h).map fun b => { h with b := BitVec.ofNat 16 b }
      else none }) s

/-! ### Leg levels and compensation (10 R352, R362, R363) -/

/-- The role of a leg for the period. -/
def roleOf (s : State) (n : Fin 8) (leg : Fin 3) : Role :=
  let r := sectorRoles s.axes[n].drv.sector s.axes[n].rev
  if leg = r.1 then .high
  else if leg = r.2 then .low
  else if s.axes[n].drv.hem.isSome then .ramp
  else .floating

/-- The role level of a leg (10 R352), half the duty for a floating leg (11 R399). -/
def roleLevel (s : State) (n : Fin 8) (leg : Fin 3) : Int :=
  let d : Int := s.axes[n].drv.duty.toNat
  match roleOf s n leg, s.axes[n].drv.hem with
  | .high, _ => d
  | .low, _ => 0
  | .ramp, some h =>
    let lo := if h.toHigh then 0 else d
    let hi := if h.toHigh then d else 0
    lo + ((hi - lo) * (h.b.toNat : Int)).tdiv 65536
  | _, _ => d / 2

/-- A is AINJ x 65,536 / 1,000 (11 R399). -/
def injAmplitude (s : State) (n : Fin 8) : Int :=
  (orDefault (bits (axWord s n 0xA9) 0 8) 50 * 65536 / 1000 : Nat)

/-- The injected term of a leg, in the units of a level (11 R399). -/
def injTerm (s : State) (n : Fin 8) (leg : Fin 3) : Int :=
  let i := s.axes[n].inj
  let phi := injAngle s n + 0x95555555#32 - BitVec.ofNat 32 (leg.val * 1431655765)
  let o := (injAmplitude s n * cosWord phi) / one48
  if i.sign then -o else o

/-- The level of a leg with injection (11 R399). -/
def injLevel (s : State) (n : Fin 8) (leg : Fin 3) : Int :=
  let raw := fun l => roleLevel s n l + injTerm s n l
  let low := min (raw 0) (min (raw 1) (raw 2))
  let cm := if low < 0 then -low else 0
  min 65535 (raw leg + cm)

/-- The compare point of 10 R363 for an intended on-time `t`, and what the high side receives, both in 1/65536
tick; `d`, `minp`, `tmax` and `pk` are in ticks. -/
def compensate (t d minp tmax pk : Int) : Int × Int :=
  let u := 65536
  if 2 * t < minp * u then (0, 0)
  else if t < minp * u then ((minp + d) * u, minp * u)
  else if t ≤ tmax * u then (t + d * u, t)
  else if 2 * t < (tmax + pk) * u then ((tmax + d) * u, tmax * u)
  else (pk * u, (pk - d) * u)

/-- The mode of a leg in its role (10 R345, 11 R399). -/
def roleMode (s : State) (n : Fin 8) (r : Role) : LegMode :=
  if s.axes[n].inj.gate then .pwm
  else match r with
    | .high => if bit (axWord s n 0) 2 then .pwmH else .pwm
    | .low => .low
    | .ramp => .pwm
    | .floating => .off

/-- The plan of a leg of axis `n` for a period of `p` counts after one that ended at position `e`, with the
carry it leaves (10 R362-R364). -/
def drivePlan (s : State) (n : Fin 8) (p e : Nat) (leg : Fin 3) : LegPlan × Int :=
  let role := roleOf s n leg
  let mode := roleMode s n role
  let old := s.axes[n].car.legs[leg]
  let carry := if old.mode = mode ∧ old.role = role then old.carry else 0
  let pk : Int := (p * prescOf s n : Nat)
  let level := if s.axes[n].inj.gate then injLevel s n leg else roleLevel s n leg
  let t := level * pk
  if mode = .off ∨ mode = .low then ({ idlePlan with mode := mode }, 0)
  else
    let d : Int := if Pulse.onAtEnd e old.low then (deadR s n leg / 16 : Nat) else 0
    let dtf : Int := (deadF s n leg / 16 : Nat)
    let minp : Int := (minpOf s n / 16 : Nat)
    let r :=
      if bit (axWord s n 0) 3 then
        let t := t + carry
        let c := compensate t d minp (pk - d - dtf - minp) pk
        let lim := (minp + 1023) * 65536
        (c.1, clampInt (t - c.2) (-lim) lim)
      else (t, carry)
    ({ mode := mode, point := (r.1 / 4096).toNat, nominal := r.1.toNat * s.axes[n].car.per, den := p }, r.2)

/-- The plan of a leg in DIRECT mode (08 R279). -/
def directPlan (s : State) (n : Fin 8) (p : Nat) (leg : Fin 3) : LegPlan :=
  scalePlan .pwm (4096 * directCompare s n leg) 1 p s.axes[n].car.per

/-- The plan of a member's leg: its leader's mode and compare, scaled to its own period (08 R293). -/
def memberPlan (s : State) (n : Fin 8) (p : Nat) (leg : Fin 3) : LegPlan :=
  let l := leaderOf s n
  let k := s.axes[l].car.legs[leg]
  if isDirect s l ∧ k.mode = .pwm then scalePlan .pwm (4096 * directCompare s n leg) 1 p s.axes[l].car.per
  else scalePlan k.mode k.nominal k.den p s.axes[l].car.per

/-- The regulators of a driving leader run for the period, `dt` ticks after the previous start. -/
def runRegulators (n : Fin 8) (dt : Nat) (s : State) : State :=
  if (axSt s n).driving && !isDirect s n then currentLoop n (stepReference n dt (stepHem n s)) else s

/-- The plans of the three legs of a leader, and the carries they leave (08 R277, R279, 10 R349). -/
def axisPlans (s : State) (n : Fin 8) (p e : Nat) : Vector (LegPlan × Int) 3 :=
  Vector.ofFn fun leg =>
    if !(axSt s n).driving then (idlePlan, 0)
    else if isDirect s n then (directPlan s n p leg, 0)
    else drivePlan s n p e leg

/-- Writes roles and carries of the period into the legs of axis `n`. -/
def setRoles (n : Fin 8) (carry : Vector Int 3) (s : State) : State :=
  let roles := Vector.ofFn fun leg => if (axSt s n).driving then roleOf s n leg else .floating
  modCar n (fun c => { c with legs := Vector.ofFn fun leg =>
    { c.legs[leg] with role := roles[leg], carry := carry[leg] } }) s

/-- The speed reference is 0 and the axis stands (10 R376). -/
def atZero (s : State) (n : Fin 8) : Bool :=
  let d := s.axes[n].drv
  decide ((ladderSpeed s n).natAbs < zspdOf s n) && (if isTorque s n then d.iref == 0 else d.spref == 0)

/-- The locked-rotor timer runs while |iref| exceeds LRTH (10 R379). -/
def watchRotor (n : Fin 8) (s : State) : State :=
  let lrth := bits (axWord s n 8) 0 15
  let iref := (s.axes[n].drv.iref.tdiv 200000).natAbs
  modDrive n (fun d => { d with lrStart :=
    if lrth = 0 ∨ iref ≤ lrth then none else some (d.lrStart.getD s.now) }) s

/-- What the axis decides after its regulators have run: the watch of R379 and the end of a stop (10 R376). -/
def afterRegulators (n : Fin 8) (s : State) : State :=
  let d := s.axes[n].drv
  if d.ending then s
  else if s.axes[n].st == .run then watchRotor n s
  else if s.axes[n].st == .stopping then
    if atZero s n then
      let s := modDrive n (fun d => { d with lrStart := none }) s
      if d.stop == .hold && !s.axes[n].forced then
        setState n .hold (modDrive n (fun d => { d with stop := .none }) s)
      else endRide n true s
    else watchRotor n s
  else s

/-! ### AX_RUN (10 10.10) -/

/-- The refusals of 10 Table 10.5 by REFUSED_ACTIVE for START (`start`) or PROBE, beside those of the state. -/
def runBlocked (s : State) (n : Fin 8) (start : Bool) : Bool :=
  s.sto.source || (groupOf s n).any (fun m => axFault s m != 0) ||
    (!isDirect s n && (s.axes[n].acc.ilim == 0 || (!anyRung s n && !rungOn s n .hold))) ||
    ((groupOf s n).any (fun m => gangAxis s m) && !gangFormed s) ||
    (start && s.axes[n].forced)

/-- 10 Table 10.4 has a row for START or PROBE in the present state. -/
def runRow (s : State) (n : Fin 8) (start : Bool) : Bool :=
  let a := s.axes[n]
  match a.st with
  | .ready => !a.drv.ending
  | .stopping => start && !a.forced
  | .hold => start
  | .gangstop => start && gangFormed s
  | _ => false

/-- The statuses that a request to AX_RUN may meet (10 R382, Table 10.5); members discard it (08 R294). START and PROBE
of a member in STANDBY or SLEEP meet two rules, 01 R38 with BUSY and 08 R294 with 10 Table 10.5 with OK; the model answers
OK (log entry 86). -/
def runRefusals (s : State) (n : Fin 8) (req : Nat) : List Status :=
  if (req != 1 && req != 4) || isMember s n then []
  else if !bridgeOn s n then [.stoppedOnly]
  else
    (if runBlocked s n (req == 1) || !runRow s n (req == 1) then [.refusedActive] else []) ++
    (if s.power.pstate != .run || axisTesting s n then [.busy] else [])

/-- STOP written to AX_RUN (10 Table 10.4). -/
def stopRun (n : Fin 8) (s : State) : State :=
  let a := s.axes[n]
  match a.st with
  | .start => if a.drv.ending then s else endRide n a.brake s
  | .run => if isDirect s n then endRide n false s else enterStopping n .stop s
  | .hold | .gangstop => enterStopping n .stop s
  | _ => s

/-- HOLD written to AX_RUN (10 Table 10.4). -/
def holdRun (n : Fin 8) (s : State) : State :=
  if s.axes[n].st == .run then enterStopping n .hold s else s

end Sys2Proof.Machine
end

