-- ==== Sys2Proof/Machine/Estimators.lean ====
section
/-! DEFINITION. The estimators of chapter 11: the pulse probe, high-frequency injection and the back-EMF
estimator. -/

namespace Sys2Proof.Machine

/-! ### The pulse probe (11 11.2, 11.3) -/

/-- PWIDTH in us; 0 selects 50. -/
def probeWidth (s : State) (n : Fin 8) : Nat := orDefault (bits (axWord s n 0xA0) 0 8) 50

/-- QMIN; 0 selects 150. -/
def probeQmin (s : State) (n : Fin 8) : Nat := orDefault (bits (axWord s n 0xA2) 0 13) 150

/-- The probe at the start of an attempt of width `w` (11 R386). -/
def Probe.attemptStart (p : Probe) (k w : Nat) : Probe :=
  { p with
    running := true, attempt := k, width := w, pulse := 0, inPulse := true, attemptOver := false
    peaks := Vector.replicate 12 0, got := 0, net := 0, moved := false, attempts := BitVec.ofNat 3 k
    widthUsed := BitVec.ofNat 8 w }

/-- The axis enters PROBE and the first attempt starts (10 Table 10.4, 11 R386). -/
def startProbe (n : Fin 8) (thenStart : Bool) (s : State) : State :=
  let s := forEach (groupOf s n) switchesOff s
  let s := modProbe n (fun p =>
    { p.attemptStart 1 (probeWidth s n) with thenStart := thenStart, cut := false }) s
  rewatch n (setState n .probe s)

/-- The encoder term of 06 R202 for an accumulated count, without ENC_OFS. -/
def encTerm (s : State) (n : Fin 8) (acc : Nat) : DWord :=
  let cpr := axWord32 s n 0x89
  if cpr = 0 then 0 else BitVec.ofNat 32 (acc * bits (axWord s n 0x8B) 0 7 % cpr * 4294967296 / cpr)

/-- The encoder rung's angle for an accumulated count (06 R202). -/
def encAngle (s : State) (n : Fin 8) (acc : Nat) : DWord :=
  angWord (axWord s n 0x8C) + encTerm s n acc

/-- A successful probe aligns the encoder when it is enabled, not VALID and PROBEALIGN is 1 (06 R221). -/
def alignEncoder (n : Fin 8) (s : State) : State :=
  let w := axWord s n 0x8D
  if bit (ladderWord s n) 0 && !bit w 0 && bit w 1 then
    let ofs := s.axes[n].probe.angle - hiWord (encTerm s n s.axes[n].enc.acc)
    let s := writeBoth n 0x8C 0xFFFF ofs (writeBoth n 0x8D 1 1 s)
    modProbe n (fun p => { p with aligned := true }) s
  else modProbe n (fun p => { p with aligned := false }) s

/-- A probe ends inconclusive with an outcome of 2 to 4 (11 Table 11.3). -/
def probeFails (n : Fin 8) (outcome : BitVec 3) (s : State) : State :=
  let units := (List.range 3).map fun x => (⟨4, 3 * n.val + x⟩ : TestUnit)
  let s := raiseFault (faultCode 0x52 (n.val + 8 * outcome.toNat)) units (axStateReg s n) (hertz (ladderSpeed s n)) s
  let s := forEach (groupOf s n) switchesOff s
  let s := modProbe n (fun p =>
    { p with running := false, inPulse := false, outcome := outcome, aligned := false }) s
  setState n .ready s

/-- PROBE_PULSE_TIMING (11 R386, R391): a pulse or a gap ends; a disturbed attempt ends with its pulse. -/
def probeTiming (n : Fin 8) (s : State) : State :=
  let p := s.axes[n].probe
  if axSt s n != .probe || !p.running || p.attemptOver || isMember s n then s
  else if p.inPulse then
    if p.moved then probeFails n 4 s
    else modProbe n (fun p => { p with inPulse := false, pulseEnd := s.now }) (forEach (groupOf s n) switchesOff s)
  else if 11 ≤ p.pulse then modProbe n (fun p => { p with attemptOver := true }) s
  else modProbe n (fun p => { p with pulse := p.pulse + 1, inPulse := true, got := 0 }) s

/-- See `probeTiming`. -/
def execProbePulseTiming (ax : Fin 8) (s : State) : Host.Outcome State Fault Refusal := .next (probeTiming ax s)

/-- Twice the cosine of 30k degrees, as a + b sqrt 3. -/
def probeCos : Nat → Int × Int
  | 0 => (2, 0)
  | 1 => (0, 1)
  | 2 => (1, 0)
  | 3 => (0, 0)
  | 4 => (-1, 0)
  | 5 => (0, -1)
  | 6 => (-2, 0)
  | 7 => (0, -1)
  | 8 => (-1, 0)
  | 9 => (0, 0)
  | 10 => (1, 0)
  | _ => (0, 1)

/-- sqrt 3 in units of 2^-60. -/
def sqrt3 : Int := (isqrt (3 * 4 ^ 60) : Nat)

/-- Twice the sum of N_k cos(30 (k + shift) degrees), in units of 2^-60 (11 R392). -/
def probeSum (peaks : Vector Nat 12) (shift : Nat) : Int :=
  (List.finRange 12).foldl (fun t k =>
    let c := probeCos ((k.val + shift) % 12)
    t + ((peaks[k] : Nat) : Int) * (c.1 * 2 ^ 60 + c.2 * sqrt3)) 0

/-- The quality and the angle of an attempt (11 R392); `open_` stands for a quality the rules do not state, that
of an attempt without any response (log entry 4). -/
def probeResult (peaks : Vector Nat 12) (open_ : Nat) : Nat × Word :=
  let c := probeSum peaks 0
  let v := probeSum peaks 9
  let total := peaks.foldl (· + ·) 0
  let f := isqrt (c * c + v * v).toNat
  (if total = 0 then open_ else 20000 * f / (total * 2 ^ 61), hiWord (atan2Word v c))

/-- The mean of the fast-path current of a leg over the bridges of a group (11 R384). -/
def fastCurrent (s : State) (n : Fin 8) (leg : Fin 3) : Int :=
  let g := groupOf s n
  (g.foldl (fun t m => t + (s.cnv.res.get (0x138 + 3 * m.val + leg.val)).toInt) 0).tdiv (max g.length 1 : Nat)

/-- The response of a probe pulse now: |i| of 11 R388, scaled for a two-leg direction. -/
def probeResponse (s : State) (n : Fin 8) (k : Nat) : Nat :=
  let u := fastCurrent s n 0
  let d := fastCurrent s n 1 - fastCurrent s n 2
  let peak := isqrt ((3 * u * u + d * d) / 3).toNat
  if k % 2 = 1 then peak else peak * 37837 / 32768

/-- The demodulators of the group of axis `n`, as a set. -/
def groupFlows (s : State) (n : Fin 8) : BitVec 24 :=
  (groupOf s n).foldl (fun v m => v ||| (7#24 <<< (3 * m.val))) 0

/-- The probe of leader `n` takes the fast-path result `y` of demodulator `d`: the pulse is cut at PIMAX (11 R387,
R394), and a peak is kept, from results since the pulse start alone, until 2 us after the pulse end (R388). -/
def probeSample (n : Fin 8) (d : Nat) (y : Int) (s : State) : State :=
  let p := s.axes[n].probe
  if axSt s n != .probe || !p.running then s
  else if p.inPulse && decide (bits (axWord s n 0xA1) 0 15 ≤ y.natAbs) then probeFails n 3 s
  else if p.inPulse || decide (s.now ≤ p.pulseEnd + 400) then
    let got := setBit p.got d
    let k := probeOrder.getD p.pulse 0
    let r := if got &&& groupFlows s n = groupFlows s n then probeResponse s n k else 0
    let peaks := Vector.ofFn fun i : Fin 12 => if i.val = k then max p.peaks[i] r else p.peaks[i]
    modProbe n (fun p => { p with got := got, peaks := peaks }) s
  else s

/-! ### High-frequency injection (11 11.4) -/

/-- INJDIV, at least 1. -/
def injDiv (s : State) (n : Fin 8) : Nat := max 1 (bits (axWord s n 0xA8) 0 8)

/-- Injection is the active rung or a party to a blend. -/
def injInUse (s : State) (n : Fin 8) : Bool :=
  let l := s.axes[n].ladder
  l.active == .inj || (match l.blend with
    | some b => b.fromRung == .inj || b.toRung == .inj
    | none => false)

/-- The auto condition of 11 R398. -/
def injAuto (s : State) (n : Fin 8) : Bool :=
  injInUse s n || decide ((ladderSpeed s n).natAbs < injMax s n)

/-- The gate may be open, the interleave apart (11 R398). -/
def injBase (s : State) (n : Fin 8) : Bool :=
  rungOn s n .inj && (axSt s n).driving && s.axes[n].inj.latch &&
    (!bit (axWord s n 0xA8) 8 || injAuto s n)

/-- The interleave applies: the auto condition holds in the back-EMF band (11 R398). -/
def injInterleaves (s : State) (n : Fin 8) : Bool :=
  injAuto s n && rungOn s n .bemf && decide (bemfMin s n ≤ (ladderSpeed s n).natAbs)

/-- A rung other than injection that qualifies. -/
def seedRung (s : State) (n : Fin 8) : Option Rung :=
  rungRanks.find? fun r => r != .inj && qualifies s n r

/-- The current vector of the group: iU and iV - iW (11 R401). -/
def groupVector (s : State) (n : Fin 8) : Vector Int 2 :=
  let g := groupOf s n
  let mean := fun leg => (g.foldl (fun t m => t + legCurrent s m leg) 0).tdiv (max g.length 1 : Nat)
  #v[mean 0, mean 1 - mean 2]

/-- The gate opens (11 R398-R400): the injection periods count from here, and the estimator takes the ladder angle and
speed; one that kept its lock over an interleave stays seeded. -/
def injOpens (n : Fin 8) (s : State) : State :=
  modInj n (fun i => { i with
    base := true, gate := true, sign := false, div := 0, periods := 0, closedDiv := 0, lastI := groupVector s n
    angle := rotorAngle s n, since := s.now, speed := ladderSpeed s n
    seeded := i.converged || (seedRung s n).isSome
    convCount := if i.converged then i.convCount else 0, badErr := 0, badResp := 0 }) s

/-- The interleave closes the gate in the last 4 of every 8 injection periods from its opening (11 R398). -/
def injRests (s : State) (n : Fin 8) : Bool := injInterleaves s n && decide (4 ≤ s.axes[n].inj.periods % 8)

/-- An open gate closes once 11 R398 does not hold, its place in the injection period kept; a gate that rests ends its
count where a condition other than the interleave ends. -/
def judgeGate (n : Fin 8) (s : State) : State :=
  let i := s.axes[n].inj
  let base := injBase s n
  if i.gate && (!base || injRests s n) then
    modInj n (fun i => { i with
      base := base, gate := false, closedDiv := 0, closedAt := s.now
      div := if i.sign then injDiv s n + i.div else i.div }) s
  else if i.base && !base then modInj n (fun i => { i with base := false }) s
  else s

/-- INJERR and RESP of a change of current (11 R401): the angle of the change from the injection axis, scaled by
saliency, and the component along that axis. -/
def injMeasure (s : State) (n : Fin 8) (d : Vector Int 2) : Word × Nat :=
  let phi := injAngle s n + 0x95555555#32
  let beta := d[1] * 2 ^ 60 / sqrt3
  let ang := angDiff (atan2Word beta d[0]) phi / 65536
  let sal : Int := bits (axWord s n 0xAC) 0 10
  let along := (d[0] * cosWord phi + beta * sinWord phi) / one48
  (satWord (if sal = 0 then 0 else (ang * (1000 - sal)).tdiv (2 * sal)), (min 32767 along).toNat)

/-- The counts of 11 R402 after one injection period. -/
def Inj.judge (i : Inj) (nconv rmin : Nat) : Inj :=
  let err := i.err.toInt.natAbs
  let resp := i.resp.toNat
  let good := decide (err ≤ 364) && decide (rmin ≤ resp)
  let i := { i with
    convCount := if i.seeded && good then satInc i.convCount else 0
    badErr := if 1820 < err then i.badErr + 1 else 0
    badResp := if 2 * resp < rmin then i.badResp + 1 else 0 }
  if 4 ≤ i.badErr ∨ 4 ≤ i.badResp then i.lose
  else { i with converged := i.converged || (i.seeded && decide (nconv ≤ i.convCount.toNat)) }

/-- A toggle of the injection sign (11 R399, R401): the change of current is measured, and once per injection
period the tracking loop of a seeded estimator runs; one that is not seeded stays on the ladder angle (R400). -/
def injToggle (n : Fin 8) (s : State) : State :=
  let i := s.axes[n].inj
  let v := groupVector s n
  let sg : Int := if i.sign then -1 else 1
  let d : Vector Int 2 := #v[sg * (v[0] - i.lastI[0]), sg * (v[1] - i.lastI[1])]
  let m := injMeasure s n d
  let i := { i with err := m.1, resp := BitVec.ofNat 15 m.2, lastI := v, div := 0, sign := !i.sign }
  let i := if i.sign then i
    else
      let ticks := 2 * injDiv s n * perOf s n * prescOf s n
      let r := if i.seeded then
          Config.injLoop (injAngle s n) i.speed m.1.toInt (orDefault (bits (axWord s n 0xAA) 0 7) 20) ticks
        else (rotorAngle s n, ladderSpeed s n)
      let i := { i with periods := i.periods + 1, angle := r.1, speed := r.2, since := s.now }
      i.judge (orDefault (bits (axWord s n 0xAB) 0 8) 16) (bits (axWord s n 0xAD) 0 15)
  modInj n (fun _ => i) s

/-- The values of the measured current at the last 2 INJDIV period starts (11 R404). -/
def pushCurrent (n : Fin 8) (s : State) : State :=
  modInj n (fun i => { i with window := (groupCurrent s n :: i.window).take (2 * injDiv s n) }) s

/-- A period start of a closed gate, but for the one at which it closed: the estimator loses its lock after more than 8
injection periods (11 R402). -/
def injClosed (n : Fin 8) (s : State) : State :=
  if s.axes[n].inj.closedAt = s.now then s
  else modInj n (fun i =>
    let i := { i with closedDiv := i.closedDiv + 1 }
    if 16 * injDiv s n < i.closedDiv then i.lose else i) s

/-- A period start of an open gate: a toggle every INJDIV-th, and the end of the gate where R398 gives it. -/
def injRuns (n : Fin 8) (s : State) : State :=
  let s := modInj n (fun i => { i with div := i.div + 1 }) s
  judgeGate n (if injDiv s n ≤ s.axes[n].inj.div then injToggle n s else s)

/-- A period start of a gate that rests (11 R398): its injection periods count on. -/
def injWaits (n : Fin 8) (s : State) : State :=
  let s := modInj n (fun i => { i with div := i.div + 1 }) s
  let s := if 2 * injDiv s n ≤ s.axes[n].inj.div then
      modInj n (fun i => { i with div := 0, periods := i.periods + 1 }) s
    else s
  if injRests s n then s else injOpens n s

/-- Injection at a period start of its axis (11 R398-R404). -/
def stepInjection (n : Fin 8) (s : State) : State :=
  let s := pushCurrent n (judgeGate n s)
  let s := if s.axes[n].inj.gate then injRuns n s
    else
      let s := injClosed n s
      if !injBase s n then s
      else if s.axes[n].inj.base then injWaits n s
      else injOpens n s
  modInj n (fun i => { i with injecting := i.gate }) s

/-- An estimator whose gate is open and that is not seeded takes the angle of the first other rung that qualifies
(11 R400). -/
def seedInjection (n : Fin 8) (s : State) : State :=
  let i := s.axes[n].inj
  if i.gate && !i.seeded then
    match seedRung s n with
    | some r => modInj n (fun i => { i with seeded := true, angle := s.axes[n].ladder.rungAng[r.pos], since := s.now }) s
    | none => s
  else s

/-- INJ_ON and INJ_OFF set and clear the stitch latch; without it the gate closes at once (11 R398). -/
def setInjLatch (n : Fin 8) (b : Bool) (s : State) : State := judgeGate n (modInj n (fun i => { i with latch := b }) s)

/-! ### The back-EMF estimator (11 11.5) -/

/-- The rotor angle a crossing fixes in a sector (11 R408). -/
def crossingAngle : Nat → Word
  | 0 => 5461
  | 1 => 16384
  | 2 => 27307
  | 3 => 38229
  | 4 => 49152
  | _ => 60075

/-- The direction between two crossings from their sectors; `dir` where they do not tell. -/
def crossingDir (old new : Nat) (dir : Int) : Int :=
  if (old + 1) % 6 = new then 1 else if (new + 1) % 6 = old then -1 else dir

/-- An interval lies within 50-150 % of the previous one, where there is one (11 R410). -/
def gapFits (prev : Option Nat) (g : Nat) : Bool :=
  match prev with
  | none => true
  | some p => decide (p ≤ 2 * g) && decide (2 * g ≤ 3 * p)

/-- The lock count after a crossing: 1 for the first of a count, 2 for the second whatever its interval, then one more
while the intervals fit (11 R410). -/
def crossingCount (run : Nat) (fits : Bool) : Nat :=
  if run = 0 then 1 else if run = 1 then 2 else if fits then run + 1 else 1

/-- A crossing at time `t` in sector `sec` (11 R408-R410). The speed comes from the intervals since the count last
started, and stands where there is none yet. -/
def Bemf.crossing (b : Bemf) (sec t : Nat) (ladderDir : Int) : Bemf :=
  let dir := match b.fixTime with
    | none => ladderDir
    | some _ => crossingDir b.fixSector sec (if ladderDir = 0 then b.dir else ladderDir)
  let gap := b.fixTime.map fun t0 => t - t0
  let fits := gap.all (gapFits b.lastGap)
  let run := crossingCount b.run fits
  let intervals := if run = 1 then [] else (gap.toList ++ b.intervals).take 5
  let sum := intervals.foldl (· + ·) 0
  let broken := if fits then 0 else b.broken + 1
  { b with
    cross := b.cross + 1
    run := run
    broken := broken
    locked := b.locked && decide (broken < 2)
    intervals := intervals
    lastGap := gap
    speed := if sum = 0 then b.speed else dir * ((10923 * 200000000000 * intervals.length / (65536 * sum) : Nat))
    dir := dir
    fix := angWord (crossingAngle sec), fixTime := some t, fixSector := sec
    angle := angWord (crossingAngle sec), angleTime := t
    integral := 0 }

/-- The angle travelled since the crossing (11 R409), capped at 30 degrees; `ke` is in mV per Hz. -/
def emfTravel (integral : Int) (ke : Nat) : Nat :=
  if ke = 0 then 0
  else
    let r := one48 * 6283185307179586477 / 10 ^ 18 * ((integral.natAbs : Int) * 5) / (3 * (ke : Int) * 10 ^ 11)
    min (5461 * 65536) (acosWord (max 0 (one48 - r)))

/-- The integral over a sample set at time `t` with `e` in force (11 R409). -/
def Bemf.integrate (b : Bemf) (e : Int) (t ke : Nat) : Bemf :=
  match b.fixTime with
  | none => { b with setTime := t, heldE := e }
  | some t0 =>
    let i := b.integral + e * ((t - max b.setTime t0 : Nat) : Int)
    let a := b.fix + BitVec.ofInt 32 (b.dir * (emfTravel i ke : Nat))
    { b with integral := i, setTime := t, heldE := e, angle := a, angleTime := t }

/-- A valid sample of sector `sec` (11 R408-R410). -/
def Bemf.sample (b : Bemf) (e : Int) (sec t ke : Nat) (ladderDir : Int) : Bemf :=
  let b := match b.last with
    | some p =>
      if p.e * e < 0 then
        b.crossing sec (p.time + (t - p.time) * p.e.natAbs / (p.e.natAbs + e.natAbs)) ladderDir
      else b
    | none => b
  let b := b.integrate e t ke
  { b with
    last := if e = 0 then b.last else some { e := e, time := t }
    sectorMax := max b.sectorMax e.natAbs }

/-- A floating-leg sample is valid (11 R406); `v` and `vdc` in 10 uV, `on` tells that its conversion instant lay in the
on-time of the high-role leg's high side, 1 us or more after its turn-on, in a period without injection. -/
def emfValid (s : State) (n : Fin 8) (v vdc : Nat) (on : Bool) : Bool :=
  (axSt s n).driving && s.axes[n].drv.hem.isNone && on &&
    decide (vdc < 50 * v) && decide (50 * v < 49 * vdc)

/-- The present period carries no injection, and the high side of the high-role leg of axis `n` is on at tick `t` of it and
has been on for 1 us (11 R406). -/
def highSideOn (s : State) (n : Fin 8) (t : Nat) : Bool :=
  let a := s.axes[n]
  let l := a.car.legs[(sectorRoles a.drv.sector a.rev).1]
  let pos := 16 * (t - (s.now - a.car.ticks))
  !a.inj.injecting && Pulse.covers l.high pos && decide (3200 ≤ Pulse.onFor l.highFor pos l.high)

/-- One sample set of the estimator of axis `n` is complete with the DC-link code (11 R405-R409): the floating leg's
sample counts at its own conversion instant. -/
def bemfSet (n : Fin 8) (dc : Nat) (s : State) : State :=
  let a := s.axes[n]
  let sec := a.drv.sector
  let vlsb := (runWord s 5 (0x704 + 16 * n.val)).toNat
  let leg := floatingLeg (sectorRoles sec a.rev)
  let v := a.bemf.codes[leg].toNat * vlsb
  let vdc := dc * vlsb
  let e : Int := 2 * (v : Int) - vdc
  let t := a.bemf.times[leg]
  let ke := (axWord s n 0xB1).toNat
  if emfValid s n v vdc a.bemf.ons[leg] then modBemf n (fun b => b.sample e sec t ke (signOf (ladderSpeed s n))) s
  else modBemf n (fun b => b.integrate b.heldE t ke) s

end Sys2Proof.Machine
end

