-- ==== Sys2Proof/Machine/RunRequest.lean ====
section
/-! DEFINITION. Requests of AX_RUN and AX_CTRL.EN (10 Tables 10.4, 10.5). -/

namespace Sys2Proof.Machine

/-- What every accepted START or PROBE clears: returning marks (06 R223) and the encoder window (06 Table
6.3). -/
def clearMarks (n : Fin 8) (s : State) : State :=
  modAxis n (fun a => { a with
    ladder := { a.ladder with ret := 0 }
    enc := { a.enc with sinceError := none } }) s

/-- An accepted START (10 Table 10.4). -/
def startRun (n : Fin 8) (s : State) : State :=
  let s := countTally (0x08 + n.val) (clearMarks n s)
  match s.axes[n].st with
  | .ready =>
    if isDirect s n then enterDirect n s
    else if anyRung s n then enterStart n s
    else startProbe n true s
  | .stopping | .hold | .gangstop =>
    setState n .run (modDrive n (fun d => { d with stop := .none, wait := .none, offNext := false }) s)
  | _ => s

/-- An accepted PROBE (10 Table 10.4). -/
def probeRun (n : Fin 8) (s : State) : State :=
  let s := clearMarks n s
  if s.axes[n].st == .ready then startProbe n false s else s

/-- An accepted write of AX_RUN (10 Table 10.9, R382); a member discards it (08 R294). -/
def requestRun (n : Fin 8) (req : Nat) (s : State) : State :=
  if isMember s n then s
  else match req with
    | 1 => startRun n s
    | 2 => stopRun n s
    | 3 => holdRun n s
    | 4 => probeRun n s
    | _ => s

/-- EN comes into force (10 Table 10.4): a member follows its leader's (08 R294). -/
def applyEnable (n : Fin 8) (en : Bool) (s : State) : State :=
  if isMember s n then s
  else if en then
    if s.axes[n].st == .off && bridgeOn s n && (groupOf s n).all (fun m => axFault s m == 0) then
      rewatch n (setState n .ready s)
    else s
  else
    let st := s.axes[n].st
    if st == .ready || st == .probe || st.driving then
      setState n .off (haltAxis n (modAxis n (fun a => { a with forced := false }) s))
    else s

/-- A live register of the page of axis `n` is written (00 Table 0.4): it takes effect at the next period start,
or at once while the carrier is stopped (log entry 13). -/
def liveStopped (s : State) (n : Fin 8) : Bool := !carrierOn s n

/-- EN 0 acts at once on the brake-release output (10 R378), and ends a probe (11 11.7). -/
def disableNow (n : Fin 8) (s : State) : State :=
  if isMember s n then s
  else
    let s := clearBrake n s
    if s.axes[n].st == .probe then setState n .off (forEach (groupOf s n) switchesOff (haltAxis n s)) else s

/-- AX_CTRL.EN is written; what EN 0 does at once comes first. -/
def writeEnable (n : Fin 8) (en : Bool) (s : State) : State :=
  let s := modAxis n (fun a => { a with acc := { a.acc with en := en } }) s
  let s := if en then s else disableNow n s
  if liveStopped s n then
    applyEnable n en (modAxis n (fun a => { a with eff := { a.eff with en := en } }) s)
  else modAxis n (fun a => { a with enWritten := true }) s

end Sys2Proof.Machine
end

