-- ==== Sys2Proof/Machine/Converters.lean ====
section
/-! DEFINITION. Converters, correction and the witness (chapter 13). -/

namespace Sys2Proof.Machine

/-! ### Correction (13 13.5) -/

/-- The sum floor(((16 r + OFS) GAIN + 262,144) / 524,288) of 13 R459 and R460. -/
def correct (p : Pair) (r : Int) : Int := ((16 * r + p.ofs.toInt) * p.gain.toNat + 262144) / 524288

/-- A corrected SAR or witness result and its CLAMP flag (13 R459, R461). -/
def correctCode (p : Pair) (raw : BitVec 12) : BitVec 12 × Bool :=
  let y := correct p raw.toNat
  (BitVec.ofInt 12 (clampInt y 0 4095), decide (y < 0) || decide (4095 < y))

/-- A demodulator result and its CLAMP flag (13 R460, R461). -/
def clampFlow (y : Int) : Int × Bool :=
  (clampInt y (-32768) 32767, decide (y < -32768) || decide (32767 < y))

/-- A corrected demodulator result, the filter output being `num / den` current units, and its CLAMP flag (13 R460,
R461). -/
def correctFlow (p : Pair) (num : Int) (den : Nat) : Int × Bool :=
  clampFlow (((16 * num + p.ofs.toInt * (den : Nat)) * p.gain.toNat + 262144 * (den : Nat)) / (524288 * (den : Nat)))

/-- The pair in force at an even word of space 0x07. -/
def pairAt (s : State) (k : Nat) : Pair where
  ofs := s.cnv.coef.get k
  gain := s.cnv.coef.get (k + 1)

/-- Adds 1 to a saturating counter word of space 0x06. -/
def countRes (k : Nat) (s : State) : State := putRes k (satInc (s.cnv.res.get k)) s

/-! ### Slots (13 13.2, 13.7) -/

/-- The axis of converter `j`. -/
def convAxis (j : Fin 16) : Fin 8 := ⟨j.val / 2, by omega⟩

/-- Converter `j` is clocked (01 Table 1.10). -/
def convOn (s : State) (j : Fin 16) : Bool := awake s && bridgeOn s (convAxis j)

/-- The slot length of converter `j` in ticks (13 Table 13.3, R452). -/
def slotTicks (s : State) (j : Fin 16) : Nat :=
  if bit (runReg s 0x061) j.val || s.power.pstate == .standby then 800 else 50

/-- The pairing kind of a SAR input (13 Table 13.5): DCLINK, TDAC, REF. -/
def pairingKind : Nat → Option Nat
  | 3 => some 0
  | 5 => some 1
  | 6 => some 2
  | _ => none

/-- The witness input paired with input `i` of S(j) (13 Table 13.5). -/
def witnessInput (j i : Nat) : Nat :=
  if i = 3 then j % 4 else if i = 5 then 4 + j % 4 / 2 else 6

/-- LIM of a pairing of S(j) (13 Table 13.11). -/
def witnessLim (s : State) (j q : Nat) : Nat := bits (runWord s 5 (0x780 + 32 * (j / 4) + 3 * (j % 4) + q)) 0 12

/-- The converters of the witness group of `j`. -/
def groupConvs (j : Fin 16) : List (Fin 16) := (List.finRange 16).filter fun i => i.val / 4 == j.val / 4

/-- W(k) converts at tick `start`: a paired slot, which lasts 250 ns in every mode of its SAR converter (13 R452), or its
own test. -/
def witnessBusy (s : State) (j : Fin 16) (start : Nat) : Bool :=
  isTesting s ⟨3, j.val / 4⟩ || (groupConvs j).any fun i =>
    let c := s.cnv.sar[i]
    [c.run, c.result.map (·.run), c.lone, c.loneResult.map (·.run)].any fun r =>
      r.any fun r => r.wit.isSome && decide (start < r.start + 50)

/-- What a slot on input `i` that starts at tick `start` meets at the witness (13 R469): no pairing, a busy witness, or a
paired slot. -/
inductive Pairing where
  | none
  | busy
  | paired (w : WitSlot)

/-- The pairing of a slot on input `i` of S(j) that starts at tick `start`. -/
def pairing (s : State) (j : Fin 16) (i start : Nat) : Pairing :=
  match pairingKind i with
  | .none => .none
  | some q =>
    if witnessLim s j.val q = 0 ∨ isLasting s ⟨3, j.val / 4⟩ then .none
    else if witnessBusy s j start then .busy
    else
      let w := witnessInput j.val i
      .paired { input := w, kind := q, pair := pairAt s (0x100 + 16 * (j.val / 4) + 2 * w) }

/-- A skipped pairing is counted (13 R469). -/
def countSkip (j : Fin 16) (s : State) : State :=
  let s := countRes (0x178 + j.val / 4) s
  { s with cnv := { s.cnv with witness := setBit s.cnv.witness (4 + j.val / 4) } }

/-- A skip counted for a slot that gives way before it began is taken back; `flag` is the SKIP bit before it. -/
def takeBackSkip (j : Fin 16) (flag : Bool) (s : State) : State :=
  let k := 0x178 + j.val / 4
  let w := s.cnv.res.get k
  let s := putRes k (if w = 0xFFFF then w else w - 1) s
  { s with cnv := { s.cnv with witness := putBit s.cnv.witness (4 + j.val / 4) flag } }

/-- Starts a slot on an input at tick `start`, `rest` the inputs that follow; `lead` is the arrival of a start that found
the converter idle. -/
def startSlot (j : Fin 16) (seq entry : Nat) (inputs : List (Fin 8)) (irq : Bool) (start : Nat) (lead : Option Arrival)
    (s : State) : State :=
  match inputs with
  | [] => modSar j (fun c => { c with run := none }) s
  | i :: rest =>
    let p := pairing s j i.val start
    let flag := s.cnv.witness.getLsbD (4 + j.val / 4)
    modSar j (fun c => { c with run := some {
      seq := seq, entry := entry, input := i, pair := pairAt s (16 * j.val + 2 * i.val)
      rest := rest, irq := irq, start := start, lead := lead
      wit := match p with
        | .paired w => some w
        | _ => none
      skip := match p with
        | .busy => some flag
        | _ => none
      onTime := highSideOn s (convAxis j) (start + 10) } })
      (match p with
       | .busy => countSkip j s
       | _ => s)

/-- The header word of sequence `q` (13 Table 13.11). -/
def seqHeader (s : State) (q : Nat) : Word := runWord s 5 (24 * q)

/-- The inputs of a sequence as its words stand (13 R444); the one input of a mains tracker for 64 and 65
(06 R212). -/
def seqInputs (s : State) (q : Nat) : List (Fin 8) :=
  if 64 ≤ q then [Fin.ofNat 8 (bits (tailWord s (q - 64) 0xE0) 5 3)]
  else (List.range (bits (seqHeader s q) 0 5)).map fun e => Fin.ofNat 8 (bits (runWord s 5 (24 * q + 1 + e)) 0 3)

/-- The first slot of a sequence begins (13 R448). -/
def beginSequence (j : Fin 16) (q start : Nat) (lead : Option Arrival) (s : State) : State :=
  startSlot j q 0 (seqInputs s q) (decide (q < 64) && bit (seqHeader s q) 9) start lead s

/-- The pending starts of a converter are served in order of arrival at tick `start`; one whose sequence has become empty
ends as it begins (13 R446-R448). -/
def startPending (j : Fin 16) (start : Nat) : List PendStart → State → State
  | [], s => modSar j (fun c => { c with pend := [] }) s
  | q :: qs, s =>
    if (seqInputs s q.seq).isEmpty then startPending j start qs s
    else beginSequence j q.seq start none (modSar j (fun c => { c with pend := qs }) s)

/-- Arrival `a` comes before arrival `b` (13 R447). -/
def Arrival.before (a b : Arrival) : Bool := decide (a.time < b.time) || (a.time == b.time && decide (a.place < b.place))

/-- The starts that wait, with one more in its place (13 R447). -/
def insertStart (x : PendStart) (l : List PendStart) : List PendStart :=
  l.filter (fun y => !x.arrival.before y.arrival) ++ x :: l.filter (fun y => x.arrival.before y.arrival)

/-- A start joins the queue of converter `j`, which holds four; the last of five is dropped (13 R447). -/
def queueStart (j : Fin 16) (x : PendStart) (s : State) : State :=
  let l := insertStart x s.cnv.sar[j].pend
  let s := modSar j (fun c => { c with pend := l.take 4 }) s
  if 4 < l.length then setCnvStat 1 (countRes (0x150 + j.val) s) else s

/-- The slot of an idle converter gives way to a start that comes before its own: it begins no more, and its start waits
(13 R447). -/
def giveWay (j : Fin 16) (r : SarRun) (lead : Arrival) (s : State) : State :=
  let s := match r.skip with
    | some flag => takeBackSkip j flag s
    | none => s
  queueStart j { seq := r.seq, arrival := lead } (modSar j (fun c => { c with run := none }) s)

/-- A start for converter `j` arrives (13 R446, R447, R467). -/
def convStart (j : Fin 16) (q : Nat) (a : Arrival) (s : State) : State :=
  if !convOn s j || (seqInputs s q).isEmpty then s
  else if isTesting s ⟨2, j.val⟩ || isLasting s ⟨2, j.val⟩ then setCnvStat 2 (countRes (0x160 + j.val) s)
  else match s.cnv.sar[j].run with
    | none => beginSequence j q (a.time + 2) (some a) s
    | some r =>
      match r.lead with
      | some b =>
        if a.before b then beginSequence j q (a.time + 2) (some a) (giveWay j r b s)
        else queueStart j { seq := q, arrival := a } s
      | none => queueStart j { seq := q, arrival := a } s

/-- Sequence `q` is triggered (13 R445). -/
def triggerSequence (q : Nat) (a : Arrival) (s : State) : State :=
  convStart (Fin.ofNat 16 (bits (seqHeader s q) 5 4)) q a s

/-! ### Consumers of a SAR result (13 R450, R451, R470) -/

/-- The DC-link comparison of bridge `n` (13 R450, 09 Table 9.6). -/
def dcLinkResult (n : Fin 8) (y : BitVec 12) (clamped : Bool) (s : State) : State :=
  let past := decide (bits (tripWord s n 2) 0 12 < y.toNat) || (clamped && y == 0xFFF)
  let under := decide (y.toNat < bits (tripWord s n 3) 0 12) || (clamped && y == 0)
  let t := s.axes[n].trip
  let raise := fun (on old new : Bool) (d : Nat) (s : State) =>
    if on && new && !old then raiseOn n (faultCode 0x21 (n.val + 64 * d)) ⟨7, n.val⟩ 0 s else s
  let w := tripWord s n 0
  let s' := raise (bit w 2) t.uv under 1 (raise (bit w 1) t.ov past 0 s)
  settleTrips s (modTrip n (fun t => { t with ov := past, uv := under }) s')

/-- Command source 1 takes a result (10 Table 10.3). -/
def commandResult (j : Fin 16) (i : Nat) (y : BitVec 12) (s : State) : State :=
  forEach allAxes (fun n t =>
    let w := axWord t n 1
    if bridgeOn t n ∧ t.axes[n].eff.cmdSrc = 1 ∧ bits w 0 4 = j.val ∧ bits w 4 3 = i then
      freshInput n (16 * y.toNat) t
    else t) s

/-- The back-EMF estimator takes entry `e` of sequence `q` (11 R405). -/
def bemfResult (j : Fin 16) (r : SarRun) (y : BitVec 12) (s : State) : State :=
  let n := convAxis j
  let w := axWord s n 0xB0
  let trg := runWord s 5 (0x700 + 16 * n.val + bits w 0 2)
  let e0 := bits w 4 4
  if !rungOn s n .bemf || isMember s n || !bit trg 7 || bits trg 0 6 ≠ r.seq || r.entry < e0 || e0 + 3 < r.entry then s
  else if h : e0 ≤ r.entry ∧ r.entry < e0 + 3 then
    let k : Fin 3 := ⟨r.entry - e0, by omega⟩
    modBemf n (fun b => { b with
      codes := b.codes.set k (y.setWidth 16), times := b.times.set k (r.start + 10), ons := b.ons.set k r.onTime }) s
  else bemfSet n y.toNat s

/-- A mains tracker takes its sample (06 R212, R213); the angle of a dead one, and of one whose engine is out of service,
holds (16 Tables 16.3, 16.7). -/
def mainsResult (q : Nat) (y : BitVec 12) (s : State) : State :=
  if h : 64 ≤ q ∧ q < 66 then
    if engineOut s || domainDead s (196 + (q - 64)) then s
    else
    let m : Fin 2 := ⟨q - 64, by omega⟩
    let src : Fin 32 := ⟨24 + m.val, by omega⟩
    let r := Config.mainsLoop s.src[src].angle s.mains[m].freq (y.setWidth 16)
      (BitVec.ofNat 2 (bits (tailWord s m.val 0xE0) 8 2)) (tailWord s m.val 0xE1)
    let f := r.2.1
    let t := s.mains[m]
    let locked := t.lock && decide (r.2.2.natAbs ≤ 2731) && decide (45000 ≤ f) && decide (f ≤ 65000)
    let steady := if r.2.2.natAbs ≤ 910 then min 1280 (t.steady + 1) else 0
    let s := if t.range then s else modSrc src (fun k => { k with angle := r.1, speed := f }) s
    { s with mains := s.mains.set m { t with
        freq := f, lock := locked, steady := steady, lastLocked := if locked then f else t.lastLocked } }
  else s

/-- The queued test of unit `u` waits for that of unit `v` (13 R470). -/
def testAfter (u v : TestUnit) (s : State) : State :=
  modQueue (queueOf u) (fun l => l.map fun t => if t.unit = u then { t with after := some v } else t) s

/-- The result of a witness slot that started at tick `start` is written, unless one of a later slot on the same input
already stands there (13 R452, R459, R461). -/
def storeWitness (j : Fin 16) (w : WitSlot) (start : Nat) (rawW : BitVec 12) (s : State) : State :=
  let k := j.val / 4
  let i := Fin.ofNat 32 (8 * k + w.input)
  let v := correctCode w.pair rawW
  let s := if start < s.cnv.witAt[i] then s
    else putRes (0x100 + 8 * k + w.input) (v.1.setWidth 16 ||| flagBit v.2 12)
      { s with cnv := { s.cnv with witAt := s.cnv.witAt.set i start } }
  if v.2 then setCnvStat 3 s else s

/-- The comparison of a pairing (13 R470). A test of W(k) that was queued before keeps its place. -/
def witnessResult (j : Fin 16) (w : WitSlot) (y : BitVec 12) (rawW : BitVec 12) (s : State) : State :=
  let k := j.val / 4
  let v := correctCode w.pair rawW
  let d : Int := (y.toNat : Int) - v.1.toNat
  if witnessLim s j.val w.kind < d.natAbs then
    let s := putRes (0x170 + 2 * k) (BitVec.ofNat 16 (j.val % 4 + 4 * w.kind)) s
    let s := putRes (0x171 + 2 * k) (BitVec.ofInt 16 d) s
    let s := { s with cnv := { s.cnv with witness := setBit s.cnv.witness k } }
    let n := convAxis j
    let was := isQueued s ⟨3, k⟩
    let s := raiseOn n (faultCode 0x30 j.val) ⟨2, j.val⟩ (BitVec.ofInt 16 d) s
    let s := raiseOn n (faultCode 0x31 k) ⟨3, k⟩ (BitVec.ofInt 16 d) s
    if was then s else testAfter ⟨3, k⟩ ⟨2, j.val⟩ s
  else s

/-- A paired result is handed over (13 R446, R470). -/
def pairResult (j : Fin 16) (r : SarRes) (y : BitVec 12) (s : State) : State :=
  match r.run.wit with
  | some w => witnessResult j w y r.rawWit (if r.stored then s else storeWitness j w r.run.start r.rawWit s)
  | none => s

/-- The result of a witness slot whose SAR slot a test ended is handed over; it is compared with nothing (13 R452,
R467). -/
def loneHandover (j : Fin 16) (s : State) : State :=
  match s.cnv.sar[j].loneResult with
  | some r =>
    let s := modSar j (fun c => { c with loneResult := none }) s
    (match r.run.wit with
     | some w => storeWitness j w r.run.start r.rawWit s
     | none => s)
  | none => s

/-- SAR_RESULT_HANDOVER (13 R446, R449-R451, R459). -/
def resultHandover (j : Fin 16) (s : State) : State :=
  let s := loneHandover j s
  match s.cnv.sar[j].result with
  | none => s
  | some r =>
    let i := r.run.input.val
    let v := correctCode r.run.pair r.raw
    let s := modSar j (fun c => { c with result := none }) s
    let s := putRes (8 * j.val + i) (v.1.setWidth 16 ||| flagBit v.2 12) s
    let s := putRes (0x80 + 8 * j.val + i) (r.raw.setWidth 16) s
    let s := if v.2 then setCnvStat 3 s else s
    let s := if i = 3 then dcLinkResult (convAxis j) v.1 v.2 s else s
    let s := mainsResult r.run.seq v.1 (commandResult j i v.1 (bemfResult j r.run v.1 s))
    let s := pairResult j r v.1 s
    if r.run.rest.isEmpty && r.run.irq then
      setCnvStat 0 (putRes 0x180 (BitVec.ofNat 16 r.run.seq) s)
    else s

/-- See `resultHandover`. -/
def execSarResultHandover (conv : Fin 16) (s : State) : Host.Outcome State Fault Refusal :=
  .next (resultHandover conv s)

/-! ### What a conversion meets (13 13.1, 13.6) -/

/-- The output code of test DAC `n` for code `v` (13 R462). -/
def dacOutput (s : State) (n : Fin 8) (v : BitVec 10) : Nat :=
  (clampInt (correct (pairAt s (0x170 + 2 * n.val)) v.toNat) 0 1023).toNat

/-- The code that a test of a SAR converter or a witness applies at one of its levels (13 R466). -/
def testLevel (i : Nat) : BitVec 10 :=
  match i with
  | 0 => 128
  | 1 => 512
  | _ => 896

/-- The code on test DAC `n`: its own, or a level of the test that holds it, which of the three being open (log
entry 95; `k` is a draw). -/
def dacCode (s : State) (n : Fin 8) (k : Nat) : BitVec 10 :=
  if dacTaken s n then testLevel ((Config.unstated 505 k).toNat % 3) else s.cnv.dac[n]

/-- The voltage of test DAC `n` at code `v` in microvolts / 1024 (13 R465). -/
def dacVoltsAt (s : State) (n : Fin 8) (v : BitVec 10) : Int := (2500000 * dacOutput s n v : Nat)

/-- The voltage of test DAC `n` in microvolts / 1024. -/
def dacVolts (s : State) (n : Fin 8) (k : Nat) : Int := dacVoltsAt s n (dacCode s n k)

/-- The voltage of the pin that the ROUTE word of input `i` of S(j) names, in microvolts / 1024 (13 R441); that of an input
which is not routed is open (log entry 95). -/
def routedVolts (s : State) (v : AnalogIn) (j i k : Nat) : Int :=
  let w := runWord s 5 (0x600 + 16 * j + i)
  if bit w 7 then 1024 * (((v.pins.find? fun p => p.1 == 32 + bits w 0 5).map (·.2)).getD 0 : Nat)
  else (Config.unstated 506 k).toNat

/-- The reference node, 1.250 V, in microvolts / 1024 (13 Table 13.1). -/
def refVolts : Int := 1024 * 1250000

/-- The voltage at input `i` of S(j), in microvolts / 1024 (13 Table 13.1). -/
def sarVolts (s : State) (v : AnalogIn) (j : Fin 16) (i k : Nat) : Int :=
  if i < 5 then routedVolts s v j.val i k
  else if i = 5 then dacVolts s (convAxis j) k
  else if i = 6 then refVolts
  else 0

/-- The voltage at input `w` of witness `k4`, in microvolts / 1024 (13 Table 13.5). -/
def witnessVolts (s : State) (v : AnalogIn) (k4 w k : Nat) : Int :=
  if w < 4 then routedVolts s v (4 * k4 + w) 3 k
  else if w < 6 then dacVolts s (Fin.ofNat 8 (2 * k4 + (w - 4))) k
  else if w = 6 then refVolts
  else 0

/-- The raw code of a voltage in microvolts / 1024 (13 R440): floor(V x 4,096 / 2.5), clamped. -/
def rawCode (v : Int) : BitVec 12 := BitVec.ofInt 12 (clampInt (v / 625000) 0 4095)

/-- The raw code of the witness slot paired with slot `r` of S(j), 0 without one; `devW` is the witness's own
input-referred error and `k` a draw. -/
def rawWitness (s : State) (j : Fin 16) (r : SarRun) (v : AnalogIn) (devW : Int) (k : Nat) : BitVec 12 :=
  match r.wit with
  | some w => rawCode (witnessVolts s v (j.val / 4) w.input k + 1024 * devW)
  | none => 0

/-- A witness slot whose SAR slot a test ended has ended too; its result waits for its handover. -/
def loneEnd (j : Fin 16) (v : AnalogIn) (devW : Int) (s : State) : State :=
  match s.cnv.sar[j].lone with
  | some r =>
    let d := drawFree s
    modSar j (fun c => { c with
      lone := none
      loneResult := some { run := r, raw := 0, rawWit := rawWitness s j r v devW d.1, stored := false } }) d.2
  | none => s

/-- A slot of S(j) ends: its raw codes wait for their handover, and the next entry or the next pending start begins. The
witness's result of a slot in low-power mode has been due for long (13 R452). -/
def endSlot (j : Fin 16) (r : SarRun) (v : AnalogIn) (devW : Int) (s : State) : State :=
  let d := drawFree s
  let raw := rawCode (sarVolts s v j r.input.val d.1 + 1024 * v.dev)
  let rawW := rawWitness s j r v devW d.1
  let low := decide (50 < slotTicks s j)
  let s := modSar j (fun c => { c with
    run := none, result := some { run := r, raw := raw, rawWit := rawW, stored := low } }) d.2
  let s := match low, r.wit with
    | true, some w => storeWitness j w r.start rawW s
    | _, _ => s
  let next := r.start + slotTicks s j
  if r.rest.isEmpty then startPending j next s.cnv.sar[j].pend s
  else startSlot j r.seq (r.entry + 1) r.rest r.irq next none s

/-- SAR_SLOT_END (13 R446). A result that still waits is handed over first; a test it starts ends the slot (13 R467), and a
converter that is not clocked converts nothing (R471). -/
def slotEnd (j : Fin 16) (v : AnalogIn) (devW : Int) (s : State) : State :=
  if !convOn s j then s
  else
    let s := loneEnd j v devW s
    if s.cnv.sar[j].run.isNone then s
    else
      let s := resultHandover j s
      match s.cnv.sar[j].run with
      | none => s
      | some r => endSlot j r v devW s

/-- See `slotEnd`. -/
def execSarSlotEnd (conv : Fin 16) (volts : AnalogIn) (devWitness : Int) (s : State) : Host.Outcome State Fault Refusal :=
  .next (slotEnd conv volts devWitness s)

/-- Every converter stops: its clock goes (01 Table 1.10, 13 R471). -/
def stopConverters (s : State) : State := { s with cnv := { s.cnv with sar := Vector.replicate 16 resetSar } }

/-! ### Triggers -/

/-- AX_TRG`m` of axis `n` fires at tick `at_` (08 R285, R286, 13 R445): once in a period, for a value below AX_PER, to a
bound sequence. -/
def fireTrigger (n : Fin 8) (m : Fin 4) (at_ : Nat) (s : State) : State :=
  let a := s.axes[n]
  let trg := runWord s 5 (0x700 + 16 * n.val + m.val)
  if carrierOn s n && bit trg 7 && !a.car.fired.getLsbD m.val &&
      decide (a.eff.trg[m].toNat < s.axes[leaderOf s n].car.per) then
    triggerSequence (bits trg 0 6) { time := at_, place := 4 * n.val + m.val }
      (modCar n (fun c => { c with fired := setBit c.fired m.val }) s)
  else s

/-- TRIGGER_COMPARE (08 R285-R288): the counter reaches the value after dither scaling. -/
def triggerCompare (n : Fin 8) (m : Fin 4) (s : State) : State :=
  let a := s.axes[n]
  let per := s.axes[leaderOf s n].car.per
  fireTrigger n m (s.now - a.car.ticks + a.eff.trg[m].toNat * a.car.period / max 1 per * prescOf s n) s

/-- See `triggerCompare`. -/
def execTriggerCompare (ax : Fin 8) (m : Fin 4) (s : State) : Host.Outcome State Fault Refusal :=
  .next (triggerCompare ax m s)

/-- The angle of mains tracker `m` has reached the place of its next sample, one of 128 in its turn (06 R212). -/
def sampleDue (s : State) (m : Fin 2) : Bool :=
  decide (0 ≤ angDiff s.src[(⟨24 + m.val, by omega⟩ : Fin 32)].angle
    (BitVec.ofNat 32 (33554432 * s.mains[m].nextSample)))

/-- MAINS_TRACKER_SAMPLE (06 R212): an enabled tracker starts its one-entry conversion, bound to its angle. -/
def mainsSample (m : Fin 2) (s : State) : State :=
  let w := tailWord s m.val 0xE0
  if bit w 0 && !domainDead s (196 + m.val) && sampleDue s m then
    let s := { s with mains := s.mains.set m { s.mains[m] with nextSample := (s.mains[m].nextSample + 1) % 128 } }
    convStart (Fin.ofNat 16 (bits w 1 4)) (64 + m.val) { time := s.now, place := 40 + m.val } s
  else s

/-- See `mainsSample`. -/
def execMainsTrackerSample (m : Fin 2) (s : State) : Host.Outcome State Fault Refusal := .next (mainsSample m s)

/-! ### Demodulators (13 13.4) -/

/-- The axis of demodulator `d`. -/
def flowAxis (d : Fin 24) : Fin 8 := ⟨d.val / 3, by omega⟩

/-- The leg of demodulator `d`. -/
def flowLeg (d : Fin 24) : Fin 3 := ⟨d.val % 3, by omega⟩

/-- Demodulator `d` is clocked (01 Table 1.10). -/
def flowOn (s : State) (d : Fin 24) : Bool := awake s && bridgeOn s (flowAxis d)

/-- The running sums of a list, from `a`. -/
def runningSums : Int → List Int → List Int
  | a, [] => [a]
  | a, x :: r => a :: runningSums (a + x) r

/-- The sums of every `d` consecutive values. -/
def boxSums (d : Nat) (l : List Int) : List Int :=
  let p := runningSums 0 l
  List.zipWith (fun a b => b - a) p (p.drop d)

/-- The sum of a sinc filter of an order and a decimation at the newest of the modulator's bits, which stand oldest
first (13 R454, R455). -/
def sincSum (order d : Nat) (stream : List Bool) : Int :=
  ((List.range order).foldl (fun l _ => boxSums d l) (stream.map fun b => if b then (1 : Int) else -1)).getLastD 0

/-- The decimation of the main path of demodulator `d` (13 R454). -/
def mainDecimation (s : State) (d : Fin 24) : Nat := 16 * 2 ^ bits (runWord s 5 (0x706 + 16 * (flowAxis d).val)) 0 3

/-- The result of a path of demodulator `d`, at word `base` of space 0x06, from its filter output `num / den` in current
units: corrected, or replaced during a test by the negated sum of the other two legs (13 R458, R460, R461). -/
def flowResult (s : State) (base : Nat) (d : Fin 24) (num : Int) (den : Nat) : Int × Bool :=
  if isTesting s ⟨4, d.val⟩ then
    let sum := (List.range 3).foldl (fun t x =>
      if x = d.val % 3 then t else t + (s.cnv.res.get (base + 3 * (d.val / 3) + x)).toInt) 0
    clampFlow (-sum)
  else correctFlow (pairAt s (0x140 + 2 * d.val)) num den

/-- MAIN_PATH_RESULT (13 R454, R460): the sinc3 filter over the modulator's stream, whose full scale is 32,768 current
units (R453). -/
def mainPath (d : Fin 24) (stream : List Bool) (s : State) : State :=
  if flowOn s d then
    let k := mainDecimation s d
    let v := flowResult s 0x120 d (32768 * sincSum 3 k stream) (k ^ 3)
    let s := putRes (0x120 + d.val) (BitVec.ofInt 16 v.1) s
    if v.2 then setCnvStat 3 s else s
  else s

/-- See `mainPath`. -/
def execMainPathResult (d : Fin 24) (stream : List Bool) (s : State) : Host.Outcome State Fault Refusal :=
  .next (mainPath d stream s)

/-- The OC comparison of a leg (09 Table 9.4). -/
def overCurrent (d : Fin 24) (y : Int) (s : State) : State :=
  let n := flowAxis d
  let past := decide ((tripWord s n 1).toNat < y.natAbs)
  let old := s.axes[n].trip.oc.getLsbD (d.val % 3)
  let s' := if past && !old && bit (tripWord s n 0) 0 then
      raiseOn n (faultCode 0x20 d.val) ⟨6, d.val⟩ 0 s
    else s
  settleTrips s (modTrip n (fun t => { t with oc := putBit t.oc (d.val % 3) past }) s')

/-- FAST_PATH_RESULT (13 R455): the sinc2 filter with decimation 8; the OC source, the current limit of 10 R365 and the
probe take its result. -/
def fastPath (d : Fin 24) (stream : List Bool) (s : State) : State :=
  if flowOn s d then
    let n := flowAxis d
    let v := flowResult s 0x138 d (32768 * sincSum 2 8 stream) 64
    let s := putRes (0x138 + d.val) (BitVec.ofInt 16 v.1) s
    let s := if v.2 then setCnvStat 3 s else s
    let l := leaderOf s n
    let s := if decide (ilimOf s l < (v.1.natAbs : Int)) then modDrive l (fun x => { x with overLimit := true }) s else s
    overCurrent d v.1 (probeSample l d.val v.1 s)
  else s

/-- See `fastPath`. -/
def execFastPathResult (d : Fin 24) (stream : List Bool) (s : State) : Host.Outcome State Fault Refusal :=
  .next (fastPath d stream s)

/-- STREAM_STUCK (13 R457). -/
def streamStuck (d : Fin 24) (s : State) : State :=
  if flowOn s d then
    let s := setCnvStat 4 { s with cnv := { s.cnv with stuck := setBit s.cnv.stuck d.val } }
    raiseOn (flowAxis d) (faultCode 0x32 d.val) ⟨4, d.val⟩ 0 s
  else s

/-- See `streamStuck`. -/
def execStreamStuck (d : Fin 24) (s : State) : Host.Outcome State Fault Refusal := .next (streamStuck d s)

/-! ### Coefficients (13 R463) -/

/-- An OFS write is held, a GAIN write applies with a held OFS; the words past the pairs are stored (00 R9). -/
def writeCoef (k : Nat) (w : Word) (s : State) : State :=
  if 0x180 ≤ k then { s with cnv := { s.cnv with coef := s.cnv.coef.put k w } }
  else if k % 2 = 0 then
    { s with cnv := { s.cnv with
      heldOfs := s.cnv.heldOfs.put k w
      heldMask := k :: s.cnv.heldMask.filter (· ≠ k) } }
  else
    let ofs := if s.cnv.heldMask.contains (k - 1) then s.cnv.heldOfs.get (k - 1) else s.cnv.coef.get (k - 1)
    { s with cnv := { s.cnv with
      coef := (s.cnv.coef.put (k - 1) ofs).put k w
      heldOfs := s.cnv.heldOfs.put (k - 1) 0
      heldMask := s.cnv.heldMask.filter (· ≠ k - 1) } }

/-- A word of space 0x07 reads as last written. -/
def readCoef (s : State) (k : Nat) : Word :=
  if s.cnv.heldMask.contains k then s.cnv.heldOfs.get k else s.cnv.coef.get k

/-- Word `a` of space 0x06 (13 Table 13.12); HELD while the converter is under test is part of the stored word. -/
def resultWord (s : State) (a : Nat) : Word :=
  if h : 0x181 ≤ a ∧ a < 0x199 then
    let d : Fin 24 := ⟨a - 0x181, by omega⟩
    let t := isTesting s ⟨4, d.val⟩
    flagBit (s.cnv.stuck.getLsbD d.val) 0 ||| flagBit t 1 ||| flagBit t 2
  else s.cnv.res.get a

/-- The counters of space 0x06 that a read clears. -/
def resultCounter (a : Nat) : Bool :=
  (0x150 ≤ a && a < 0x170) || (0x178 ≤ a && a < 0x17C)

end Sys2Proof.Machine
end

