-- ==== Sys2Proof/Machine/Feedback.lean ====
section
/-! DEFINITION. Quadrature feedback (chapter 12): edges, count, index, speed, spacing compare, line faults, and
the words of space 0x12. -/

namespace Sys2Proof.Machine

/-! ### Parameters (12 Table 12.7) -/

/-- Word 0xC0 of interface `n`; the words of a disabled bridge's block are not used (03 R115). -/
def fbWord (s : State) (n : Fin 8) : Word := if bridgeOn s n then axWord s n 0xC0 else 0

/-- Interface `n` counts: enabled, and its capture domain runs (12 R412, 01 Table 1.10). -/
def fbOn (s : State) (n : Fin 8) : Bool := bit (fbWord s n) 0 && awake s

/-- The self-test of interface `n` runs (12 R436). -/
def fbTesting (s : State) (n : Fin 8) : Bool := isTesting s ⟨5, n.val⟩

/-- CWIN in 10 us. -/
def cwinOf (s : State) (n : Fin 8) : Nat := orDefault (bits (axWord s n 0xC1) 0 10) 100

/-- CHG_HI in edges/s. -/
def chgHi (s : State) (n : Fin 8) : Nat := orDefault (axWord32 s n 0xC2) 1000000

/-- CHG_LO in edges/s. -/
def chgLo (s : State) (n : Fin 8) : Nat := orDefault (axWord32 s n 0xC4) 750000

/-! ### Edges (12 12.1, 12.2, 12.4) -/

/-- The place of an AB state in the order of Table 12.1. -/
def grayIndex (a b : Bool) : Nat :=
  match a, b with
  | false, false => 0
  | true, false => 1
  | true, true => 2
  | false, true => 3

/-- The step between two AB states with DIRINV (12 Table 12.1, R415); `none` for a phase error. -/
def abStep (a b a' b' inv : Bool) : Option Int :=
  match (grayIndex a' b' + 4 - grayIndex a b) % 4 with
  | 0 => some 0
  | 1 => some (if inv then -1 else 1)
  | 3 => some (if inv then 1 else -1)
  | _ => none

/-- A spacing hit in the step onto the present count (12 R429-R432). -/
def Fb.hit (f : Fb) : Fb :=
  { f with
    cmp := f.cmp + f.spacing
    hits := f.hits + 1
    arm := f.arm && !f.oneshot
    hitSig := true
    merged := if f.hitSig then satInc f.merged else f.merged
    stat := setBit (if f.hitSig then setBit f.stat 5 else f.stat) 4 }

/-- The step onto CMP is a hit (12 R429, R430). -/
def Fb.hitsAt (f : Fb) (step : Int) : Bool :=
  f.arm && f.spacing != 0 && f.count == f.cmp && (decide (0 < step) == decide (0 < f.spacing.toInt))

/-- The stamp of an edge at tick `t` after those of a list (12 R423, R424). -/
def edgeStamp (t : Nat) (back : Bool) (l : List EdgeStamp) : EdgeStamp where
  time := t
  rev := back
  dir := match l with
    | [] => 0
    | e :: _ => if e.rev = back then e.dir + 1 else 0
  zto := false

/-- A counted step at tick `t` (12 R414, R417, R423, R424). Nine stamps hold the five that a reading takes and those of
the edges, one a tick at most, that have not taken effect yet. -/
def Fb.step (f : Fb) (step : Int) (t : Nat) : Fb :=
  let back := decide (step < 0)
  let turned := back != f.rev
  let f' := { f with
    count := f.count + BitVec.ofInt 32 step
    rev := back
    stamps := (edgeStamp t back f.stamps :: f.stamps).take 9
    winNet := f.winNet + step
    sinceIdx := f.sinceIdx.map (· + step)
    revSinceIdx := f.revSinceIdx || (turned && !f.stamps.isEmpty) }
  if f'.hitsAt step then f'.hit else f'

/-- A step counted in bypass during the self-test (12 R436). A turn of direction among these steps is a reversal since the
latest index (R422). -/
def Fb.bypassStep (f : Fb) (step : Int) : Fb :=
  let back := decide (step < 0)
  { f with
    bypass := f.bypass + step
    rev := back
    revSinceIdx := f.revSinceIdx || (back != f.rev && (!f.stamps.isEmpty || f.bypass != 0)) }

/-- The encoder window restarts at an error of interface `n` (06 Table 6.3). -/
def encError (n : Fin 8) (s : State) : State :=
  modAxis n (fun a => { a with enc := { a.enc with sinceError := some 0 } }) s

/-- A counted edge in the window. -/
def encEdge (n : Fin 8) (s : State) : State :=
  modAxis n (fun a => { a with enc := { a.enc with sinceError := a.enc.sinceError.map (· + 1) } }) s

/-- An error of interface `n`, detail 0 a phase error and 1 a line fault (12 R435, 16 Table 16.1). -/
def fbFault (n : Fin 8) (detail : Nat) (s : State) : State :=
  raiseOn n (faultCode 0x40 (n.val + 64 * detail)) ⟨5, n.val⟩ 0 (encError n s)

/-- A phase error (12 R414, R434). -/
def phaseError (n : Fin 8) (s : State) : State :=
  fbFault n 0 (modFb n (fun f => { f with phCnt := satInc f.phCnt, stat := setBit f.stat 0 }) s)

/-- QUAD_EDGE: a sample, `sub` ticks after the latest angle-engine step, holds a new AB state (12 R413-R417, R436); an
input signal that follows no pin reads 0 (14 R481). -/
def quadEdge (n : Fin 8) (ab : AbSample) (sub : Nat) (s : State) : State :=
  if !fbOn s n then s
  else
    let f := s.fb[n]
    let a := ab.a && signalRouted s n.val
    let b := ab.b && signalRouted s (8 + n.val)
    let s1 := modFb n (fun f => { f with a := a, b := b }) s
    match abStep f.a f.b a b (bit (fbWord s n) 1) with
    | none => phaseError n s1
    | some step =>
      if step = 0 then s1
      else if fbTesting s n then encEdge n (modFb n (fun f => f.bypassStep step) s1)
      else
        encEdge n (modFb n (fun f => f.step step (s.now + sub)) (accumulate n step s1))

/-- The qualification IDXQUAL selects holds (12 R420). -/
def idxQualified (s : State) (n : Fin 8) : Bool :=
  let f := s.fb[n]
  match bits (fbWord s n) 3 2 with
  | 0 => true
  | 1 => f.a
  | 2 => f.b
  | _ => f.a && f.b

/-- An index event (12 R420-R422). -/
def Fb.index (f : Fb) (cpr : Nat) : Fb :=
  let clears := f.idxMode = 1 ∨ f.idxMode = 2
  { f with
    idxCnt := f.count
    idxDev := match f.sinceIdx with
      | some k => if cpr ≠ 0 ∧ !f.revSinceIdx then BitVec.ofInt 16 (clampInt (k - (cpr : Int)) (-32767) 32767) else f.idxDev
      | none => f.idxDev
    sinceIdx := some 0
    revSinceIdx := false
    count := if clears then 0 else f.count
    idxMode := if f.idxMode = 2 then 0 else f.idxMode
    stat := setBit (if clears then setBit f.stat 3 else f.stat) 2 }

/-- Z of interface `n` is active at level `z` of its pin (12 R420). -/
def zActive (s : State) (n : Fin 8) (z : Bool) : Bool := (z && signalRouted s (16 + n.val)) != bit (fbWord s n) 2

/-- INDEX_EVENT: a sample holds level `z` of Z. An index event occurs where Z is active after being inactive in the
previous sample, while the qualification holds (12 R420). -/
def indexEvent (n : Fin 8) (z : Bool) (s : State) : State :=
  if !fbOn s n then s
  else
    let now := zActive s n z
    let s1 := modFb n (fun f => { f with z := now }) s
    if now && !s.fb[n].z && idxQualified s n && !fbTesting s n then
      modFb n (fun f => f.index (axWord32 s n 0x89)) s1
    else s1

/-- See `indexEvent`. -/
def execIndexEvent (sample : IndexSample) (s : State) : Host.Outcome State Fault Refusal :=
  .next (indexEvent sample.itf sample.z s)

/-- HIT_PULSE_END (12 R432). -/
def execHitPulseEnd (itf : Fin 8) (s : State) : Host.Outcome State Fault Refusal :=
  .next (modFb itf (fun f => { f with hitSig := false }) s)

/-! ### Speed (12 12.3) -/

/-- The stamps in effect at tick `t`: an edge takes effect 3 ticks after its sample (12 R417, R424). -/
def Fb.inEffect (f : Fb) (t : Nat) : List EdgeStamp := f.stamps.dropWhile fun e => t < e.time + 3

/-- The net count of the edges that have not taken effect by tick `t`. -/
def Fb.ahead (f : Fb) (t : Nat) : Int :=
  (f.stamps.takeWhile fun e => t < e.time + 3).foldl (fun k e => if e.rev then k - 1 else k + 1) 0

/-- FBSPEED by the period method at tick `t`, in 1/16 edge/s (12 R424). -/
def Fb.periodSpeed (f : Fb) (t : Nat) : Int :=
  match f.inEffect t with
  | [] => 0
  | e :: r =>
    let k := min 4 (min e.dir r.length)
    if k = 0 ∨ e.zto then 0
    else
      let tk := match r[k - 1]? with
        | some d => d.time
        | none => e.time
      let span := max 1 (e.time - tk)
      let since := t - e.time
      let mag : Nat := if span < since * k then 3200000000 / since else 3200000000 * k / span
      if e.rev then -(mag : Int) else mag

/-- FBSPEED at an angle-engine step (12 R423, R425, R426). -/
def stepFbSpeed (n : Fin 8) (s : State) : State :=
  if !fbOn s n then modFb n (fun f => { f with speed := 0 }) s
  else if fbTesting s n || s.fb[n].cntMeth then s
  else
    let v := s.fb[n].periodSpeed s.now
    modFb n (fun f => { f with speed := v, wantCnt := f.wantCnt || decide (16 * chgHi s n < v.natAbs) }) s

/-- COUNT_WINDOW_END (12 R425, R426). -/
def countWindowEnd (n : Fin 8) (s : State) : State :=
  if !fbOn s n then s
  else
    let f := s.fb[n]
    let s' :=
      if f.cntMeth && !fbTesting s n then
        let slow := decide (f.winNet.natAbs * 100000 < chgLo s n * cwinOf s n)
        modFb n (fun f => { f with
          speed := (f.winNet * 1600000).tdiv (cwinOf s n : Nat)
          cntMeth := !slow
          stat := if slow then setBit f.stat 6 else f.stat }) s
      else if f.wantCnt && !f.cntMeth then
        modFb n (fun f => { f with cntMeth := true, stat := setBit f.stat 6 }) s
      else s
    modFb n (fun f => { f with winNet := 0, wantCnt := false }) s'

/-- See `countWindowEnd`. -/
def execCountWindowEnd (itf : Fin 8) (s : State) : Host.Outcome State Fault Refusal := .next (countWindowEnd itf s)

/-- ZTO has passed since the latest edge. -/
def Fb.timeout (f : Fb) : Fb :=
  { f with
    stamps := match f.stamps with
      | [] => []
      | e :: r => { e with zto := true } :: r
    speed := if f.cntMeth then f.speed else 0 }

/-- SPEED_ZERO_TIMEOUT (12 R424): ZTO has passed without an edge. -/
def execSpeedZeroTimeout (itf : Fin 8) (s : State) : Host.Outcome State Fault Refusal :=
  .next (if fbOn s itf && !fbTesting s itf then modFb itf Fb.timeout s else s)

/-- The encoder rung's speed in mHz (12 R427). -/
def encSpeed (s : State) (n : Fin 8) : Int :=
  let cpr := axWord32 s n 0x89
  if cpr = 0 then 0 else (s.fb[n].speed * (1000 * bits (axWord s n 0x8B) 0 7 : Nat)).tdiv (16 * cpr : Nat)

/-- A commit enables interface `n`: its inputs are the reference, no stamp is held (12 R424, R425). -/
def enableFb (n : Fin 8) (s : State) : State :=
  let s := modAxis n (fun a => { a with enc := { a.enc with sinceError := none } }) s
  modFb n (fun f => { f with
    a := inputSignal s n.val, b := inputSignal s (8 + n.val), z := zActive s n (inputSignal s (16 + n.val))
    stamps := [], speed := 0
    cntMeth := false, wantCnt := false, winNet := 0, sinceIdx := none, revSinceIdx := false }) s

/-! ### Line faults and SLEEP (12 12.5) -/

/-- An input of interface `n` comes from receiver `rx`. -/
def usesReceiver (s : State) (n : Fin 8) (rx : Fin 16) : Bool :=
  [n.val, 8 + n.val, 16 + n.val].any fun i =>
    let w := runWord s 9 (0x200 + i)
    bit w 7 && bits w 0 6 / 2 == rx.val

/-- LINE_FAULT (12 R434). -/
def lineFault (rx : Fin 16) (s : State) : State :=
  if pinDiff s (2 * rx.val) then
    let s := { s with pin := { s.pin with rxFault := setBit s.pin.rxFault rx.val } }
    forEach (allAxes.filter fun n => fbOn s n && bit (fbWord s n) 5 && usesReceiver s n rx) (fun n t =>
      fbFault n 1 (modFb n (fun f => { f with lfCnt := satInc f.lfCnt, stat := setBit f.stat 1 }) t)) s
  else s

/-- LINE_FAULT_CLEAR (12 R434). -/
def execLineFaultClear (rx : Fin 16) (s : State) : Host.Outcome State Fault Refusal :=
  .next { s with pin := { s.pin with rxFault := clearBit s.pin.rxFault rx.val } }

/-- The module leaves SLEEP: GAP, and VALID 0 for the encoders (12 R437). -/
def gapAfterSleep (s : State) : State :=
  forEach allAxes (fun n t =>
    let t := if bit (fbWord t n) 0 then setFbStat 7 n t else t
    if bit (ladderWord t n) 0 then writeBoth n 0x8D 1 0 t else t) s

/-! ### Space 0x12 (12 Table 12.8) -/

/-- Word `w` of the block of interface `n`, a high word of a pair as it stands now. -/
def fbRead (s : State) (n : Fin 8) (w : Nat) : Word :=
  let f := s.fb[n]
  match w with
  | 0x00 => loWord f.cmp
  | 0x01 => hiWord f.cmp
  | 0x02 => loWord f.spacing
  | 0x03 => hiWord f.spacing
  | 0x04 => flagBit f.arm 0 ||| flagBit f.oneshot 1 ||| (f.hitw.setWidth 16 <<< 8)
  | 0x05 => f.merged
  | 0x06 => f.idxMode.setWidth 16
  | 0x08 => loWord f.idxCnt
  | 0x09 => hiWord f.idxCnt
  | 0x0A => loWord (BitVec.ofInt 32 f.speed)
  | 0x0B => hiWord (BitVec.ofInt 32 f.speed)
  | 0x0C => flagBit f.cntMeth 0 ||| flagBit f.rev 1
  | 0x0D => f.phCnt
  | 0x0E => f.lfCnt
  | 0x0F => f.idxDev
  | _ => 0

/-- The words of a block whose read captures the word above (12 R439). -/
def fbPairLow (w : Nat) : Bool := w == 0 || w == 2 || w == 8 || w == 10

/-- The high words of the pairs that can be read. -/
def fbPairHigh (w : Nat) : Bool := w == 1 || w == 3 || w == 9 || w == 11

/-- What a read of word `w` clears (RC words of 12 Table 12.8). -/
def fbClear (n : Fin 8) (w : Nat) (s : State) : State :=
  modFb n (fun f =>
    match w with
    | 0x05 => { f with merged := 0 }
    | 0x0D => { f with phCnt := 0 }
    | 0x0E => { f with lfCnt := 0 }
    | _ => f) s

/-- A write of word `w` of a block (12 R419, R431, R439). -/
def Fb.write (f : Fb) (w : Nat) (d : Word) : Fb :=
  match w with
  | 0x00 => { f with heldCmp := some d }
  | 0x01 => { f with cmp := joinWords (f.heldCmp.getD (loWord f.cmp)) d, heldCmp := none }
  | 0x02 => { f with heldSpc := some d }
  | 0x03 => { f with spacing := joinWords (f.heldSpc.getD (loWord f.spacing)) d, heldSpc := none }
  | 0x04 => { f with arm := bit d 0, oneshot := bit d 1, hitw := d.extractLsb' 8 8 }
  | 0x06 => { f with idxMode := d.extractLsb' 0 2 }
  | 0x10 => { f with heldPre := some d }
  | 0x11 => { f with count := joinWords (f.heldPre.getD 0) d, heldPre := none }
  | _ => f

/-- See `Fb.write`. -/
def fbWrite (n : Fin 8) (w : Nat) (d : Word) (s : State) : State := modFb n (fun f => f.write w d) s

/-- SPACING_REARM of interface `n` executes (12 R431). -/
def rearmSpacing (n : Fin 8) (s : State) : State := modFb n (fun f => { f with arm := true }) s

end Sys2Proof.Machine
end

