-- ==== Sys2Proof/Machine/Ladder.lean ====
section
/-! DEFINITION. The angle engine (chapter 06): the sources at a 100 ns step, the rotor ladder, its handovers, and
the commands of sources and ladder. -/

namespace Sys2Proof.Machine

/-! ### What a rung measures (06 R202, R203) -/

/-- The encoder rung: the count in effect, extrapolated no further than the next edge. -/
def encMeasure (s : State) (n : Fin 8) : DWord × Int :=
  let f := s.fb[n]
  let acc := stepAcc s n (-(f.ahead s.now))
  let v := encSpeed s n
  let last := match f.inEffect s.now with
    | [] => s.now
    | e :: _ => e.time
  let ext := travelTicks v (s.now - last)
  let up : Int := (encTerm s n (acc + 1) - encTerm s n acc).toNat
  let down : Int := (encTerm s n acc - encTerm s n (acc + (axWord32 s n 0x89 - 1))).toNat
  let ext := if 0 < v then min ext up else if v < 0 then max ext (-down) else 0
  (encAngle s n acc + BitVec.ofInt 32 ext, v)

/-- The way from the crossing of sector `sec` to the next one, up or down, in angle words (11 R408). -/
def crossingGap (sec : Nat) (up : Bool) : Int :=
  let a := crossingAngle (sec % 6)
  let b := crossingAngle ((if up then sec + 1 else sec + 5) % 6)
  ((if up then b - a else a - b).toNat : Int) * 65536

/-- The back-EMF rung: the estimator's angle, extrapolated no further than the next crossing. -/
def bemfMeasure (s : State) (n : Fin 8) : DWord × Int :=
  let b := s.axes[n].bemf
  let gone := angDiff b.angle b.fix
  let t := gone + travelTicks b.speed (s.now - b.angleTime)
  let t := if 0 < b.speed then min t (max gone (crossingGap b.fixSector true))
    else if b.speed < 0 then max t (min gone (-crossingGap b.fixSector false)) else gone
  (b.fix + BitVec.ofInt 32 t, b.speed)

/-- The angle and speed of a rung now. -/
def measure (s : State) (n : Fin 8) : Rung → DWord × Int
  | .none => (s.src[rotorSrc n].angle, 0)
  | .hold => (angWord s.axes[n].probe.angle, 0)
  | .inj => (injAngle s n, s.axes[n].inj.speed)
  | .bemf => bemfMeasure s n
  | .enc => encMeasure s n
  | .seam =>
    match seamSub s n with
    | some k => let r := s.src[(⟨26 + k.val, by omega⟩ : Fin 32)]; (r.angle, r.speed)
    | none => (s.src[rotorSrc n].angle, 0)

/-- The rungs in the bit order of word 0x98. -/
def rungAt (i : Fin 5) : Rung :=
  match i.val with
  | 0 => .hold
  | 1 => .inj
  | 2 => .bemf
  | 3 => .enc
  | _ => .seam

/-- The rungs that qualify now, as QUAL shows them (06 Table 6.6). -/
def qualBits (s : State) (n : Fin 8) : BitVec 5 :=
  (List.finRange 5).foldl (fun v i => putBit v i.val (qualifies s n (rungAt i))) 0

/-- A rung is the active rung or the target of a blend. -/
def Ladder.uses (l : Ladder) (r : Rung) : Bool :=
  l.active == r || (match l.blend with
    | some b => b.toRung == r
    | none => false)

/-- The rungs at a step: qualification, returning marks (R223), requalification travel (R225), and the angle and speed of
every valid rung. Travel counts its amount in either direction (log entry 106). -/
def stepRungs (n : Fin 8) (s : State) : State :=
  let l := s.axes[n].ladder
  let q := qualBits s n
  let runs := ladderRuns s n
  modLadder n (fun l' => { l' with
    qual := q
    ret := (List.finRange 5).foldl (fun v i =>
      if runs && l.uses (rungAt i) && l.qual.getLsbD i.val && !q.getLsbD i.val then setBit v i.val else v) l.ret
    reqTravel := Vector.ofFn fun i =>
      if q.getLsbD i.val && l.ret.getLsbD i.val && l.blend.isNone then
        l.reqTravel[i] + (if l.qual.getLsbD i.val then
          (angDiff (measure s n (rungAt i)).1 l.rungAng[i]).natAbs else 0)
      else 0
    rungAng := Vector.ofFn fun i =>
      if rungValid s n (rungAt i) then (measure s n (rungAt i)).1 else l.rungAng[i]
    rungSpd := Vector.ofFn fun i =>
      if rungValid s n (rungAt i) then (measure s n (rungAt i)).2 else l.rungSpd[i] }) s

/-! ### Handover (06 6.7) -/

/-- A rung becomes active; any rung but the hold ends the hold's band (06 Table 6.3). -/
def activate (n : Fin 8) (r : Rung) (s : State) : State :=
  let s := modLadder n (fun l => { l with
    active := r, blend := none, blendP := 0, reqTravel := Vector.replicate 5 0 }) s
  if r = .none ∨ r = .hold then s else modProbe n (fun p => { p with alone := false }) s

/-- The extrapolation of a rung from its last angle and speed (R229). -/
def lastOf (s : State) (n : Fin 8) (r : Rung) : Extrap where
  angle := s.axes[n].ladder.rungAng[r.pos]
  speed := s.axes[n].ladder.rungSpd[r.pos]
  steps := 0

/-- HSPAN in ang16 (06 Table 6.6). -/
def hspanOf (s : State) (n : Fin 8) : Nat := orDefault (axWord s n 0x85).toNat 10923

/-- HTMAX in ms. -/
def htmaxOf (s : State) (n : Fin 8) : Nat := orDefault (bits (axWord s n 0x87) 0 11) 100

/-- A blend starts (R226, R228). -/
def startBlend (n : Fin 8) (up : Bool) (old new : Rung) (ex : Option Extrap) (s : State) : State :=
  let b : Blend := {
    upgrade := up, fromRung := old, toRung := new, hspan := hspanOf s n, htmax := htmaxOf s n
    travel := 0, elapsed := 0, lastTo := (measure s n new).1, outEx := ex, inEx := none }
  modLadder n (fun l => { l with blend := some b, blendP := 0, reqTravel := Vector.replicate 5 0 }) s

/-- No rung qualifies any more (R231). -/
def loseRotor (n : Fin 8) (s : State) : State :=
  let drives := (axSt s n).driving
  let s := activate n .none s
  if drives then
    tripInternal n (raiseOn n (faultCode 0x51 n.val) ⟨8, n.val⟩ (hertz (ladderSpeed s n)) s)
  else s

/-- A downgrade from a rung, or from its extrapolation (R224, R230). -/
def downgrade (n : Fin 8) (old : Rung) (ex : Option Extrap) (s : State) : State :=
  match bestRung s n with
  | .none => loseRotor n s
  | new => startBlend n false old new ex s

/-- The ladder of axis `n` selects: while it runs, R224, R231 and 11 R385; else it follows the best valid rung
(R222). -/
def selectRung (n : Fin 8) (s : State) : State :=
  let l := s.axes[n].ladder
  if isMember s n then s
  else if !ladderRuns s n then
    if l.active = bestValid s n ∧ l.blend.isNone then s else activate n (bestValid s n) s
  else if l.blend.isSome then s
  else if l.active = .none then
    (match bestRung s n with
     | .none => s
     | r => activate n r s)
  else if qualifies s n l.active then s
  else downgrade n l.active (if rungValid s n l.active then none else some (lastOf s n l.active)) s

/-- The extrapolation of a blend party after one more step; a rung that stopped being valid starts its own
(R229). -/
def partyEx (s : State) (n : Fin 8) (r : Rung) (ex : Option Extrap) : Option Extrap :=
  match ex with
  | some e => some { e with steps := e.steps + 1 }
  | none => if rungOn s n r && rungValid s n r then none else some { lastOf s n r with steps := 1 }

/-- Angle and speed of a blend party. -/
def partyOf (s : State) (n : Fin 8) (r : Rung) (ex : Option Extrap) : DWord × Int :=
  match ex with
  | some e => (e.angle + BitVec.ofInt 32 (travelTicks e.speed (20 * e.steps)), e.speed)
  | none => measure s n r

/-- Blend progress (R227). -/
def Blend.progress (b : Blend) : Nat := max (b.travel / b.hspan) (b.elapsed * 65536 / (10000 * b.htmax))

/-- One step of a blend (R226-R229). -/
def stepBlend (n : Fin 8) (b : Blend) (s : State) : State :=
  let inEx := partyEx s n b.toRung b.inEx
  let dest := (partyOf s n b.toRung inEx).1
  let b' := { b with
    outEx := partyEx s n b.fromRung b.outEx, inEx := inEx
    travel := b.travel + (angDiff dest b.lastTo).natAbs, elapsed := b.elapsed + 1, lastTo := dest }
  modLadder n (fun l => { l with blend := some b', blendP := BitVec.ofNat 16 (min 65535 b'.progress) }) s

/-- Angle and speed of the blend now (R226), its products truncated towards 0 (log entry 104). -/
def blendOutput (s : State) (n : Fin 8) (b : Blend) : DWord × Int :=
  let x := partyOf s n b.fromRung b.outEx
  let y := partyOf s n b.toRung b.inEx
  let p := b.progress
  if 65536 ≤ p then y
  else (x.1 + BitVec.ofInt 32 ((angDiff y.1 x.1 * (p : Nat)).tdiv 65536),
    x.2 + ((y.2 - x.2) * (p : Nat)).tdiv 65536)

/-- The rotor angle from a new angle and speed: held against a move backwards while the sign of speed is unchanged
(R204); at a speed of 0 an encoder's angle stands, but where `jump` tells that a new angle is taken at once (R206). -/
def follow (old : Source) (jump enc : Bool) (new : DWord × Int) : DWord :=
  let sg := signOf new.2
  if sg = 0 then (if enc && !jump then old.angle else new.1)
  else if sg = signOf old.speed ∧ angDiff new.1 old.angle * sg < 0 then old.angle
  else new.1

/-- A source takes an angle and a speed. -/
def Source.take (r : Source) (angle : DWord) (speed : Int) : Source :=
  { r with prev := if r.cut.isSome then 0xFFFFFFFF else r.angle, angle := angle, speed := speed, cut := none }

/-- Rotor and advanced angle of every axis of the group of `n` (R200, R680), and the travel of a hem (10 R353). -/
def putRotor (n : Fin 8) (angle : DWord) (speed : Int) (s : State) : State :=
  let adv := advanceAt s n speed
  let a := angle + BitVec.ofInt 32 (adv * 65536)
  let moved := (angDiff a s.src[advSrc n].angle).natAbs
  let s := modDrive n (fun d => { d with
    advance := adv, hem := d.hem.map fun h => { h with travel := h.travel + moved } }) s
  forEach (groupOf s n) (fun m t =>
    modSrc (advSrc m) (fun r => r.take a speed) (modSrc (rotorSrc m) (fun r => r.take angle speed) t)) s

/-- The ladder of a leader or lone axis at a step. -/
def stepLadder (n : Fin 8) (s : State) : State :=
  let was := s.axes[n].ladder.active
  let s := selectRung n (stepRungs n s)
  let l := s.axes[n].ladder
  let old := s.src[rotorSrc n]
  match l.blend with
  | some b =>
    let s := stepBlend n b s
    let out := match s.axes[n].ladder.blend with
      | some b => blendOutput s n b
      | none => (old.angle, old.speed)
    judgeGate n (seedInjection n (putRotor n (follow old false false out) out.2 s))
  | none =>
    let out := measure s n l.active
    judgeGate n (seedInjection n (putRotor n (follow old (was != l.active) (l.active == .enc) out) out.2 s))

/-- The angle of the active rung is taken at once, in the step in progress (R206). -/
def retakeAngle (n : Fin 8) (s : State) : State :=
  let l := s.axes[n].ladder
  if isMember s n || l.active == .none || l.blend.isSome then s
  else
    let new := measure s n l.active
    let a := follow s.src[rotorSrc n] true (l.active == .enc) new
    let adv := advanceAt s n new.2
    let s := modDrive n (fun d => { d with advance := adv }) s
    forEach (groupOf s n) (fun m t =>
      modSrc (rotorSrc m) (fun r => { r with angle := a, speed := new.2 })
        (modSrc (advSrc m) (fun r => { r with angle := a + BitVec.ofInt 32 (adv * 65536), speed := new.2 }) t)) s

/-! ### The end of a probe (11 11.3) -/

/-- A probe succeeds with an angle (11 Table 11.3, R397): the encoder is aligned, the ladder selects and takes its angle
at once (06 R206, 11 R385), and only then does the axis enter START, in the sector of that angle. -/
def probeSucceeds (n : Fin 8) (angle : Word) (s : State) : State :=
  let go := s.axes[n].probe.thenStart
  let s := modProbe n (fun p => { p with
    running := false, inPulse := false, outcome := 1, angle := angle, holdValid := true, holdAt := s.now
    alone := true }) s
  let s := alignEncoder n s
  let s := retakeAngle n (selectRung n (stepRungs n s))
  if go then enterStart n s else setState n .ready s

/-- PROBE_ATTEMPT_END (11 R390-R394). The 13 bits of QUALITY saturate (log entry 108). -/
def probeAttemptEnd (n : Fin 8) (s : State) : State :=
  let p := s.axes[n].probe
  if axSt s n != .probe || !p.running || !p.attemptOver || isMember s n then s
  else if p.moved then probeFails n 4 s
  else
    let d := drawFree s
    let r := probeResult p.peaks (Config.unstated 1 d.1).toNat
    let s := modProbe n (fun p => { p with quality := BitVec.ofNat 13 (min r.1 8191) }) d.2
    if probeQmin s n ≤ r.1 then probeSucceeds n r.2 s
    else if 4 ≤ p.attempt then probeFails n 2 s
    else modProbe n (fun p => p.attemptStart (p.attempt + 1) (min 200 (2 * p.width))) s

/-- See `probeAttemptEnd`. -/
def execProbeAttemptEnd (ax : Fin 8) (s : State) : Host.Outcome State Fault Refusal := .next (probeAttemptEnd ax s)

/-! ### The other sources -/

/-- Carrier angle of axis `n` (R201). -/
def stepCarrierSource (n : Fin 8) (s : State) : State :=
  let c := s.axes[n].car
  if carrierOn s n && c.period != 0 then
    modSrc (carSrc n) (fun r => r.take (BitVec.ofNat 32 (carCount s n * 4294967296 / c.period))
      (200000000000 / (c.period * prescOf s n) : Nat)) s
  else modSrc (carSrc n) (fun r => r.take 0 0) s

/-- A station source holds its angle. -/
def holdSource (k : Fin 32) (s : State) : State := modSrc k (fun r => r.take r.angle r.speed) s

/-- Mains tracker `m` turns (R212, R214). One that has never locked has no last locked frequency: the model turns it at the
lower limit, 45 Hz (log entry 105). -/
def stepMains (m : Fin 2) (s : State) : State :=
  let k : Fin 32 := ⟨24 + m.val, by omega⟩
  let t := s.mains[m]
  if !bit (tailWord s m.val 0xE0) 0 then modSrc k (fun r => r.take 0 0) s
  else if domainDead s (196 + m.val) then
    holdSource k { s with mains := s.mains.set m { t with lock := false } }
  else
    let v : Nat := if t.range then max 45000 (min 65000 t.lastLocked) else s.src[k].speed.toNat
    let x := t.frac + v * 4294967296
    let s := { s with mains := s.mains.set m { t with frac := x % 10000000000 } }
    modSrc k (fun r => r.take (r.angle + BitVec.ofNat 32 (x / 10000000000)) v) s

/-- Subscription `j` at a step (15 R532), `time` being the Seam time. -/
def stepSubscription (j : Fin 4) (s : State) : State :=
  let k : Fin 32 := ⟨26 + j.val, by omega⟩
  let w := s.seam.subs[j]
  if !subOn s j then modSrc k (fun r => r.take 0 0) s
  else
    let dt : Int := (s.seam.time - w.stamp).toInt
    let a := w.angle + BitVec.ofInt 32 ((w.speed * dt * 4294967296).tdiv 1000000000000)
      + angWord (tailWord s (2 + j.val) 0xE1)
    modSrc k (fun r => r.take (follow r false false (a, w.speed)) w.speed) s

/-- The increment of a pace source in 2^-16 angle word (R218). -/
def paceStep (rate : Nat) : Nat := (rate * 281474976710656 + 5000000000) / 10000000000

/-- Pace source `j` at a step (R216-R218). -/
def stepPace (j : Fin 2) (s : State) : State :=
  let k : Fin 32 := ⟨30 + j.val, by omega⟩
  let w := tailWord s (6 + j.val) 0xE0
  if !bit w 0 then modSrc k (fun r => r.take 0 0) { s with paceFrac := s.paceFrac.set j 0 }
  else
    let rate := (joinWords (tailWord s (6 + j.val) 0xE8) (tailWord s (6 + j.val) 0xE9)).toNat
    let x : BitVec 48 := s.src[k].angle ++ s.paceFrac[j]
    let d := BitVec.ofNat 48 (paceStep rate)
    let y := if bit w 1 then x - d else x + d
    let v : Int := if bit w 1 then -(rate : Int) else rate
    modSrc k (fun r => r.take (y.extractLsb' 16 32) v) { s with paceFrac := s.paceFrac.set j (y.extractLsb' 0 16) }

/-- The station sources at a step. -/
def stepStation (s : State) : State :=
  if engineOut s then forEach (List.finRange 8) (fun i => holdSource ⟨24 + i.val, by omega⟩) s
  else
    let s := forEach [0, 1] stepMains s
    let s := forEach (List.finRange 4) stepSubscription s
    forEach [0, 1] stepPace s

/-! ### Declared maximum speed (06 6.3) -/

/-- The VMAX in force of source `k` where R209 watches it, in mHz. -/
def watchedVmax (s : State) (k : Fin 32) : Option Nat :=
  if h : k.val < 16 then
    let n : Fin 8 := ⟨k.val % 8, by omega⟩
    if isMember s n || !bridgeOn s n then none
    else
      let r := axWord32 s n 0x90
      let v := if k.val < 8 then r else orDefault (axWord32 s n 0x92) r
      if v = 0 then none else some v
  else if h : 26 ≤ k.val ∧ k.val < 30 then
    if subOn s ⟨k.val - 26, by omega⟩ then
      some (joinWords (tailWord s (k.val - 24) 0xE2) (tailWord s (k.val - 24) 0xE3)).toNat
    else none
  else none

/-- The count of consecutive steps above VMAX (R209). -/
def stepOver (k : Fin 32) (s : State) : State :=
  match watchedVmax s k with
  | some v =>
    if v < s.src[k].speed.natAbs then modSrc k (fun r => { r with overCount := min 1000 (r.overCount + 1) }) s
    else modSrc k (fun r => { r with overCount := 0, isOver := false }) s
  | none => modSrc k (fun r => { r with overCount := 0, isOver := false }) s

/-- The angle engine at a 100 ns step (R199): feedback speeds, station sources, carriers, ladders, and the watch
of R209. -/
def stepAngles (s : State) : State :=
  let s := { s with now := s.now + 20 }
  let s := forEach allAxes (fun n t =>
    if carrierOn t n then modCar n (fun c => { c with ticks := c.ticks + 20 }) t else t) s
  let s := forEach allAxes stepFbSpeed s
  let s := stepStation s
  let s := forEach allAxes stepCarrierSource s
  let s := forEach allAxes (fun n t => if isMember t n then t else stepLadder n t) s
  forEach (List.finRange 32) stepOver s

/-! ### Commands -/

/-- SOURCE_OVER_SPEED (R209, R210). -/
def sourceOverSpeed (k : Fin 32) (s : State) : State :=
  let r := s.src[k]
  if r.overCount < 1000 ∨ r.isOver = true then s
  else
    let eng := if k.val < 16 then k.val % 8 else 8
    let n : Fin 8 := ⟨k.val % 8, by omega⟩
    let st := if k.val < 16 then axStateReg s n else 0xFFFF
    let s := raiseFault (faultCode 0x50 k.val) [⟨8, eng⟩] st (hertz r.speed) (modSrc k (fun r => { r with isOver := true }) s)
    if k.val < 16 then forcedStop n s
    else forEach (allAxes.filter fun n => !isMember s n && s.axes[n].ladder.active == .seam
        && (match seamSub s n with
            | some j => 26 + j.val == k.val
            | none => false)) forcedStop s

/-- See `sourceOverSpeed`. -/
def execSourceOverSpeed (src : Fin 32) (s : State) : Host.Outcome State Fault Refusal := .next (sourceOverSpeed src s)

/-- MAINS_LOCK (R213): the phase error has stayed within 5 degrees for 10 turns, 128 samples each (R212). -/
def mainsLock (m : Fin 2) (s : State) : State :=
  let t := s.mains[m]
  if bit (tailWord s m.val 0xE0) 0 && mainsRuns s m && t.steady == 1280 && decide (45000 ≤ t.freq) && decide (t.freq ≤ 65000) then
    { s with mains := s.mains.set m { t with lock := true, range := false, lastLocked := t.freq } }
  else s

/-- See `mainsLock`. -/
def execMainsLock (m : Fin 2) (s : State) : Host.Outcome State Fault Refusal := .next (mainsLock m s)

/-- MAINS_OUT_OF_RANGE (R214): the measured frequency, in 0.01 Hz, has left 45-65 Hz. -/
def mainsOutOfRange (m : Fin 2) (freq : Word) (s : State) : State :=
  let f := freq.toNat
  let w := tailWord s m.val 0xE0
  if bit w 0 && mainsRuns s m && !s.mains[m].range && (decide (f < 4500) || decide (6500 < f)) then
    let s := { s with mains := s.mains.set m { s.mains[m] with lock := false, range := true, freq := 10 * f } }
    raiseFault (faultCode 0x53 m.val) [⟨2, bits w 1 4⟩] 0xFFFF (hertz (10 * f : Nat)) s
  else s

/-- See `mainsOutOfRange`. -/
def execMainsOutOfRange (m : Fin 2) (freq : Word) (s : State) : Host.Outcome State Fault Refusal :=
  .next (mainsOutOfRange m freq s)

/-- A rung above the active one that may take over now (R225). -/
def upgradeRung (s : State) (n : Fin 8) : Option Rung :=
  let l := s.axes[n].ladder
  rungRanks.find? fun r => r.rank < l.active.rank && qualifies s n r &&
    (!l.ret.getLsbD r.pos.val ||
      decide (orDefault (bits (axWord s n 0x86) 0 7) 4 * 4294967296 ≤ l.reqTravel[r.pos]))

/-- LADDER_UPGRADE (R225). -/
def ladderUpgrade (n : Fin 8) (s : State) : State :=
  let l := s.axes[n].ladder
  if isMember s n || !awake s || !ladderRuns s n || l.blend.isSome || l.active == .none then s
  else match upgradeRung s n with
    | some r => startBlend n true l.active r none s
    | none => s

/-- See `ladderUpgrade`. -/
def execLadderUpgrade (ax : Fin 8) (s : State) : Host.Outcome State Fault Refusal := .next (ladderUpgrade ax s)

/-- BLEND_COMPLETE (R227, R230). -/
def blendComplete (n : Fin 8) (s : State) : State :=
  match s.axes[n].ladder.blend with
  | none => s
  | some b =>
    if b.progress < 65536 then s
    else
      let s := activate n b.toRung s
      match b.inEx with
      | none => s
      | some e => downgrade n b.toRung (some e) s

/-- See `blendComplete`. -/
def execBlendComplete (ax : Fin 8) (s : State) : Host.Outcome State Fault Refusal := .next (blendComplete ax s)

/-- An event that may cost axis `n` a rung or bring it one: the ladder selects again at once (R224, R231), and the angle
of a rung made active so is taken at once (R206). -/
def reselect (n : Fin 8) (s : State) : State :=
  let l := leaderOf s n
  if awake s && ladderRuns s l then
    let t := selectRung l (stepRungs l s)
    if t.axes[l].ladder.active = s.axes[l].ladder.active then t else retakeAngle l t
  else s

/-- HOLDT in ticks; 0 selects 200 ms (06 Table 6.6). -/
def holdTime (s : State) (n : Fin 8) : Nat := 200000 * orDefault (bits (axWord s n 0x88) 0 11) 200

/-- PROBE_HOLD_EXPIRY (06 Table 6.3, R232, 11 R397): HOLDT has passed since the latest success. -/
def holdExpiry (n : Fin 8) (s : State) : State :=
  if s.axes[n].probe.holdAt + holdTime s n ≤ s.now then
    reselect n (modProbe n (fun p => { p with holdValid := false }) s)
  else s

/-- See `holdExpiry`. -/
def execProbeHoldExpiry (ax : Fin 8) (s : State) : Host.Outcome State Fault Refusal := .next (holdExpiry ax s)

/-- BEMF_CROSSING_TIMEOUT (11 R410). -/
def execBemfCrossingTimeout (ax : Fin 8) (s : State) : Host.Outcome State Fault Refusal :=
  .next (reselect ax (modBemf ax (fun b => { b with locked := false }) s))

/-- LINE_FAULT (12 R434). -/
def execLineFault (rx : Fin 16) (s : State) : Host.Outcome State Fault Refusal :=
  .next (if pinDiff s (2 * rx.val) then forEach allAxes reselect (lineFault rx s) else s)

end Sys2Proof.Machine
end

