-- ==== Sys2Proof/Machine/Swap.lean ====
section
/-! DEFINITION. How a passed commit takes effect on an axis, and the end of a commit (07 R256, 19 R666). -/

namespace Sys2Proof.Machine

/-! ### Which words are committed, and whose they are -/

/-- The axis at whose carrier-period start a committed word takes effect (07 R256); none for a word that belongs
to no axis. -/
def keyAxis (k : Nat) : Option Nat :=
  let a := k % 65536
  match k / 65536 with
  | 2 => if 0xE0 ≤ a % 256 then none else some (a / 256)
  | 4 => some (a / 128)
  | 5 => if 0x700 ≤ a ∧ a < 0x780 then some ((a - 0x700) / 16) else none
  | 8 => if a < 0x300 then some (a / 96) else if a < 0x380 then some ((a - 0x300) / 16) else none
  | _ => none

/-- The words of space 0x02 that the hardware writes: offsets within a block (10, 06, 11 and 06 tables; log entry 119). -/
def blockHardware (o : Nat) : Bool :=
  (0x10 ≤ o && o ≤ 0x12) || (0x30 ≤ o && o ≤ 0x34) || o == 0x48 || o == 0x49 || (0x98 ≤ o && o ≤ 0x9A) ||
    (0xA4 ≤ o && o ≤ 0xA7) || o == 0xAE || o == 0xAF || (0xB4 ≤ o && o ≤ 0xB8) || (0xE4 ≤ o && o ≤ 0xE6)

/-- The Commit-class words of space 0x0A (15 Table 15.9). -/
def seamCommit (a : Nat) : Bool :=
  (a < 0x20 && (a % 16 == 0 || a % 16 == 1 || a % 16 == 3)) ||
    (0x20 ≤ a && a < 0x60 && a % 16 < 3) || (0x60 ≤ a && a < 0x80 && a % 8 < 4) ||
    (0x80 ≤ a && a < 0x90) || a == 0xA0

/-- A word of a space is Commit-class (03 Table 3.13 and the tables of the defining chapters). -/
def commitWord (space a : Nat) : Bool :=
  match space with
  | 0x00 => a < 8192
  | 0x02 => a < 2048 && !blockHardware (a % 256) && a % 256 != 0x6B
  | 0x03 => a < 512
  | 0x04 => a < 1024
  | 0x05 => a < 2048
  | 0x08 => a < 896 && !(8 ≤ a % 16 && a % 16 < 12)
  | 0x09 => a < 1024 && !(a < 0x200 && a % 8 == 4) && !(0x280 ≤ a && a ≤ 0x284)
  | 0x0A => seamCommit a
  | _ => false

/-- The size of a space in words (03 Table 3.13); 0 for a number that names none. -/
def spaceSize : Nat → Nat
  | 0x00 => 8192
  | 0x01 => 128
  | 0x02 => 2048
  | 0x03 => 512
  | 0x04 => 1024
  | 0x05 => 2048
  | 0x06 => 512
  | 0x07 => 512
  | 0x08 => 896
  | 0x09 => 1024
  | 0x0A => 4096
  | 0x0B => 16384
  | 0x0C => 65536
  | 0x0D => 8192
  | 0x0E => 256
  | 0x0F => 512
  | 0x10 => 512
  | 0x11 => 32
  | 0x12 => 256
  | 0x13 => 1024
  | _ => 0

/-- The spaces that hold Commit-class words, ascending. -/
def commitSpaces : List Nat := [0x00, 0x02, 0x03, 0x04, 0x05, 0x08, 0x09, 0x0A]

/-- The Commit-class registers, ascending (03 Table 3.4). -/
def commitRegs : List Nat := [0x020, 0x022, 0x025, 0x061]

/-- The CRC-32 register after the Commit-class words of one space. -/
def crcSpace (m : WordMem) (c : DWord) (space : Nat) : DWord :=
  (List.range (spaceSize space)).foldl (fun c a =>
    if commitWord space a then crc32Word c (m.get (cfgKey space a)) else c) c

/-- CFGCRC of a running configuration (19 R666). -/
def cfgCrcOf (m : WordMem) : DWord :=
  let c := commitSpaces.foldl (crcSpace m) 0xFFFFFFFF#32
  (commitRegs.foldl (fun c a => crc32Word c (m.get (cfgKey 0x1F a))) c) ^^^ 0xFFFFFFFF#32

/-! ### An axis takes its words -/

/-- The group of axis `n` as its running words give it (08 Table 8.10). -/
def groupWord (s : State) (n : Fin 8) : Group :=
  let w := axWord s n 0x6A
  let leads := allAxes.any fun m => m != n && bit (axWord s m 0x6A) 3 && bits (axWord s m 0x6A) 0 3 == n.val
  { leader := if bit w 3 then Fin.ofNat 8 (bits w 0 3) else n
    member := bit w 3
    leads := leads
    offs := BitVec.ofNat 8 (bits w 8 8) }

/-- Every axis in the group its running words give it. -/
def wordGroups (s : State) : State :=
  forEach allAxes (fun n t => modAxis n (fun a => { a with group := groupWord s n }) t) s

/-- The group of axis `n` in effect: an axis whose leader's words still make that leader a member stands alone until
they change (log entry 31). -/
def groupInForce (s : State) (n : Fin 8) : Group :=
  let g := groupWord s n
  if g.member && bit (axWord s g.leader 0x6A) 3 then { g with leader := n, member := false } else g

/-- The groups follow the running words; a member holds no returning marks (06 R223). -/
def takeGroups (s : State) : State :=
  forEach allAxes (fun n t =>
    let g := groupInForce s n
    modAxis n (fun a => { a with
      group := g, ladder := if g.member then { a.ladder with ret := 0 } else a.ladder }) t) s

/-- An axis that leaves a group keeps the state it read; one that joins takes its leader's, with what a change of state
does to its forces (08 R301), and a source already active latches if that state watches it (09 R321, log entry 12); a
group that holds a lasting unit is LATCHED. -/
def settleGroup (n : Fin 8) (was : AxSt) (s : State) : State :=
  let s := if isMember s n then
      (if axSt s n = was then s else rewatch n (modAxis n (Axis.onChange was (axSt s n)) s))
    else if s.axes[n].st = was then s else modAxis n (fun a => { a with st := was }) s
  let s := if isMember s n || s.axes[n].st != .ready || s.axes[n].eff.en then s else setState n .off s
  if (groupOf s n).any (fun m => axFault s m != 0) then latchAxis n s else s

/-- Word `off` of axis `n` differs between two states. -/
def changed (old s : State) (n : Fin 8) (off : Nat) : Bool := axWord old n off != axWord s n off

/-- The groups change with a new group word of axis `n`: it and every axis that becomes a member, or is one no more,
settles. -/
def regroup (old : State) (n : Fin 8) (s : State) : State :=
  let s := takeGroups s
  forEach (allAxes.filter fun m => m == n || isMember old m != isMember s m)
    (fun m t => settleGroup m (axSt old m) t) s

/-- What the words of axis `n` start as they take effect: groups, dither, feedback, carrier VMAX and the test DAC
(13 R465). -/
def afterAxis (old : State) (n : Fin 8) (s : State) : State :=
  let s := if changed old s n 0x6A then regroup old n s else s
  let s := if [0x60, 0x68, 0x69, 0x6A].any (changed old s n) then reseed n s else s
  let s := if bit (fbWord s n) 0 && !bit (fbWord old n) 0 then enableFb n s else s
  freeDac n (noteExternal (refreshVmax s))

/-- Axis `n` takes its committed words (07 R256): its own words and the advance table it selects. -/
def takeAxis (n : Fin 8) (s : State) : State :=
  withTrips (fun s =>
    let own := fun k => keyAxis k == some n.val
    let s' := { s with cfg := { s.cfg with
      running := WordMem.overlay own s.cfg.running s.cfg.pending
      advTab := s.cfg.advTab.set n (s.cfg.pending.filter fun c => c.1 / 65536 == 3)
      axesPending := clearBit s.cfg.axesPending n.val } }
    afterAxis s n s') s

/-- The last part has taken effect: STATE returns to IDLE, SEQ counts, CFGCRC is formed (07 R256, 19 R666). -/
def finishApply (s : State) : State :=
  if s.cfg.state = .applying ∧ s.cfg.tablePending = false ∧ s.cfg.axesPending = 0 then
    { s with cfg := { s.cfg with state := .idle, seq := s.cfg.seq + 1, cfgCrc := cfgCrcOf s.cfg.running } }
  else s

/-- Axis `n` takes words that wait for it. -/
def takeWaiting (n : Fin 8) (s : State) : State :=
  if s.cfg.axesPending.getLsbD n.val then finishApply (takeAxis n s) else s

end Sys2Proof.Machine
end

