-- ==== Sys2Proof/Machine/Carrier.lean ====
section
/-! DEFINITION. Carrier period starts and resyncs (chapter 08): everything that acts at a period start. -/

namespace Sys2Proof.Machine

/-- The live registers and committed words of axis `n` come into force at a period start (00 Table 0.4, 07
R256, 09 R331). -/
def periodTakes (n : Fin 8) (s : State) : State :=
  let s := takeWaiting n s
  let s := if !isMember s n && s.axes[n].trip.clearing then rewatch n (finishClear n s) else s
  let old := s.axes[n].eff
  let s := adoptLive n s
  let s := if s.axes[n].eff.cmdSrc = old.cmdSrc then s
    else modDrive n (fun d => { d with cmdLost := false, xNow := 0, inAt := s.now }) s
  if s.axes[n].enWritten then
    applyEnable n s.axes[n].eff.en (modAxis n (fun a => { a with enWritten := false }) s)
  else s

/-- A period of a leader or lone axis starts, the previous one having ended at position `e` and the period start before
lying `dt` ticks back. The orientation is chosen before a current is taken in it (10 R348, 11 R404). -/
def leaderPeriod (n : Fin 8) (dt e : Nat) (s : State) : State :=
  let s := if s.axes[n].drv.offNext then setState n .ready s else s
  let s := orient n (advancePeriod n s)
  let s := modDrive n (fun d => { d with rampFrom := 0 }) (runRegulators n dt (stepInjection n s))
  let p := s.axes[n].car.period
  let plans := axisPlans s n p e
  let s := loadPeriod n p e (plans.map (·.1)) s
  afterRegulators n (setRoles n (plans.map (·.2)) s)

/-- A period of a member starts (08 R292, R293). Its own LFSR, AX_PER and DITH draw the period it would have as a lone
axis, which is its first one should it leave the group (log entry 114). -/
def memberPeriod (n : Fin 8) (e : Nat) (s : State) : State :=
  let p := memberLength s n
  let per := s.axes[n].eff.per.toNat
  let dith := if s.spread.getLsbD 1 then bits (axWord s n 0x68) 0 7 else 0
  let s := modCar n (fun c => c.draw per dith (lfsrStep c.lfsr)) s
  loadPeriod n p e (Vector.ofFn fun leg => memberPlan s n p leg) s

/-- A leg holds its switches as they stand at position `x` until a period starts (log entry 18). -/
def Leg.hold (x : Nat) (l : Leg) : Leg :=
  let keep := fun p => if Pulse.covers p x then (some { on := 0, off := farFine } : Option Pulse) else none
  { l.ended x with high := keep l.high, low := keep l.low }

/-- The carrier of a member waits at 0 for its offset in its leader's period, its legs at position `x` as they are; no
trigger of it fires meanwhile. -/
def parkCarrier (m : Fin 8) (x : Nat) (s : State) : State :=
  let trip := tripHolds s m
  let short := shortHolds s m
  modCar m (fun c => { c with
    ticks := 0, resync := true, asMember := true, fired := 0xF
    legs := c.legs.map fun l => if trip then l.tripped x short else l.hold x }) s

/-- A period of axis `n` starts, the previous one having ended at position `e`: the words that wait come into force first.
An axis that has become a member waits for its offset (08 R292; log entry 114). -/
def startPeriod (n : Fin 8) (e : Nat) (s : State) : State :=
  let dt := s.axes[n].car.ticks - s.axes[n].drv.rampFrom
  let s := periodTakes n s
  if !isMember s n then leaderPeriod n dt e (modCar n (fun c => { c with asMember := false }) s)
  else if s.axes[n].car.asMember then memberPeriod n e s
  else parkCarrier n e s

/-! ### Resync (08 8.8, 07 R244) -/

/-- The enabled heads on a carrier angle whose triggers lie beyond `a` (07 R244). -/
def skippedHeads (s : State) (src a : Nat) : List Nat :=
  (List.range 1024).filter fun k =>
    let w := runWord s 0 (8 * k)
    bit w 15 && !bit w 7 && bits w 0 5 == src && decide (a < (runWord s 0 (8 * k + 1)).toNat)

/-- SKIP of the lanes of the heads that a resync of axis `n` passes over. -/
def countSkipped (n : Fin 8) (s : State) : State :=
  forEach (skippedHeads s (16 + n.val) (hiWord s.src[carSrc n].angle).toNat) (fun k t =>
    modLane (Fin.ofNat 8 (bits (runWord t 0 (8 * k)) 8 3)) (fun l => { l with skip := satInc l.skip }) t) s

/-- A new turn of a carrier angle begins at 0; the arc of the step ends where the old turn did, and what lies beyond it
is skipped (07 R244). -/
def restartAngle (n : Fin 8) (s : State) : State :=
  modSrc (carSrc n) (fun r => { r with angle := 0, cut := some (r.cut.getD r.angle) }) s

/-- Every trigger of axis `n` that has not fired fires (08 R287). -/
def fireRest (n : Fin 8) (s : State) : State := forEach [0, 1, 2, 3] (fun m t => fireTrigger n m t.now t) s

/-- The period of a member ends at a resync of its leader; it waits for its offset. -/
def parkMember (m : Fin 8) (s : State) : State :=
  restartAngle m (parkCarrier m (carFine s m) (countSkipped m (fireRest m s)))

/-- The interrupted period of axis `n` ends now and a new one starts (08 R304). -/
def endByResync (n : Fin 8) (s : State) : State :=
  let members := (groupOf s n).filter (· != n)
  let s := countSkipped n (fireRest n s)
  let s := forEach members parkMember s
  restartAngle n (startPeriod n (carFine s n) s)

/-- A low side of the group of `n` that is on has been on for less than its MINP, counted from its turn-on in whatever
period that was (08 R304). -/
def lowTooShort (s : State) (n : Fin 8) : Bool :=
  (groupOf s n).any fun m =>
    let x := carFine s m
    allLegs.any fun leg =>
      let l := s.axes[m].car.legs[leg]
      Pulse.covers l.low x && decide (Pulse.onFor l.lowFor x l.low < minpOf s m)

/-- CARRIER_RESYNC of axis `n` executes: its period ends at the end of the cycle (07 R244). -/
def askResync (n : Fin 8) (s : State) : State :=
  if !carrierOn s n || isMember s n then s else modCar n (fun c => { c with resyncDue := true }) s

/-- A resync takes place; the period end waits for MINP (08 R304). -/
def resyncCarrier (n : Fin 8) (s : State) : State :=
  if !carrierOn s n || isMember s n then s
  else if lowTooShort s n then modCar n (fun c => { c with resync := true }) s
  else endByResync n s

/-- The resyncs of the cycle that ends, one for each axis however many lanes asked for it (07 R244). -/
def endCycleResyncs (s : State) : State :=
  forEach (allAxes.filter fun n => s.axes[n].car.resyncDue)
    (fun n t => resyncCarrier n (modCar n (fun c => { c with resyncDue := false }) t)) s

/-- CARRIER_PERIOD_START (08 R277): the counter has reached its period end, the end of a delayed resync, or in a member
that waits its leader's offset. -/
def carrierPeriodStart (n : Fin 8) (s : State) : State :=
  if !carrierOn s n then s
  else if s.axes[n].car.resync then
    if isMember s n then startPeriod n (carFine s n) s else endByResync n s
  else startPeriod n (periodEnd s n) s

/-- Carriers resume (08 R276, 8.10): the counter of a leader or lone axis restarts at 0 and a period starts; a member
restarts at its offset in its leader's first period. -/
def restartCarriers (s : State) : State :=
  forEach (allAxes.filter fun n => carrierOn s n) (fun n t =>
    if isMember t n then parkCarrier n (carFine t n) t else startPeriod n 0 t) s

end Sys2Proof.Machine
end

