-- ==== Sys2Proof/Machine/Stitch.lean ====
section
/-! DEFINITION. The stitch engine (chapter 07, 7.1-7.4): crossings, lanes, and one command for each action. -/

namespace Sys2Proof.Machine

/-! ### Slots and crossings (07 7.1, 7.2) -/

/-- Word `w` of slot `k` of the running stitch table. -/
def slotWord (s : State) (k w : Nat) : Word := runWord s 0 (8 * k + w)

/-- The source of slot `k`. -/
def slotSource (s : State) (k : Nat) : Fin 32 := Fin.ofNat 32 (bits (slotWord s k 0) 0 5)

/-- The lane of slot `k`. -/
def slotLane (s : State) (k : Nat) : Fin 8 := Fin.ofNat 8 (bits (slotWord s k 0) 8 3)

/-- REARM of slot `k` in ang16. -/
def slotRearm (s : State) (k : Nat) : Nat := orDefault (slotWord s k 7).toNat 182

/-- Slot `k` is an enabled head (07 R238). -/
def isHead (s : State) (k : Nat) : Bool := bit (slotWord s k 0) 15 && !bit (slotWord s k 0) 7

/-- The distance from the previous ang16 of a source to `trigger` and the length of its last step, both measured
in the direction of motion; `none` without motion in that direction (07 R235). A resync ends the arc (R244). -/
def crossing (r : Source) (trigger : Word) : Option (Nat × Nat) :=
  let p := hiWord r.prev
  let c := hiWord (r.cut.getD r.angle)
  let sg := signOf r.speed
  let sd := (c - p).toInt
  if p = c then none
  else if 0 < sg ∧ (0 < sd ∨ sd = -32768) then some ((trigger - p).toNat, sd.natAbs)
  else if sg < 0 ∧ sd < 0 then some ((p - trigger).toNat, sd.natAbs)
  else none

/-- Head `k` becomes due in this cycle (07 R235, R236). -/
def isDue (s : State) (k : Nat) : Bool :=
  let r := s.src[slotSource s k]
  isHead s k && !(s.stitch.disarmed.any fun d => d.slot == k) &&
    bit (slotWord s k 0) (if 0 < r.speed then 5 else 6) &&
    (match crossing r (slotWord s k 1) with
     | some (d, len) => decide (0 < d) && decide (d ≤ len)
     | none => false)

/-- The action of slot `k`. -/
def slotAction (s : State) (k : Nat) : Action where
  code := (slotWord s k 2).extractLsb' 0 8
  p0 := slotWord s k 3
  p1 := slotWord s k 4

/-- The actions of a chain from slot `k`, at most `fuel` of them (07 R239, R249). -/
def chainActions (s : State) : Nat → Nat → List Action
  | 0, _ => []
  | fuel + 1, k =>
    slotAction s k :: (if bit (slotWord s k 5) 10 then chainActions s fuel (bits (slotWord s k 5) 0 10) else [])

/-- The place of head `k` among the heads of its lane that become due in one cycle: source, arc, slot (07 R237). -/
def dueRank (s : State) (k : Nat) : Nat :=
  let src := slotSource s k
  let arc := ((crossing s.src[src] (slotWord s k 1)).map (·.1)).getD 0
  (src.val * 65536 + arc) * 1024 + k

/-- A chain enters a queue before the chains of the same cycle that rank after it (07 R237, log entry 34). -/
def queueChain (c : Chain) (q : List Chain) : List Chain :=
  let after := fun (d : Chain) => d.due == c.due && decide (c.rank < d.rank)
  q.filter (fun d => !after d) ++ c :: q.filter after

/-- A due head finds lane `l` full (07 R252). -/
def dropHead (l : Fin 8) (c : Chain) (s : State) : State :=
  let s := modLane l (fun x => { x with drop := satInc x.drop, dropSlot := c.head }) s
  let s := raiseFault (faultCode 0x62 l.val) [] 0xFFFF 0 s
  forEach (c.actions.filter fun a => a.code == 0x01 || a.code == 0x0B)
    (fun a t => tripInternal (Fin.ofNat 8 (bits a.p0 0 3)) t) s

/-- STITCH_DUE (07 R235, R236, R249, R252). The queue keeps the 64 chains that come first. -/
def stitchDue (k : Fin 1024) (s : State) : State :=
  if awake s && isDue s k.val then
    let c : Chain := {
      head := k.val, due := s.stitch.cycle, rank := dueRank s k.val
      forward := decide (0 < s.src[slotSource s k.val].speed), fresh := true, actions := chainActions s 8 k.val }
    let l := slotLane s k.val
    let q := queueChain c s.stitch.lanes[l].queue
    let s := { s with stitch := { s.stitch with
      disarmed := s.stitch.disarmed ++ [{ slot := k.val, travel := 0 }] } }
    let s := modLane l (fun x => { x with queue := q.take 64, maxDepth := max x.maxDepth (min 64 q.length) }) s
    forEach (q.drop 64) (dropHead l) s
  else s

/-- See `stitchDue`. -/
def execStitchDue (slot : Fin 1024) (s : State) : Host.Outcome State Fault Refusal := .next (stitchDue slot s)

/-- STITCH_REARM (07 R236): the slot's source has travelled REARM since it became due. -/
def stitchRearm (k : Fin 1024) (s : State) : State :=
  { s with stitch := { s.stitch with disarmed := s.stitch.disarmed.filter fun d =>
      !(d.slot == k.val && decide (slotRearm s k.val * 65536 ≤ d.travel)) } }

/-- See `stitchRearm`. -/
def execStitchRearm (slot : Fin 1024) (s : State) : Host.Outcome State Fault Refusal := .next (stitchRearm slot s)

/-! ### Lanes (07 7.4) -/

/-- The action that lane `l` may execute in this cycle, with its chain (07 R248). -/
def laneAction (s : State) (l : Fin 8) : Option (Chain × Action) :=
  let x := s.stitch.lanes[l]
  match x.queue with
  | [] => none
  | c :: _ =>
    match c.actions with
    | [] => none
    | a :: _ => if c.due < s.stitch.cycle ∧ x.lastExec < s.stitch.cycle then some (c, a) else none

/-- The lane after one action of its front chain: FIRED counts the head, and a finished chain is judged against
BOUND (07 R251). -/
def Lane.advance (x : Lane) (cycle : Nat) (first : Bool) : Lane :=
  let x := { x with lastExec := cycle, fired := if first then x.fired + 1 else x.fired }
  match x.queue with
  | [] => x
  | c :: q =>
    match c.actions with
    | _ :: a :: r => { x with queue := { c with fresh := false, actions := a :: r } :: q }
    | _ =>
      let past := cycle - c.due - x.bound.toNat
      let x := { x with queue := q }
      if past = 0 then x
      else { x with
        late := satInc x.late, lateSlot := c.head
        worstLate := BitVec.ofNat 16 (max x.worstLate.toNat (min 65535 past)) }

/-- Lane `l` executes an action with code `code`: the lane moves on, then `act` has its effect. -/
def runAction (code : BitVec 8) (l : Fin 8) (act : Chain → Action → State → State) (s : State) : State :=
  match laneAction s l with
  | none => s
  | some (c, a) =>
    if awake s && a.code == code then act c a (modLane l (fun x => x.advance s.stitch.cycle c.fresh) s) else s

/-! ### Actions (07 Table 7.2) -/

/-- NOP has no effect beyond its cycle. -/
def nopAction (_ : Chain) (_ : Action) (s : State) : State := s

/-- NOP. -/
def execNop (lane : Fin 8) (s : State) : Host.Outcome State Fault Refusal := .next (runAction 0x00 lane nopAction s)

/-- COMMUTE (07 R242). -/
def commuteAction (c : Chain) (a : Action) : State → State :=
  commuteAxis (Fin.ofNat 8 (bits a.p0 0 3)) (if c.forward then bits a.p1 0 3 else bits a.p1 4 3)

/-- See `commuteAction`. -/
def execCommute (lane : Fin 8) (s : State) : Host.Outcome State Fault Refusal :=
  .next (runAction 0x01 lane commuteAction s)

/-- CNV_START of sequence P0 by lane `l` (13 R445, R447). -/
def convAction (l : Fin 8) (_ : Chain) (a : Action) (s : State) : State :=
  triggerSequence (bits a.p0 0 6) { time := s.now, place := 32 + l.val } s

/-- See `convAction`. -/
def execCnvStart (lane : Fin 8) (s : State) : Host.Outcome State Fault Refusal :=
  .next (runAction 0x02 lane (convAction lane) s)

/-- An output after an action on it. -/
def OutputAction.apply (o : BitVec 16) (x : OutputAction) : BitVec 16 :=
  match x.code.toNat with
  | 0x03 => setBit o x.out
  | 0x04 => clearBit o x.out
  | _ => putBit o x.out (!o.getLsbD x.out)

/-- An action on a stitch output; those of one cycle apply in ascending lane order (07 R243). -/
def actOnOutput (l : Fin 8) (a : Action) (s : State) : State :=
  let x : OutputAction := { lane := l.val, code := a.code, out := bits a.p0 0 4 }
  let old := s.stitch.outputActions
  let acts := old.filter (fun y => decide (y.lane ≤ l.val)) ++ x :: old.filter fun y => decide (l.val < y.lane)
  { s with stitch := { s.stitch with
    outputActions := acts
    outputs := acts.foldl OutputAction.apply s.stitch.outputsBefore } }

/-- SIG_SET. -/
def execSigSet (lane : Fin 8) (s : State) : Host.Outcome State Fault Refusal :=
  .next (runAction 0x03 lane (fun _ a => actOnOutput lane a) s)

/-- SIG_CLEAR. -/
def execSigClear (lane : Fin 8) (s : State) : Host.Outcome State Fault Refusal :=
  .next (runAction 0x04 lane (fun _ a => actOnOutput lane a) s)

/-- SIG_TOGGLE. -/
def execSigToggle (lane : Fin 8) (s : State) : Host.Outcome State Fault Refusal :=
  .next (runAction 0x05 lane (fun _ a => actOnOutput lane a) s)

/-- HOST_IRQ (07 R245). -/
def irqAction (l : Fin 8) (c : Chain) (a : Action) (s : State) : State :=
  setSysStat 4 (modLane l (fun x => { x with irqFlag := setBit x.irqFlag (bits a.p0 0 4), lastIrq := c.head }) s)

/-- See `irqAction`. -/
def execHostIrq (lane : Fin 8) (s : State) : Host.Outcome State Fault Refusal :=
  .next (runAction 0x06 lane (irqAction lane) s)

/-- INJ_ON and INJ_OFF (11 R398). -/
def latchAction (on : Bool) (_ : Chain) (a : Action) : State → State := setInjLatch (Fin.ofNat 8 (bits a.p0 0 3)) on

/-- INJ_ON. -/
def execInjOn (lane : Fin 8) (s : State) : Host.Outcome State Fault Refusal :=
  .next (runAction 0x07 lane (latchAction true) s)

/-- INJ_OFF. -/
def execInjOff (lane : Fin 8) (s : State) : Host.Outcome State Fault Refusal :=
  .next (runAction 0x08 lane (latchAction false) s)

/-- SPACING_REARM (12 R431). -/
def spacingAction (_ : Chain) (a : Action) : State → State := rearmSpacing (Fin.ofNat 8 (bits a.p0 0 3))

/-- See `spacingAction`. -/
def execSpacingRearm (lane : Fin 8) (s : State) : Host.Outcome State Fault Refusal :=
  .next (runAction 0x09 lane spacingAction s)

/-- A sample of a source loads a published channel (07 R246). -/
def publish (q : Fin 2) (k : Fin 32) (s : State) : State :=
  modSeam (fun m => { m with pubs := m.pubs.set q { m.pubs[q] with
    loaded := true, angle := s.src[k].angle, speed := s.src[k].speed, stamp := m.time, free := timeFree s } }) s

/-- SEAM_PUB (07 R246). -/
def publishAction (_ : Chain) (a : Action) : State → State :=
  publish (Fin.ofNat 2 (bits a.p0 0 1)) (Fin.ofNat 32 (bits a.p1 0 5))

/-- See `publishAction`. -/
def execSeamPub (lane : Fin 8) (s : State) : Host.Outcome State Fault Refusal :=
  .next (runAction 0x0A lane publishAction s)

/-- CARRIER_RESYNC (07 R244, 08 R304): it takes place at the end of the cycle. -/
def resyncAction (_ : Chain) (a : Action) : State → State := askResync (Fin.ofNat 8 (bits a.p0 0 3))

/-- See `resyncAction`. -/
def execCarrierResync (lane : Fin 8) (s : State) : Host.Outcome State Fault Refusal :=
  .next (runAction 0x0B lane resyncAction s)

/-- The increments of user tallies that wait for Triter (07 R247). -/
def talliesWaiting (s : State) : Nat :=
  s.store.waiting.foldl (fun n w => if 0x20 ≤ w.1 ∧ w.1 < 0x30 then n + w.2 else n) 0

/-- TALLY (07 R247). -/
def tallyAction (l : Fin 8) (_ : Chain) (a : Action) (s : State) : State :=
  if 16 ≤ talliesWaiting s then modLane l (fun x => { x with drop := satInc x.drop }) s
  else countTally (0x20 + bits a.p0 0 4) s

/-- See `tallyAction`. -/
def execTally (lane : Fin 8) (s : State) : Host.Outcome State Fault Refusal :=
  .next (runAction 0x0C lane (tallyAction lane) s)

/-- The effect of an action that lane `l` executes. -/
def actionEffect (l : Fin 8) (c : Chain) (a : Action) (s : State) : State :=
  match a.code.toNat with
  | 0x01 => commuteAction c a s
  | 0x02 => convAction l c a s
  | 0x03 | 0x04 | 0x05 => actOnOutput l a s
  | 0x06 => irqAction l c a s
  | 0x07 => latchAction true c a s
  | 0x08 => latchAction false c a s
  | 0x09 => spacingAction c a s
  | 0x0A => publishAction c a s
  | 0x0B => resyncAction c a s
  | 0x0C => tallyAction l c a s
  | _ => nopAction c a s

/-! ### A cycle ends -/

/-- A chain that has begun executes in consecutive cycles (07 R248): where the cycle that ends brought lane `l` no
command, its next action executes now (log entry 34). -/
def continueLane (l : Fin 8) (s : State) : State :=
  match laneAction s l with
  | some (c, a) => if c.fresh then s else runAction a.code l (actionEffect l) s
  | none => s

/-- Every lane in the middle of a chain has its action of the cycle. -/
def continueChains (s : State) : State := forEach allAxes continueLane s

/-- The stitch engine at an angle-engine step: a cycle passes, disarmed slots gather travel (07 R234, R236). -/
def stepStitch (s : State) : State :=
  { s with stitch := { s.stitch with
    cycle := s.stitch.cycle + 1
    outputsBefore := s.stitch.outputs
    outputActions := []
    disarmed := s.stitch.disarmed.map fun d =>
      let r := s.src[slotSource s d.slot]
      { d with travel := d.travel + (angDiff (r.cut.getD r.angle) r.prev).natAbs } } }

/-! ### Lane status, space 0x01 (07 Table 7.7) -/

/-- Word `w` of the status block of lane `l`. -/
def laneRead (s : State) (l : Fin 8) (w : Nat) : Word :=
  let x := s.stitch.lanes[l]
  match w with
  | 0x0 => BitVec.ofNat 16 x.queue.length
  | 0x1 => BitVec.ofNat 16 x.maxDepth
  | 0x2 => x.bound
  | 0x3 => BitVec.ofNat 16 x.pdepth
  | 0x4 => x.late
  | 0x5 => x.worstLate
  | 0x6 => BitVec.ofNat 16 x.lateSlot
  | 0x7 => x.drop
  | 0x8 => BitVec.ofNat 16 x.dropSlot
  | 0x9 => x.skip
  | 0xA => x.fired
  | 0xB => x.margin
  | 0xE => x.irqFlag
  | 0xF => BitVec.ofNat 16 x.lastIrq
  | _ => 0

/-- What a read of word `w` of a lane's block clears. -/
def laneClear (l : Fin 8) (w : Nat) (s : State) : State :=
  modLane l (fun x =>
    match w with
    | 0x4 => { x with late := 0 }
    | 0x7 => { x with drop := 0 }
    | 0x9 => { x with skip := 0 }
    | 0xE => { x with irqFlag := 0 }
    | _ => x) s

end Sys2Proof.Machine
end

