-- ==== Sys2Proof/Machine/Owner.lean ====
section
/-! DEFINITION. Owners and orphans (04 4.6, 4.7). -/

namespace Sys2Proof.Machine

/-- An owner (04 Table 4.10). -/
inductive Owner where
  | host
  | seam (peer : DevId)
  | firmware
  | axis
  deriving DecidableEq, Repr

/-- Word `w` of the running set-up. -/
def setupWord (s : State) (w : Nat) : Word := s.boot.setup.get w

/-- The owner an entry names. -/
def entryOwner (w : Word) : Owner :=
  match bits w 0 2 with
  | 0 => .host
  | 1 => .seam (BitVec.ofNat 10 (bits w 2 10))
  | 2 => .firmware
  | _ => .axis

/-- ORPHAN of an entry. -/
def entryOrphan (w : Word) : Nat := bits w 12 2

/-- The owner of register group `g` (03 Table 3.12, 04 Table 4.11). -/
def groupOwner (s : State) (g : Nat) : Owner :=
  if (1 ≤ g ∧ g ≤ 3) ∨ (7 ≤ g ∧ g ≤ 14) then entryOwner (setupWord s (0x20 + g)) else .host

/-- The owner of pin `p`. -/
def pinOwner (s : State) (p : Nat) : Owner := entryOwner (setupWord s (0x80 + p))

/-- The register group whose owner a word of a space takes (R148): the axis page groups. R148 names the words of space
0x08 for the channels of a bridge; its bridge block takes the same owner by the model's reading (log entry 88). -/
def wordGroup (space a : Nat) : Option Nat :=
  match space with
  | 0x02 => some (7 + a / 256)
  | 0x03 => some (7 + a / 64)
  | 0x04 => some (7 + a / 128)
  | 0x08 => if a < 0x300 then some (7 + a / 96) else if a < 0x380 then some (7 + (a - 0x300) / 16) else none
  | _ => none

/-- The pin whose DATA word a word of space 0x09 is (14 Table 14.5). -/
def dataPin (space a : Nat) : Option Nat := if space = 9 ∧ a < 0x200 ∧ a % 8 = 4 then some (a / 8) else none

/-- The owner of a word of a space (R148, 04 Table 4.11). -/
def wordOwner (s : State) (space a : Nat) : Owner :=
  match wordGroup space a with
  | some g => groupOwner s g
  | none =>
    match dataPin space a with
    | some p => pinOwner s p
    | none =>
      if [0x00, 0x05, 0x07, 0x0A, 0x10, 0x11, 0x12].contains space then entryOwner (setupWord s (0x30 + space))
      else .host

/-- A word of a space belongs to an orphaned item (R156). -/
def wordOrphaned (s : State) (space a : Nat) : Bool :=
  match wordGroup space a with
  | some g => s.boot.orphanGroups.getLsbD g
  | none =>
    match dataPin space a with
    | some p => s.boot.orphanPins.getLsbD p
    | none => s.boot.orphanSpaces.getLsbD space

/-- `p` is the party an owner names. -/
def Party.isOwner : Party → Owner → Bool
  | .host, o => o == .host
  | .peer d _, o => o == .seam d

/-- REMOTE_WR of group `g` (04 Table 4.8). -/
def remoteWrGroup (s : State) (g : Nat) : Bool := bit (setupWord s 0x51) g

/-- REMOTE_RD of group `g`. -/
def remoteRdGroup (s : State) (g : Nat) : Bool := bit (setupWord s 0x50) g

/-- A bit of a 32-bit map of spaces at word `w`. -/
def spaceBit (s : State) (w space : Nat) : Bool := bit (setupWord s (w + space / 16)) (space % 16)

/-- `p` may write the registers of group `g` (R151, R156). -/
def mayWriteGroup (s : State) (p : Party) (g : Nat) : Bool :=
  p.isOwner (groupOwner s g) && !s.boot.orphanGroups.getLsbD g &&
    (match p with
     | .host => true
     | .peer _ _ => remoteWrGroup s g)

/-- `p` may read the registers of group `g` (R150). -/
def mayReadGroup (s : State) (p : Party) (g : Nat) : Bool :=
  match p with
  | .host => true
  | .peer _ _ => remoteRdGroup s g || p.isOwner (groupOwner s g)

/-- `p` may write a word of a space (R151, R156). REMOTE_WR is the bit of the space, also where the word takes a group's
owner (log entry 93). -/
def mayWriteWord (s : State) (p : Party) (space a : Nat) : Bool :=
  p.isOwner (wordOwner s space a) && !wordOrphaned s space a &&
    (match p with
     | .host => true
     | .peer _ _ => spaceBit s 0x54 space)

/-- `p` may read a word of a space (R150). REMOTE_RD is the bit of the space, also where the word takes the owner of a
group or of a pin (log entry 93). -/
def mayReadWord (s : State) (p : Party) (space a : Nat) : Bool :=
  match p with
  | .host => true
  | .peer _ _ => spaceBit s 0x52 space || p.isOwner (wordOwner s space a)

/-- `p` may change the latch of pin `i` through the registers of group 6 or its DATA word (R149, R151, R156). REMOTE_WR
is the bit of group 6 in both cases (log entry 93). -/
def mayWritePin (s : State) (p : Party) (i : Nat) : Bool :=
  p.isOwner (pinOwner s i) && !s.boot.orphanPins.getLsbD i &&
    (match p with
     | .host => true
     | .peer _ _ => remoteWrGroup s 6)

/-- The register groups, spaces and pins that `dev` owns (R154). -/
def seamGroups (s : State) (dev : DevId) : List Nat :=
  (List.range 16).filter fun g => groupOwner s g == .seam dev

/-- See `seamGroups`. -/
def seamPins (s : State) (dev : DevId) : List Nat := (List.range 64).filter fun i => pinOwner s i == .seam dev

/-- See `seamGroups`. -/
def seamSpaces (s : State) (dev : DevId) : List Nat :=
  [0x00, 0x05, 0x07, 0x0A, 0x10, 0x11, 0x12].filter fun k => entryOwner (setupWord s (0x30 + k)) == .seam dev

/-- The items of a lost peer become orphaned (R154, R155, R157); an axis page with ORPHAN 1 ramps to zero. The
fault is logged once per peer lost. -/
def orphanPeer (dev : DevId) (s : State) : State :=
  let g := (seamGroups s dev).filter fun g => !s.boot.orphanGroups.getLsbD g
  let p := (seamPins s dev).filter fun i => !s.boot.orphanPins.getLsbD i
  let k := (seamSpaces s dev).filter fun k => !s.boot.orphanSpaces.getLsbD k
  if g.isEmpty && p.isEmpty && k.isEmpty then s
  else
    let s := { s with boot := { s.boot with
      orphanGroups := g.foldl setBit s.boot.orphanGroups
      orphanPins := p.foldl setBit s.boot.orphanPins
      orphanSpaces := k.foldl setBit s.boot.orphanSpaces } }
    let s := setSeamStat 7 s
    let s := raiseFault (faultCode (0x74 + dev.toNat / 256) (dev.toNat % 256)) [] 0xFFFF 0 s
    forEach (allAxes.filter fun n => g.contains (7 + n.val) && entryOrphan (setupWord s (0x27 + n.val)) == 1)
      forcedStop s

end Sys2Proof.Machine
end

