-- ==== Sys2Proof/Machine/Pins.lean ====
section
/-! DEFINITION. Pins and the crossbar (chapter 14). The level of a pad, an output pin's included, is what
PIN_INPUT_CHANGE last reported (log entry 19). -/

namespace Sys2Proof.Machine

/-! ### Outputs (14 14.2, 14.3) -/

/-- An axis is TRIPPED or LATCHED. -/
def axisDown (s : State) (n : Fin 8) : Bool := axSt s n == .tripped || axSt s n == .latched

/-- The output signal an OSEL code selects; `latch` is the pin's data latch (14 Table 14.2). -/
def outputSignal (s : State) (osel : Nat) (latch : Bool) : Bool :=
  if osel = 0 then latch
  else if osel ≤ 0x10 then s.stitch.outputs.getLsbD (osel - 1)
  else if osel ≤ 0x18 then s.axes[leaderOf s (Fin.ofNat 8 (osel - 0x11))].brake
  else if osel ≤ 0x20 then (s.fb[(Fin.ofNat 8 (osel - 0x19) : Fin 8)]).hitSig
  else if osel ≤ 0x28 then axisDown s (Fin.ofNat 8 (osel - 0x21))
  else if osel ≤ 0x2A then
    let j := osel - 0x29
    bit (tailWord s (6 + j) 0xE0) 0 && decide ((s.src[(Fin.ofNat 32 (30 + j) : Fin 32)]).angle.toNat < 2147483648)
  else if 0x40 ≤ osel ∧ osel ≤ 0x43 then s.pin.fw.getLsbD (osel - 0x40)
  else false

/-- An orphan state of pin `p` holds with this ORPHAN code (04 Table 4.13). -/
def orphanPin (s : State) (p code : Nat) : Bool :=
  s.boot.orphanPins.getLsbD p && entryOrphan (setupWord s (0x80 + p)) == code

/-- The value the output stage of pin `p` drives, or would drive with OE 1 (14 R486). -/
def outValue (s : State) (p : Nat) : Bool :=
  if orphanPin s p 1 then bit (setupWord s (0x80 + p)) 14
  else outputSignal s (bits (padWord s p 1) 0 8) (s.pin.latch.getLsbD p)

/-! ### P4 to P7 under the backup domain (14 R499, R500, 17 17.8) -/

/-- Word 0x10 of space 0x11 (17 Table 17.10): WEN [0], WIF [3:1], STROBE [7:5], TON [11:8], COVEREN [12]. -/
def watchWord (s : State) : Word := s.bak.ram.get 0x10

/-- WEN. -/
def watchOn (s : State) : Bool := bakAlive s && bit (watchWord s) 0

/-- WIF. -/
def watchItf (s : State) : Fin 8 := Fin.ofNat 8 (bits (watchWord s) 1 3)

/-- The watch strobes: in SLEEP, BACKUP and boot, and in RUN until a commit enables interface WIF (17 R619). -/
def strobing (s : State) : Bool :=
  watchOn s && s.power.phase != .off &&
    (!running s || s.power.pstate == .sleep || (s.power.pstate == .run && !(s.boot.committed && fbOn s (watchItf s))))

/-- TON is not shorter than the strobe period, so P6 stays pulled up between strobes (17 Table 17.10): TON + 1 periods of
32,768 Hz against 2^STROBE quarter milliseconds. -/
def strobeHeld (s : State) : Bool :=
  decide (32768 * 2 ^ bits (watchWord s) 5 3 ≤ 4000 * (bits (watchWord s) 8 4 + 1))

/-- The backup domain uses pins P4 to P7 (14 R500). -/
def backupUses (s : State) (p : Nat) : Bool := 4 ≤ p && p < 8 && (bit (watchWord s) 0 || bit (watchWord s) 12)

/-- Pin `p` is active in SLEEP and BACKUP (14 R500). -/
def activePin (s : State) (p : Nat) : Bool :=
  (p < 16 && s.boot.committed && bit (padWord s p 3) 0) || backupUses s p

/-- SLEEP or BACKUP holds, where an active pin is an input under the backup domain (14 R502). -/
def backupPads (s : State) : Bool := s.power.phase == .backup || (running s && s.power.pstate == .sleep)

/-- The state of Table 5.6 keeps the crossbar pins inputs with a pull-down: RETIRED as the fuses stand, or an unusable
region 6 (05 R183, R682). -/
def padsRetired (s : State) : Bool := lifeNow s == 4

/-- Every pin is an input with the pad's pull-down: before the first commit, and where the life cycle keeps it so (14
R499, 05 R183). -/
def padAtBoot (s : State) : Bool := !s.boot.committed || padsRetired s

/-- The output driver of pin `p` is enabled: past the boot state, OE 1, no orphan state of 2, and no active pin of
SLEEP or BACKUP (14 R477, R478, R499, R502). -/
def outEnabled (s : State) (p : Nat) : Bool :=
  !padAtBoot s && bit (pinWord s p 0) 6 && !pinAnalog s p && !pinDiff s p && !orphanPin s p 2 &&
    !(backupPads s && activePin s p)

/-- The output driver of pin `p` is on: under OD a value of 1 turns it off (14 R478). -/
def driverOn (s : State) (p : Nat) : Bool := outEnabled s p && !(bit (pinWord s p 0) 5 && outValue s p)

/-- The pull of a pad (14 Table 14.1). -/
inductive Pull where
  | none
  | up
  | down
  deriving DecidableEq, Repr

/-- Pin `p` is with the backup domain: P4 to P7 while it uses them, in SLEEP and BACKUP and from a reset until the first
commit (14 R499, R502). -/
def padWithBackup (s : State) (p : Nat) : Bool := backupUses s p && (backupPads s || !s.boot.committed)

/-- The pull of a pin of the backup domain: `strobe` tells that a strobe runs, from its begin to the sample at the end of
TON that WATCH_STROBE takes. P6 is pulled up in a strobe; the other pins have no pull (17 R619; log entry 113). -/
def backupPull (strobe : Bool) (s : State) (p : Nat) : Pull :=
  if p = 6 ∧ (strobing s && (strobe || strobeHeld s)) = true then .up else .none

/-- The pull of pin `p` outside a hold; analogue and differential pins have none (14 R476, R477). -/
def ownPull (s : State) (p : Nat) : Pull :=
  if padWithBackup s p then backupPull false s p
  else if padAtBoot s then .down
  else if pinAnalog s p || pinDiff s p then .none
  else match bits (pinWord s p 0) 3 2 with
    | 1 => .up
    | 2 => .down
    | _ => .none

/-- What pad `p` drives: a held pad its hold latch, every other pad its output stage; without VIO, none (14 R478,
R486, R501). A pad held after BACKUP drives its latch until the first commit in RETIRED too (log entry 102). -/
def padDrive (s : State) (p : Nat) : Option Bool :=
  if !s.power.vio then none
  else if s.pin.held.getLsbD p then (if s.pin.holdOe.getLsbD p then some (s.pin.holdLevel.getLsbD p) else none)
  else if driverOn s p then some (outValue s p)
  else none

/-- The pull at pad `p`, a held pad's from its hold latch (14 R501), between strobes of the movement watch. -/
def padPull (s : State) (p : Nat) : Pull :=
  if s.pin.held.getLsbD p then
    (if s.pin.holdPullUp.getLsbD p then .up else if s.pin.holdPullDown.getLsbD p then .down else .none)
  else ownPull s p

/-- Bits of bank `b` given pin by pin. -/
def bankWord (b : Nat) (f : Nat → Bool) : Word :=
  (List.range 16).foldl (fun v i => putBit v i (f (16 * b + i))) 0

/-- PIN_INn (14 R487): a bank whose sampler is dead keeps its last sample (16 Table 16.7). -/
def pinInReg (s : State) (b : Nat) : Word :=
  bankWord b fun p => if domainDead s (203 + p / 16) then s.pin.sampled.getLsbD p else inputLevel s p

/-- PIN_OUTn (14 R486). -/
def pinOutReg (s : State) (b : Nat) : Word := bankWord b (outValue s)

/-- A field of 64 pin bits read as bank `b`. -/
def bankOf (v : BitVec 64) (b : Nat) : Word := v.extractLsb' (16 * b) 16

/-! ### Data latches (14 R482-R485, 03 R108) -/

/-- The latches after value bits are loaded where `sel` selects. -/
def loadLatch (latch sel val : BitVec 64) : BitVec 64 := (latch &&& ~~~sel) ||| (val &&& sel)

/-- `p` may load these bits: no latch of a pin it does not own would change (03 R108). -/
def latchAllowed (s : State) (p : Party) (sel val : BitVec 64) : Bool :=
  (List.range 64).all fun i =>
    !sel.getLsbD i || val.getLsbD i == s.pin.latch.getLsbD i || mayWritePin s p i

/-- Loads latches. -/
def writeLatch (sel val : BitVec 64) (s : State) : State :=
  { s with pin := { s.pin with latch := loadLatch s.pin.latch sel val } }

/-- The selection and the values of a write of PIN_DATAn. -/
def bankSel (b : Nat) (d : Word) : BitVec 64 × BitVec 64 :=
  (0xFFFF#64 <<< (16 * b), d.setWidth 64 <<< (16 * b))

/-- The selection and the values of a masked write of byte `byte` (03 R102). -/
def byteSel (byte : Nat) (mask value : BitVec 8) : BitVec 64 × BitVec 64 :=
  (mask.setWidth 64 <<< (8 * byte), value.setWidth 64 <<< (8 * byte))

/-! ### Interrupts (14 14.4) -/

/-- IMODE of pin `p`. -/
def imodeOf (s : State) (p : Nat) : Nat := bits (padWord s p 2) 0 3

/-- Pin `p` interrupts: past the boot state, digital, not the odd pin of a pair (14 R499). -/
def irqCapable (s : State) (p : Nat) : Bool :=
  s.boot.committed && !pinAnalog s p && !pinPaired s p

/-- A level mode whose level matches now (14 R491). -/
def levelIrq (s : State) (p : Nat) : Bool :=
  irqCapable s p && (imodeOf s p == 3 && inputLevel s p || imodeOf s p == 4 && !inputLevel s p)

/-- A change between two samples that the mode reports (14 Table 14.6). -/
def edgeIrq (s : State) (p : Nat) (old new : Bool) : Bool :=
  irqCapable s p && old != new && !s.pin.fresh.getLsbD p &&
    (match imodeOf s p with
     | 0 => new
     | 1 => old
     | 2 => true
     | _ => false)

/-- 64 bits given pin by pin. -/
def pinBits (f : Nat → Bool) : BitVec 64 := (List.range 64).foldl (fun v i => putBit v i (f i)) 0

/-- A sample of every bank (14 R489, R491, R492); a bank whose sampler is dead holds, and waits for its first sample after
a change of IMODE (16 Table 16.7). -/
def samplePins (s : State) : State :=
  let held := fun p => domainDead s (203 + p / 16)
  { s with pin := { s.pin with
    irq := s.pin.irq ||| pinBits fun p =>
      !held p && (edgeIrq s p (s.pin.sampled.getLsbD p) (inputLevel s p) || levelIrq s p)
    sampled := pinBits fun p => if held p then s.pin.sampled.getLsbD p else inputLevel s p
    fresh := s.pin.fresh &&& pinBits held } }

/-- PIN_INPUT_CHANGE (14 R489): the pads of bank `bank` have these levels. -/
def pinInputChange (bank : Fin 4) (levels : Word) (s : State) : State :=
  let x := bankSel bank.val levels
  let s' := { s with pin := { s.pin with level := loadLatch s.pin.level x.1 x.2 } }
  if running s || s.power.phase == .boot then samplePins s' else s'

/-- See `pinInputChange`. -/
def execPinInputChange (bank : Fin 4) (levels : Word) (s : State) : Host.Outcome State Fault Refusal :=
  .next (pinInputChange bank levels s)

/-- A read of PIN_IRQn clears the bits it captured; a level that persists sets its bit again (14 R491). -/
def clearPinIrq (b : Nat) (s : State) : State :=
  let keep := s.pin.irq &&& ~~~(0xFFFF#64 <<< (16 * b))
  { s with pin := { s.pin with
    irq := keep ||| pinBits fun p => !domainDead s (203 + p / 16) && levelIrq s p } }

/-- SYS_IRQSUM.PIN (02 Table 2.9). -/
def pinIrqSum (s : State) : Bool := s.pin.irq &&& s.pin.irqEn != 0

/-- The pins after their configuration took effect: a changed IMODE or the end of the boot state restarts edge
detection (14 R492, R499, R504), and an external trip input that a new route changes has its 30 ns to stand again (09
Table 9.4). -/
def pinsSwapped (old s : State) : State :=
  let fresh := pinBits fun p =>
    !old.boot.committed || imodeOf old p != imodeOf s p
  let same := fun (v : BitVec 4) => (List.range 4).foldl (fun v k =>
    if inputSignal old (24 + k) = inputSignal s (24 + k) then v else clearBit v k) v
  let s := { s with pin := { s.pin with
    fresh := s.pin.fresh ||| fresh
    extHigh := same s.pin.extHigh, extLow := same s.pin.extLow
    held := if old.boot.committed then s.pin.held else 0 } }
  samplePins s

/-! ### The pin lock (14 14.5) -/

/-- The pins a write of PIN_LOCK names. -/
def lockPins (d : Word) : List Nat :=
  (List.range 8).filterMap fun i => if bit d i then some (8 * bits d 8 3 + i) else none

/-- A word of space 0x09 belongs to the frozen configuration of pin `p` in a store (14 R497): its block but
DATA, and the selector words that route to it. -/
def routesTo (m : WordMem) (a p : Nat) : Bool :=
  decide (0x200 ≤ a ∧ a < 0x224) && bit (m.get (cfgKey 9 a)) 7 && bits (m.get (cfgKey 9 a)) 0 6 == p

/-- A word of space 0x09 is frozen (14 R497). -/
def frozenWord (s : State) (a : Nat) : Bool :=
  if a < 0x200 then a % 8 != 4 && s.pin.locked.getLsbD (a / 8)
  else (List.range 64).any fun p => s.pin.locked.getLsbD p && routesTo s.cfg.running a p

/-- A shadow word of pin `p` differs from the running word (14 R496). -/
def pinEdited (s : State) (p : Nat) : Bool :=
  let differs := fun a => shadowWord s 9 a != runWord s 9 a
  ((List.range 8).any fun w => w != 4 && differs (8 * p + w)) ||
    (List.range 36).any fun i =>
      differs (0x200 + i) && (routesTo s.cfg.running (0x200 + i) p || routesTo s.cfg.shadow (0x200 + i) p)

/-- An accepted write of PIN_LOCK. -/
def lockThem (d : Word) (s : State) : State :=
  { s with pin := { s.pin with locked := (lockPins d).foldl setBit s.pin.locked } }

/-! ### SLEEP and BACKUP (14 14.6) -/

/-- Pads are held after a boot that ended BACKUP, until the first commit (14 R504). -/
def backupHold (s : State) : Bool := s.boot.bootStat.getLsbD 12 && !s.boot.committed

/-- Every pin that is not active latches its output level, enable and pull (14 R501); a pad that is held already
keeps its latch. -/
def holdPins (s : State) : State :=
  let keep := fun (old : BitVec 64) (f : Nat → Bool) => pinBits fun p =>
    !activePin s p && (if s.pin.held.getLsbD p then old.getLsbD p else f p)
  { s with pin := { s.pin with
    held := pinBits fun p => !activePin s p
    holdLevel := keep s.pin.holdLevel (outValue s)
    holdOe := keep s.pin.holdOe (driverOn s)
    holdPullUp := keep s.pin.holdPullUp fun p => ownPull s p == .up
    holdPullDown := keep s.pin.holdPullDown fun p => ownPull s p == .down } }

/-- The holds of SLEEP release (14 R503). -/
def releasePins (s : State) : State :=
  if backupHold s then s else { s with pin := { s.pin with held := 0 } }

/-- FIRMWARE_SIGNAL_UPDATE (14 R480, Table 14.2): healthy, heartbeat (inverting every 50 ms), gang formed, time
locked. -/
def execFirmwareSignalUpdate (s : State) : Host.Outcome State Fault Refusal :=
  if awake s then
    let healthy := s.flt.stat == 0 && allAxes.all fun n => !axisDown s n
    let beat := s.now / 10000000 % 2 == 1
    .next { s with pin := { s.pin with
      fw := putBit (putBit (putBit (putBit 0 0 healthy) 1 beat) 2 (gangFormed s)) 3 (!timeFree s) } }
  else .next s

/-- The pins that HELD and PIN_LOCKEDn show as held: those of a boot that ended BACKUP (14 R504). -/
def heldReg (s : State) : BitVec 64 := if backupHold s then s.pin.held else 0

/-! ### Space 0x09 (14 Tables 14.5, 14.7) -/

/-- A word of space 0x09 that is not Commit-class: a data latch, HELD, RXFAULT. -/
def pinSpaceLive (s : State) (a : Nat) : Word :=
  if a < 0x200 then flagBit (s.pin.latch.getLsbD (a / 8)) 0
  else if a < 0x284 then bankOf (heldReg s) (a - 0x280)
  else s.pin.rxFault.setWidth 16

end Sys2Proof.Machine
end

