-- ==== Sys2Proof/Machine/Store.lean ====
section
/-! DEFINITION. The record store (chapter 17): banks, counters, staging, STORE_CMD and its completions. -/

namespace Sys2Proof.Machine

/-! ### Words of the store -/

/-- Store word `w`. -/
def storeWord (s : State) (w : Nat) : Word := s.store.mem.get w

/-- Changes the store memory. -/
def modStore (f : WordMem → WordMem) (s : State) : State := { s with store := { s.store with mem := f s.store.mem } }

/-- The area of a store word (17 Table 17.1). -/
def storeArea (w : Nat) : Nat :=
  if w < 0x4000 then 0 else if w < 0x8000 then 1 else if w < 0xA000 then 2 else if w < 0xE000 then 3 else 4

/-- A write of the store fails its verify: code 0x81aa and test kind 10 (17 R587). -/
def verifyFault (area : Nat) (s : State) : State :=
  if s.power.phase = .boot then bootFault (faultCode 0x81 area) [⟨10, 0⟩] s
  else raiseFault (faultCode 0x81 area) [⟨10, 0⟩] 0xFFFF 0 s

/-- Store words in the order in which they are written, each with its address. -/
abbrev StoreJob := List (Nat × Word)

/-- Words `ws` from word `k`, ascending. -/
def ascending (k : Nat) (ws : List Word) : StoreJob := ws.zipIdx.map fun x => (k + x.2, x.1)

/-- A job that a reset or a loss of supply cuts: the words written so far stand whole (17 R586). How many they are is a
free value (log entry 21). -/
def cutJob (l : StoreJob) (s : State) : State :=
  if l.isEmpty then s
  else
    let d := drawFree s
    modStore (fun m => m.putCells (l.take ((Config.unstated 600 d.1).toNat % (l.length + 1)))) d.2

/-- A job that ends with a word that fails its verify (17 R587): the words before it have landed, and those after it are
not written. Which word fails, and what it then holds, are free values (log entry 21). -/
def failJob (l : StoreJob) (s : State) : State :=
  let d := drawFree s
  let i := (Config.unstated 601 d.1).toNat % l.length
  let a := (l.getD i (0, 0)).1
  verifyFault (storeArea a)
    (modStore (fun m => (m.putCells (l.take i)).put a (loWord (Config.unstated 602 d.1))) d.2)

/-- A job ends, with every word verified or not. -/
def endJob (verified : Bool) (l : StoreJob) (s : State) : State :=
  if verified then modStore (fun m => m.putCells l) s else failJob l s

/-- The entry is classified or recorded, so that it may be written. -/
def LogEntry.settled (e : LogEntry) : Bool := e.result.isSome && e.units.isEmpty

/-- A fault-log entry is due to be written. -/
def logDue (s : State) : Bool :=
  match s.flt.cache with
  | e :: _ => e.settled
  | [] => false

/-- A store write of the class of fault-log entries (0), tally increments (1), staging words (2) or bank words (3) may be
made: the store is in service (17 R629), and no write that goes before it is due (R588; log entry 112). -/
def mayStore (s : State) (cls : Nat) : Bool :=
  !storeOut s && (cls = 0 || !logDue s) && (cls ≤ 1 || s.store.waiting.isEmpty) &&
    (cls ≤ 2 || (allWindows s).all fun w =>
      match w.writing with
      | some x => x.1 / 65536 != 0x10
      | none => true)

/-! ### Banks (17 17.2) -/

/-- The first word of bank B (`true`) or A. -/
def bankBase (b : Bool) : Nat := if b then 0x4000 else 0

/-- The words that the CRC of a bank covers, STATE taken as 0x0002 (17 Table 17.3). -/
def bankCovered (img : List Word) : List Word := (img.take 6).set 1 2 ++ (img.drop 8)

/-- Words 0x000 to 0x2FF of a bank. -/
def bankImage (m : WordMem) (b : Bool) : List Word := m.slice (bankBase b) 0x300

/-- A bank is blank (17 R589). -/
def bankBlank (m : WordMem) (b : Bool) : Bool := (m.slice (bankBase b) 8).all (· == 0)

/-- A bank is valid (17 R589). -/
def bankValid (m : WordMem) (b : Bool) : Bool :=
  let img := bankImage m b
  img.getD 0 0 == 1 && img.getD 1 0 == 2 && crc32 (bankCovered img) == joinWords (img.getD 6 0) (img.getD 7 0)

/-- A bank is invalid (17 R589). -/
def bankInvalid (m : WordMem) (b : Bool) : Bool := !bankBlank m b && !bankValid m b

/-- SEQ of a bank. -/
def bankSeq (m : WordMem) (b : Bool) : DWord := m.get32 (bankBase b + 2)

/-- PRESENT of a bank. -/
def bankPresent (m : WordMem) (b : Bool) : Word := m.get (bankBase b + 5)

/-- The group of PRESENT that a word of space 0x07 belongs to (13 Table 13.13). -/
def coefGroup (a : Nat) : Nat := if a < 0x100 then 0 else if a < 0x140 then 1 else if a < 0x170 then 2 else 3

/-- The words of a bank in the order of R594: STATE 0x0001, every other word ascending, the CRC, STATE 0x0002. -/
def bankJob (target : Bool) (img : List Word) : StoreJob :=
  let b := bankBase target
  let l := ascending b img
  (b + 1, 1) :: (l.filter fun w => w.1 != b + 1 && w.1 != b + 6 && w.1 != b + 7)
    ++ [(b + 6, img.getD 6 0), (b + 7, img.getD 7 0), (b + 1, 2)]

/-- The words of a bank that have landed when its CALSTORE is accepted: STATE, FORMAT and SEQ, so that the target is
invalid with the higher SEQ from then on (R594; log entry 60). -/
def bankHead : Nat := 4

/-- The image a CALSTORE writes, with STATE 0x0002 and its CRC (17 R593). -/
def calImage (s : State) (arg : BitVec 12) : List Word :=
  let old := if s.store.norec then [] else bankImage s.store.mem s.store.bank
  let oldP := old.getD 5 0
  let hasId := arg.getLsbD 4 && !bit (runReg s 0x022) 15
  let present := (List.range 5).foldl (fun v g =>
    putBit v g (if g = 4 then hasId || (!arg.getLsbD 4 && bit oldP 4) else arg.getLsbD g || bit oldP g)) (0 : Word)
  let seq : DWord := if s.store.norec then 1 else s.store.seq + 1
  let id : Word := if hasId then keepLow (runReg s 0x022) 10 else if bit present 4 then old.getD 8 0 else 0
  let coef := (List.range 0x180).map fun a =>
    if arg.getLsbD (coefGroup a) then s.cnv.coef.get a
    else if bit oldP (coefGroup a) then old.getD (0x100 + a) 0
    else 0
  let body := id :: List.replicate 0xF7 0 ++ coef ++ List.replicate 0x80 0
  let head := [1, 2, loWord seq, hiWord seq, Config.romRel, present]
  let crc := crc32 (head ++ body)
  head ++ [loWord crc, hiWord crc] ++ body

/-! ### Counters (17 17.3) -/

/-- A cell of a counter: its four words (17 R596). -/
def tallyCellAt (m : WordMem) (c i : Nat) : List Word := m.slice (0x8000 + 32 * c + 4 * i) 4

/-- A cell is blank. -/
def cellBlank (l : List Word) : Bool := l.all (· == 0)

/-- A cell is valid (17 R596). -/
def cellValid (l : List Word) : Bool := !cellBlank l && crc16 (l.take 3) == l.getD 3 0

/-- SEQ `b` is later than SEQ `a` (17 R597). -/
def seqLater (a b : Word) : Bool := decide (1 ≤ (b - a).toNat) && decide ((b - a).toNat ≤ 32767)

/-- The newest cell of a counter: index, value, SEQ (17 R597). -/
def newestCell (m : WordMem) (c : Nat) : Option (Nat × DWord × Word) :=
  (List.range 8).foldl (fun best i =>
    let l := tallyCellAt m c i
    if !cellValid l then best
    else
      let v := (i, joinWords (l.getD 0 0) (l.getD 1 0), l.getD 2 0)
      match best with
      | none => some v
      | some b => if seqLater b.2.2 v.2.2 then some v else best) none

/-- The reading of counter `c` (17 R597). -/
def counterValue (m : WordMem) (c : Nat) : DWord :=
  match newestCell m c with
  | some b => b.2.1
  | none => 0

/-- The cell that the next increment of counter `c` writes, and what it counts from (17 R598). -/
def nextCell (m : WordMem) (c : Nat) : Nat × Nat × Word :=
  match newestCell m c with
  | some b => ((b.1 + 1) % 8, b.2.1.toNat, b.2.2)
  | none => (0, 0, 0)

/-- A counter fails its check (17 R599). -/
def counterFails (m : WordMem) (c : Nat) : Bool :=
  let bad := (List.range 8).filter fun i =>
    let l := tallyCellAt m c i
    !cellBlank l && !cellValid l
  decide (1 < bad.length) || bad.any fun i => i != (nextCell m c).1

/-- The words by which counter `c` grows by `k` in one cell, in the order VALUE_L, VALUE_H, CRC, SEQ (17 R598, R629). -/
def tallyJob (c k : Nat) (m : WordMem) : StoreJob :=
  let r := nextCell m c
  let b := 0x8000 + 32 * c + 4 * r.1
  let l := tallyCell (BitVec.ofNat 32 (min 0xFFFFFFFF (r.2.1 + k))) (r.2.2 + 1)
  [(b, l.getD 0 0), (b + 1, l.getD 1 0), (b + 3, l.getD 3 0), (b + 2, l.getD 2 0)]

/-- Counter `c` grows by `k`. -/
def bumpCounter (verified : Bool) (c k : Nat) (s : State) : State := endJob verified (tallyJob c k s.store.mem) s

/-- TALLY_STORE_WRITE (17 R598, R629): the counter that has waited longest is written. -/
def tallyStoreWrite (verified : Bool) (s : State) : State :=
  match s.store.waiting with
  | [] => s
  | w :: rest =>
    if mayStore s 1 then bumpCounter verified w.1 w.2 { s with store := { s.store with waiting := rest } } else s

/-- See `tallyStoreWrite`. -/
def execTallyStoreWrite (verified : Bool) (s : State) : Host.Outcome State Fault Refusal :=
  .next (tallyStoreWrite verified s)

/-- RUN_TIME_INCREMENT (17 Table 17.4): 360,000 ms of running have gathered. -/
def runTimeIncrement (n : Fin 8) (s : State) : State :=
  if s.axes[n].runTicks < 72000000000 then s
  else countTally n.val (modAxis n (fun a => { a with runTicks := a.runTicks - 72000000000 }) s)

/-- See `runTimeIncrement`. -/
def execRunTimeIncrement (ax : Fin 8) (s : State) : Host.Outcome State Fault Refusal := .next (runTimeIncrement ax s)

/-- Run time gathers at each angle-engine step. -/
def stepRunTime (s : State) : State :=
  forEach allAxes (fun n t =>
    if (axSt t n).driving then modAxis n (fun a => { a with runTicks := a.runTicks + 20 }) t else t) s

/-! ### Staging (17 17.5) -/

/-- A staging header: SEQ, SEALED, REQ, LOGBASE. -/
structure Header where
  seq : Word
  sealed : Word
  req : Word
  logBase : DWord
  deriving DecidableEq, Repr

/-- Header copy `c` is valid. -/
def headerValid (m : WordMem) (c : Nat) : Bool :=
  let l := m.slice (0xE000 + 16 * c) 16
  l.getD 0 0 == 1 && crc32 (l.take 14) == joinWords (l.getD 14 0) (l.getD 15 0)

/-- The content of header copy `c`. -/
def headerAt (m : WordMem) (c : Nat) : Header :=
  let b := 0xE000 + 16 * c
  { seq := m.get (b + 1), sealed := m.get (b + 2), req := m.get (b + 3), logBase := m.get32 (b + 4) }

/-- The current header and its copy (17 R606). -/
def currentHeader (m : WordMem) : Option (Nat × Header) :=
  match headerValid m 0, headerValid m 1 with
  | false, false => none
  | true, false => some (0, headerAt m 0)
  | false, true => some (1, headerAt m 1)
  | true, true =>
    if seqLater (headerAt m 0).seq (headerAt m 1).seq then some (1, headerAt m 1) else some (0, headerAt m 0)

/-- The header in force; nothing sealed without one (17 R606). -/
def headerOf (m : WordMem) : Header :=
  match currentHeader m with
  | some h => h.2
  | none => { seq := 0, sealed := 0, req := 0, logBase := 0 }

/-- The 16 words of a header. -/
def headerWords (h : Header) : List Word :=
  let l := [1, h.seq, h.sealed, h.req, loWord h.logBase, hiWord h.logBase] ++ List.replicate 8 (0 : Word)
  l ++ [loWord (crc32 l), hiWord (crc32 l)]

/-- The words of a header update: the other copy, SEQ plus 1, and its SEQ word last (17 R606). -/
def headerJob (h : Header) (m : WordMem) : StoreJob :=
  let x := match currentHeader m with
    | some (c, old) => (0xE000 + 16 * (1 - c), old.seq + 1)
    | none => (0xE000, 1)
  (ascending x.1 (headerWords { h with seq := x.2 })).filter (·.1 != x.1 + 1) ++ [(x.1 + 1, x.2)]

/-- A header update ends. -/
def writeHeader (verified : Bool) (h : Header) (s : State) : State := endJob verified (headerJob h s.store.mem) s

/-- The first word of a staging slot. -/
def slotBase (b : Bool) : Nat := if b then 0xE300 else 0xE100

/-- The sealed slot. -/
def sealedSlot (m : WordMem) : Option Bool :=
  match (headerOf m).sealed.toNat with
  | 1 => some false
  | 2 => some true
  | _ => none

/-- The slot a BEGIN works on (17 R607). -/
def workingSlot (m : WordMem) : Bool := sealedSlot m == some false

/-- A word of space 0x10 as read (17 R608). -/
def stagedWord (s : State) (a : Nat) : Word :=
  match s.store.session with
  | some h => storeWord s (slotBase h.2 + a)
  | none =>
    match sealedSlot s.store.mem with
    | some b => storeWord s (slotBase b + a)
    | none => 0

/-- A slot carries FORMAT 0x0001 and its CRC (17 R609). -/
def slotGood (m : WordMem) (b : Bool) : Bool :=
  let l := m.slice (slotBase b) 512
  l.getD 0 0 == 1 && crc32 (l.take 510) == joinWords (l.getD 510 0) (l.getD 511 0)

/-- The staging session of a Seam session ends with it (17 R610). -/
def endStagingOf (p : Party) (s : State) : State :=
  match s.store.session with
  | some h => if h.1 = p then { s with store := { s.store with session := none } } else s
  | none => s

/-! ### STORE_CMD (17 Table 17.8) -/

/-- SYS_LIFE reads FIELD or RETIRED. -/
def fieldLife (s : State) : Bool := decide (3 ≤ (s.boot.life.extractLsb' 0 3).toNat)

/-- The refusals of a STORE_CMD by owner and state, beside its key (17 R608-R611). -/
def storeCmdRefusals (s : State) (p : Party) (op : Nat) (arg : BitVec 12) : List Status :=
  (if 6 ≤ op then [.badAddr] else []) ++
  (if op = 3 then
    (match s.store.session with
     | some h => if h.1 = p then [] else [.notOwner]
     | none => [.refusedActive])
   else []) ++
  (if storeOut s || (op == 5 && arg.getLsbD 0 && fieldLife s) then [.refusedActive] else []) ++
  (if s.store.op.isSome then [.busy] else [])

/-- A command ends with a RESULT. -/
def storeDone (result : BitVec 3) (s : State) : State :=
  { s with store := { s.store with op := none, result := result, done := true } }

/-- An accepted CALSTORE: the first words of the bank land, the others until BANK_WRITE_DONE (17 R593, R594; log entry
60). -/
def calstore (arg : BitVec 12) (s : State) : State :=
  let target := !s.store.norec && !s.store.bank
  let img := calImage s arg
  let seq : DWord := joinWords (img.getD 2 0) (img.getD 3 0)
  modStore (fun m => m.putCells ((bankJob target img).take bankHead))
    { s with store := { s.store with op := some (.bank target img seq) } }

/-- An accepted SEAL (17 R609). -/
def sealSlot (s : State) : State :=
  match s.store.session with
  | none => s
  | some h =>
    if slotGood s.store.mem h.2 then
      { s with store := { s.store with
        op := some (.header (headerWords { headerOf s.store.mem with sealed := if h.2 then 2 else 1 }) true) } }
    else storeDone 2 s

/-- An accepted write of STORE_CMD. -/
def storeCmd (p : Party) (op : Nat) (arg : BitVec 12) (s : State) : State :=
  let s := { s with store := { s.store with done := false } }
  let h := headerOf s.store.mem
  match op with
  | 1 => calstore arg s
  | 2 => { s with store := { s.store with
      session := some (p, workingSlot s.store.mem), op := some (.begin (arg.getLsbD 0)) } }
  | 3 => sealSlot s
  | 4 => { s with store := { s.store with op := some (.header (headerWords { h with sealed := 0 }) false) } }
  | 5 => { s with store := { s.store with
      op := some (.header (headerWords { h with req := flagBit (arg.getLsbD 0) 0 }) false) } }
  | _ => s

/-- The header that a command in progress writes. -/
def Header.ofWords (words : List Word) : Header where
  seq := words.getD 1 0
  sealed := words.getD 2 0
  req := words.getD 3 0
  logBase := joinWords (words.getD 4 0) (words.getD 5 0)

/-- The words a slot holds when staging begins: the sealed copy's, or blank ones (17 R607). -/
def slotStart (m : WordMem) (copy : Bool) : List Word :=
  match copy, sealedSlot m with
  | true, some b => m.slice (slotBase b) 512
  | _, _ => List.replicate 512 0

/-- The words that the command in progress has still to write. -/
def opJob (s : State) : StoreJob :=
  match s.store.op with
  | some (.bank target img _) => (bankJob target img).drop bankHead
  | some (.begin copy) =>
    let slot := match s.store.session with
      | some h => h.2
      | none => workingSlot s.store.mem
    ascending (slotBase slot) (slotStart s.store.mem copy)
  | some (.header words _) => headerJob (Header.ofWords words) s.store.mem
  | none => []

/-- BANK_WRITE_DONE (17 R594). -/
def bankWriteDone (verified : Bool) (s : State) : State :=
  match s.store.op with
  | some (.bank target _ seq) =>
    if !mayStore s 3 then s
    else
      let s := endJob verified (opJob s) s
      if verified then
        storeDone 1 (countTally 0xC2 { s with store := { s.store with bank := target, norec := false, seq := seq } })
      else storeDone 3 s
  | _ => s

/-- See `bankWriteDone`. -/
def execBankWriteDone (verified : Bool) (s : State) : Host.Outcome State Fault Refusal :=
  .next (bankWriteDone verified s)

/-- STAGING_BEGIN_DONE (17 R607): the working slot is copied or cleared. -/
def stagingBeginDone (verified : Bool) (s : State) : State :=
  match s.store.op with
  | some (.begin _) =>
    if mayStore s 2 then storeDone (if verified then 1 else 3) (endJob verified (opJob s) s) else s
  | _ => s

/-- See `stagingBeginDone`. -/
def execStagingBeginDone (verified : Bool) (s : State) : Host.Outcome State Fault Refusal :=
  .next (stagingBeginDone verified s)

/-- HEADER_WRITE_DONE (17 R606, R609, R611). -/
def headerWriteDone (verified : Bool) (s : State) : State :=
  match s.store.op with
  | some (.header _ seals) =>
    if !mayStore s 2 then s
    else
      let s := endJob verified (opJob s) s
      if verified then storeDone 1 (if seals then { s with store := { s.store with session := none } } else s)
      else storeDone 3 s
  | _ => s

/-- See `headerWriteDone`. -/
def execHeaderWriteDone (verified : Bool) (s : State) : Host.Outcome State Fault Refusal :=
  .next (headerWriteDone verified s)

/-- STAGING_SESSION_TIMEOUT (17 R610). -/
def execStagingSessionTimeout (s : State) : Host.Outcome State Fault Refusal :=
  .next (if s.store.session.isSome then { s with store := { s.store with session := none, result := 4 } } else s)

/-- A word written to space 0x10 lands (17 R608, R629). -/
def writeStaged (a : Nat) (d : Word) (verified : Bool) (s : State) : State :=
  match s.store.session with
  | none => s
  | some h =>
    if storeOut s then s
    else endJob verified [(slotBase h.2 + a, d)] s

/-- STORE_STAT (17 Table 17.9). -/
def storeStatReg (s : State) : Word :=
  let t := s.store
  let h := headerOf t.mem
  flagBit t.op.isSome 0 ||| (t.result.setWidth 16 <<< 1) ||| flagBit t.rollback 4 ||| flagBit t.norec 5
    ||| flagBit t.bank 6 ||| flagBit t.session.isSome 7 ||| flagBit (h.sealed != 0) 8 ||| flagBit (bit h.req 0) 9
    ||| flagBit t.erased 10 ||| flagBit t.chkFail 11 ||| flagBit t.done 12 ||| flagBit (storeOut s) 13

end Sys2Proof.Machine
end

