-- ==== Sys2Proof/Machine/Backup.lean ====
section
/-! DEFINITION. The backup domain (17 17.7-17.9): RTC, movement watch, alarms, space 0x11. -/

namespace Sys2Proof.Machine

/-- Changes the backup domain, which nothing moves while it has no supply (17 R613, 18 R639). -/
def modBak (f : Backup → Backup) (s : State) : State := if bakAlive s then { s with bak := f s.bak } else s

/-! ### The RTC (17 R614) -/

/-- The RTC at an angle-engine step: 32,768 periods in 10,000,000 steps. -/
def stepRtc (s : State) : State :=
  modBak (fun b =>
    let x := b.frac + 32768
    if 10000000 ≤ x then { b with rtc := b.rtc + 1, frac := x - 10000000 } else { b with frac := x }) s

/-- Backup-clock periods pass while the angle engine does not step (log entry 5). -/
def passClock (s : State) : State :=
  if awake s then s else modBak (fun b => { b with rtc := rtcNow s }) (drawFree s).2

/-! ### Alarms (17 17.9) -/

/-- The module is in BACKUP or in boot. -/
def inBackupOrBoot (s : State) : Bool := s.power.phase != .run

/-- The record words of alarm `b` in space 0x11. -/
def recordWord (b : Nat) : Nat := 0x14 + 3 * b

/-- Writes the RTC into the record of alarm `b` when the record is 0 (17 R624). -/
def writeRecord (b : Nat) (m : WordMem) (rtc : BitVec 48) : WordMem :=
  if (m.slice (recordWord b) 3).all (· == 0) then
    m.putList (recordWord b) [rtc.extractLsb' 0 16, rtc.extractLsb' 16 16, rtc.extractLsb' 32 16]
  else m

/-- SLEEP ends: the module moves to RUN (01 Table 1.6). -/
def wake (s : State) : State :=
  if running s && s.power.pstate == .sleep && s.power.target.isNone then
    { s with power := { s.power with target := some .run } }
  else s

/-- Alarm `b` latches (17 R624, R625), which ends SLEEP (01 Table 1.6). One that latches again before its acknowledgement is
set, reported and logged again, and its record keeps the first time (log entry 41). -/
def latchAlarm (b : Nat) (s : State) : State :=
  if !bakAlive s then s
  else
    let asleep := running s && s.power.pstate == .sleep
    let s := modBak (fun k => { k with
      alarm := setBit k.alarm b
      since := setBit k.since b
      shown := clearBit k.shown b
      latched := true
      ram := writeRecord b k.ram k.rtc
      toLog := if asleep then setBit k.toLog b else k.toLog
      toLogBoot := if inBackupOrBoot s then setBit k.toLogBoot b else k.toLogBoot }) s
    if awake s then recordEntry (newEntry s (faultCode 0xB0 b) .error 0) 5 s else wake s

/-- The alarms that latched in SLEEP are logged once SYS_PSTATE reads RUN (17 R625). -/
def logSleepAlarms (s : State) : State :=
  let s' := forEach ((List.range 4).filter fun b => s.bak.toLog.getLsbD b)
    (fun b t => recordEntry (newEntry t (faultCode 0xB0 b) .error 0) 5 t) s
  modBak (fun k => { k with toLog := 0 }) s'

/-- BAK_ALARM.REPORTED (17 R627). -/
def alarmsReported (s : State) : Bool := s.bak.since != 0 && s.bak.shown &&& s.bak.since == s.bak.since

/-- VBAK_LOW_ALARM (17 Table 17.7). Without the main supplies no conversion shows VBAK, and the command itself says that
the alarm was armed again (log entry 54). -/
def vbakLow (s : State) : State :=
  if s.bak.vbakArmed || s.power.phase == .backup || s.power.phase == .off then
    latchAlarm 0 (modBak (fun b => { b with vbakArmed := false }) (passClock s))
  else s

/-- See `vbakLow`. -/
def execVbakLowAlarm (s : State) : Host.Outcome State Fault Refusal := .next (vbakLow s)

/-- COVER_ALARM (17 Table 17.7). -/
def execCoverAlarm (s : State) : Host.Outcome State Fault Refusal :=
  .next (if bit (watchWord s) 12 then latchAlarm 3 (passClock s) else s)

/-- ALARMN is driven low: an open-drain output powered from VBAK (17 R626). -/
def alarmnLow (s : State) : Bool := s.power.vbak && s.bak.latched

/-! ### The movement watch (17 17.8) -/

/-- The watch count: the high cell with its pending carry (17 R623). -/
def watchCount (b : Backup) : DWord := joinWords b.lo (b.hi + BitVec.ofInt 16 b.carry)

/-- One step of the count (17 R623). -/
def Backup.step (b : Backup) (up : Bool) : Backup :=
  if up then { b with lo := b.lo + 1, carry := if b.lo = 0xFFFF then b.carry + 1 else b.carry }
  else { b with lo := b.lo - 1, carry := if b.lo = 0 then b.carry - 1 else b.carry }

/-- The high cell takes the pending carry. -/
def Backup.applyCarry (b : Backup) : Backup := { b with hi := b.hi + BitVec.ofInt 16 b.carry, carry := 0 }

/-- MOVED is armed and its limit passed (17 Table 17.7). -/
def movedFar (s : State) : Bool :=
  let mthr := (s.bak.ram.get 0x11).toNat
  (s.power.phase == .backup || (running s && s.power.pstate == .sleep)) && mthr != 0 &&
    decide (mthr < (watchCount s.bak - s.bak.ref).toInt.natAbs)

/-- A strobe sample (17 R621, R623). -/
def strobeSample (ab : AbSample) (s : State) : State :=
  let b := s.bak
  let s := modBak Backup.applyCarry s
  let s' := modBak (fun k => { k with ab := ab, abKnown := true }) s
  if !b.abKnown then s'
  else match abStep b.ab.a b.ab.b ab.a ab.b (bit (b.ram.get 0x10) 4) with
    | none => latchAlarm 2 s'
    | some k => if k = 0 then s' else modBak (fun x => x.step (decide (0 < k))) s'

/-- WATCH_STROBE (17 R619, R621). MOVED latches when its limit is passed, and again only after the count came back within
it (log entry 41). -/
def watchStrobe (ab : AbSample) (s : State) : State :=
  if !strobing s then s
  else
    let far := movedFar s && s.bak.since.getLsbD 1
    let s := strobeSample ab (passClock s)
    if movedFar s && !far then latchAlarm 1 s else s

/-- See `watchStrobe`. -/
def execWatchStrobe (ab : AbSample) (s : State) : Host.Outcome State Fault Refusal := .next (watchStrobe ab s)

/-- WATCH_CARRY_APPLY (17 R623). -/
def execWatchCarryApply (s : State) : Host.Outcome State Fault Refusal := .next (modBak Backup.applyCarry s)

/-- The steps an interface counted from `old` to `s`, those of its bypass decoder among them. -/
def countedSteps (old s : State) (n : Fin 8) : Int :=
  (s.fb[n].count - old.fb[n].count).toInt + (s.fb[n].bypass - old.fb[n].bypass)

/-- The watch follows interface WIF (17 R618). -/
def watchFollow (old : State) (n : Fin 8) (s : State) : State :=
  if !watchOn s || watchItf s != n || !fbOn s n then s
  else
    let k := countedSteps old s n
    modBak (fun b =>
      let b := { b with ab := { a := s.fb[n].a, b := s.fb[n].b }, abKnown := true }
      if k = 0 then b else b.step (decide (0 < k))) s

/-- QUAD_EDGE (12 R412, R414): a disabled interface counts nothing. -/
def execQuadEdge (itf : Fin 8) (ab : AbSample) (sub : Nat) (s : State) : Host.Outcome State Fault Refusal :=
  .next (if fbOn s itf then reselect itf (watchFollow s itf (quadEdge itf ab sub s)) else s)

/-- At entry to strobing the reference is the AB state last seen by interface WIF, where it runs (17 R621). -/
def seeWatch (s : State) : State :=
  let f := s.fb[watchItf s]
  if watchOn s && !strobing s && fbOn s (watchItf s) then
    modBak (fun b => { b with ab := { a := f.a, b := f.b }, abKnown := true }) s
  else s

/-- A commit came into force, `old` being the state before: where it enables interface WIF and so ends strobing, the
interface's first sampled state is one more strobe sample; where it disables the interface, strobing begins (17 R621). -/
def watchSwapped (old : State) (s : State) : State :=
  let n := watchItf s
  if strobing old && !strobing s && awake s then
    strobeSample { a := inputSignal s n.val, b := inputSignal s (8 + n.val) } s
  else if strobing s && !strobing old then
    let b := (seeWatch old).bak
    modBak (fun k => { k with ab := b.ab, abKnown := b.abKnown }) s
  else s

/-- A commit came into force and changed the fingerprint while FORMED: alerts of kind 2 follow in 8 cycles, for the gang
the module was in (15 R552). -/
def fprintSwapped (old : State) (s : State) : State :=
  if gangFormed old && fprintReg old != fprintReg s then
    modSeam (fun m => { m with gang := { m.gang with configLeft := 8, configGang := gangNumber old } }) s
  else s

/-- What follows where committed words came into force, `old` being the state before. -/
def wordsSwapped (old : State) (s : State) : State := fprintSwapped old (watchSwapped old s)

/-- The domain enters SLEEP or BACKUP: the watch strobes, and the MOVED reference is the count (17 R621, Table 17.7). -/
def enterWatch (s : State) : State := modBak (fun b => { b with ref := watchCount b }) (seeWatch s)

/-! ### VBAK -/

/-- VBAK_LOSS (17 R613): below the reset threshold the domain stops, and with it what it alone kept (04 R121). -/
def execVbakLoss (s : State) : Host.Outcome State Fault Refusal :=
  let dead := s.power.phase == .backup || s.power.phase == .off
  .next { s with
    pin := { s.pin with held := if dead then 0 else s.pin.held }
    power := { s.power with
      vbak := false
      phase := if s.power.phase = .backup then .off else s.power.phase
      causes := if dead then 0 else s.power.causes }
    boot := { s.boot with rstCause := if dead then 0 else s.boot.rstCause } }

/-- BACKUP_DOMAIN_RESTART (17 R613): VBAK has returned, and the domain starts anew. -/
def execBackupDomainRestart (s : State) : Host.Outcome State Fault Refusal :=
  .next (if s.power.vbak then s
    else { s with
      bak := resetBackup
      power := { s.power with vbak := true } })

/-! ### BAK_CTRL and space 0x11 (17 Tables 17.10, 17.11) -/

/-- An accepted acknowledgement (17 R627). -/
def acknowledgeAlarms (s : State) : State :=
  modBak (fun b => { b with
    latched := false, since := 0, shown := 0, ref := watchCount b
    ram := b.ram.filter fun c => c.1 < 0x14 }) s

/-- A read of BAK_ALARM (17 R627). -/
def readAlarms (s : State) : State := modBak (fun b => { b with alarm := 0, shown := b.shown ||| b.alarm }) s

/-- BAK_ALARM. -/
def bakAlarmReg (s : State) : Word :=
  s.bak.alarm.setWidth 16 ||| flagBit s.bak.latched 8 ||| flagBit (alarmsReported s) 9

/-- More than four pins outside P4-P7 have WAKE 1 (14 R500). -/
def manyWakePins (s : State) : Bool :=
  decide (4 < ((List.range 16).filter fun p => !(4 ≤ p && p < 8) && bit (padWord s p 3) 0).length)

/-- The refusals of a write of word `a` of space 0x11 (17 R615, Table 17.10, 14 R500); GUARDED with its cause. -/
def bakWordRefusal (s : State) (a : Nat) (d : Word) : Option (Status × Nat) :=
  if 0x14 ≤ a then some (.guarded, 1)
  else if a = 0x10 ∧ bits d 5 3 = 7 then some (.guarded, 7)
  else if a = 0x10 ∧ (bit d 0 || bit d 12) = true ∧ manyWakePins s = true then some (.refusedActive, 0)
  else none

/-- A write of a word of space 0x11 takes effect. -/
def writeBakWord (a : Nat) (d : Word) (s : State) : State :=
  modBak (fun b => { b with ram := b.ram.put a d }) s

end Sys2Proof.Machine
end

