-- ==== Sys2Proof/Machine/Otp.lean ====
section
/-! DEFINITION. The one-time memory (chapter 05): reading, locks, programming, spare rows, the life cycle and the
firmware information of space 0x0E. -/

namespace Sys2Proof.Machine

/-- Changes the OTP. -/
def modOtp (f : Otp → Otp) (s : State) : State := { s with otp := f s.otp }

/-! ### Rows and words (05 5.1, 5.2) -/

/-- Redirection entry `i` burned, in its three copies, to name a logical row. -/
def burnRedir (i : Fin 16) (row : Nat) (t : Otp) : Otp :=
  { t with redir := t.redir.set i (t.redir[i].map fun c => c ||| BitVec.ofNat 9 (256 + row % 256)) }

/-- The OTP with a word burned to `w` where it reads. -/
def otpPut (a : Nat) (w : Word) (t : Otp) : Otp :=
  match spareOf t (a / 32) with
  | some i => { t with spares := t.spares.put (32 * i.val + a % 32) w }
  | none => { t with cells := t.cells.put a w }

/-- The region of a word (R158). -/
def otpRegion (a : Nat) : Nat := a / 512

/-- A word in a row that boot found unreadable and that no redirection entry names reads 0 for the rest of the boot
(R681). -/
def otpUsed (s : State) (a : Nat) : Word :=
  if s.boot.badRows.contains (a / 32) && (spareOf s.otp (a / 32)).isNone then 0 else otpRaw s.otp a

/-- A word of space 0x0D as a window or the Seam reads it (R162, R681). -/
def otpShown (s : State) (a : Nat) : Word :=
  if bit s.otp.rlock (otpRegion a) then 0 else otpUsed s a

/-! ### Life cycle (05 5.5) -/

/-- FIELDPROG_OFF as burned. -/
def fieldProgOff (s : State) : Bool := bit (otpUsed s 0x0C01) 0

/-- Test access, clock domain 214, is open (05 Table 5.6, R682). -/
def testAccessOpen (s : State) : Bool := lifeNow s ≤ 1

/-- The life-cycle state permits programming the whole of a region (05 Table 5.6, R188). -/
def regionOpen (s : State) (r : Nat) : Bool :=
  match lifeNow s with
  | 0 => [0, 1, 6].contains r
  | 1 => r ≤ 7
  | 2 => 2 ≤ r && r ≤ 11
  | 3 => (2 ≤ r && r ≤ 5) || (12 ≤ r && r ≤ 14 && !fieldProgOff s)
  | _ => false

/-- A word may be programmed (R163, R172). -/
def wordOpen (s : State) (a : Nat) : Bool :=
  !bit s.otp.wlock (otpRegion a) && a != 0x0C00 &&
    (regionOpen s (otpRegion a) || (lifeNow s == 3 && a == 0x0E01))

/-! ### Requests (05 5.3) -/

/-- The data phase waits for its word. -/
def otpDataOpen (t : Otp) : Bool := t.dataPhase.isSome && !t.fetching

/-- The LIFE word an advance to `target` leaves: both fuses of every pair up to it (R184). -/
def lifeWord (old : Word) (target : Nat) : Word :=
  (List.range 4).foldl (fun w i =>
    if lifeOf old ≤ i + 1 ∧ i + 1 ≤ target then w ||| ((3 : Word) <<< (2 * i)) else w) old

/-- The refusals of a write of OTP_CMD beside its key, with the GUARDED cause. An accepted PROGRAM opens the data phase
at once (R165), so a write during its fetch is a data word that comes too early (R170). -/
def otpRefusals (s : State) (d : Word) : List (Status × Nat) :=
  let busy := if s.otp.fetching || s.otp.op.isSome || s.otp.dead then [(Status.busy, 0)] else []
  if s.otp.dataPhase.isSome then
    let a := (s.otp.dataPhase.getD 0).toNat
    (if wordOpen s a then [] else [(.guarded, 5)]) ++ busy ++
      (if otpRaw s.otp a &&& ~~~d = 0 then [] else [(.cannotClear, 0)])
  else
    let arg := bits d 0 13
    (match bits d 13 3 with
    | 1 => if wordOpen s arg then [] else [(.guarded, 5)]
    | 2 => if regionOpen s (arg % 16) then [] else [(.guarded, 5)]
    | 3 => if regionOpen s (arg % 16) then [] else [(.guarded, 5)]
    | 4 =>
      let t := arg % 8
      if 4 < t then [(.badAddr, 0)]
      else if lifeNow s = 4 then [(.guarded, 5)]
      else (if t = 4 ∧ (allAxes.any fun n => !(axSt s n).atRest) = true then [(Status.stoppedOnly, 0)] else []) ++
        (if t < lifeNow s then [(Status.cannotClear, 0)] else [])
    | _ => [(.badAddr, 0)]) ++ busy

/-- A data word that is refused with its key closes the data phase (R167, R169, R171). -/
def otpRefused (st : Status) (s : State) : State :=
  if otpDataOpen s.otp && (st == .guarded || st == .cannotClear) then
    modOtp (fun t => { t with dataPhase := none }) s
  else s

/-- An accepted write of OTP_CMD. -/
def otpCmd (d : Word) (s : State) : State :=
  modOtp (fun t =>
    if otpDataOpen t then
      let a := t.dataPhase.getD 0
      if otpRaw t a.toNat = d then { t with dataPhase := none, result := 4 }
      else { t with dataPhase := none, op := some (.word a d) }
    else
      let arg := bits d 0 13
      match bits d 13 3 with
      | 1 => { t with dataPhase := some (BitVec.ofNat 13 arg), fetching := true }
      | 2 => { t with op := some (.lockWrite (BitVec.ofNat 4 arg)) }
      | 3 => { t with op := some (.lockRead (BitVec.ofNat 4 arg)) }
      | _ =>
        if lifeNow s = arg % 8 then { t with result := 4 }
        else { t with op := some (.advance (BitVec.ofNat 3 arg)) }) s

/-- OTP_FETCH_DONE (R165). -/
def execOtpFetchDone (s : State) : Host.Outcome State Fault Refusal :=
  .next (modOtp (fun t => { t with fetching := false }) s)

/-- OTP_DATA_PHASE_EXPIRY (R169). -/
def execOtpDataPhaseExpiry (s : State) : Host.Outcome State Fault Refusal :=
  .next (if otpDataOpen s.otp then modOtp (fun t => { t with dataPhase := none, result := 5 }) s else s)

/-! ### Burns and redirection (05 5.3, 5.4) -/

/-- Spare row `i` is blank. -/
def spareBlank (t : Otp) (i : Fin 16) : Bool := (t.spares.slice (32 * i.val) 32).all (· == 0)

/-- The eligible spare rows, ascending (R175). -/
def eligibleSpares (t : Otp) : List (Fin 16) :=
  (List.finRange 16).filter fun i => (redirRow t i).isNone && spareBlank t i

/-- A word whose burn did not take whole: some of the new bits are burned, which is a free value. -/
def halfBurned (a : Nat) (d : Word) (s : State) : State :=
  let r := drawFree s
  let old := otpRaw s.otp a
  modOtp (otpPut a (old ||| (d &&& loWord (Config.unstated 501 r.1)))) r.2

/-- A word whose burn a reset or a loss of supply meets is programmed whole or not at all (R173, 04 4.8): whether its
pulse had started is a free value. -/
def pulseCut (a : Nat) (d : Word) (s : State) : State :=
  let r := drawFree s
  if (Config.unstated 503 r.1).getLsbD 0 then modOtp (otpPut a (otpRaw s.otp a ||| d)) r.2 else r.2

/-- The words that a redirection programs into a spare: the failing row with the target word replaced. Programming takes
the stored words also of a row that boot could not read (log entry 101). -/
def rowCopy (t : Otp) (a : Nat) (d : Word) : List Word :=
  (List.range 32).map fun i => if i = a % 32 then d else otpRaw t (32 * (a / 32) + i)

/-- Spare `i` programmed with a row. -/
def fillSpare (i : Fin 16) (ws : List Word) (t : Otp) : Otp := { t with spares := t.spares.putList (32 * i.val) ws }

/-- A lock fuse whose burn failed its verify: its state and RESULT are free values (log entry 20). -/
def lockFailed (r : BitVec 4) (write : Bool) (s : State) : State :=
  let d := drawFree s
  let x := Config.unstated 502 d.1
  modOtp (fun t => { t with
    op := none
    result := x.extractLsb' 1 3
    wlock := if write && x.getLsbD 0 then setBit t.wlock r.toNat else t.wlock
    rlock := if !write && x.getLsbD 0 then setBit t.rlock r.toNat else t.rlock }) d.2

/-- OTP_BURN_DONE (R167, R187): the burn of a word or fuse ends. -/
def otpBurnDone (verified : Bool) (s : State) : State :=
  let word := fun (a : BitVec 13) (d : Word) =>
    if verified then modOtp (fun t => { otpPut a.toNat (otpRaw t a.toNat ||| d) t with op := none, result := 1 }) s
    else modOtp (fun t => { t with op := some (.redirect a d) }) (halfBurned a.toNat d s)
  match s.otp.op with
  | some (.word a d) => word a d
  | some (.advance t) => word 0x0C00 (lifeWord (otpRaw s.otp 0x0C00) t.toNat)
  | some (.lockWrite r) =>
    if verified then modOtp (fun t => { t with wlock := setBit t.wlock r.toNat, op := none, result := 1 }) s
    else lockFailed r true s
  | some (.lockRead r) =>
    if verified then modOtp (fun t => { t with rlock := setBit t.rlock r.toNat, op := none, result := 1 }) s
    else lockFailed r false s
  | _ => s

/-- OTP_REDIRECTION_DONE (R175, R176, R178, R180): `failedSpares` are spares whose verify failed on the way. -/
def otpRedirectionDone (failedSpares : List Nat) (s : State) : State :=
  match s.otp.op with
  | some (.redirect a d) =>
    let ws := rowCopy s.otp a.toNat d
    let list := eligibleSpares s.otp
    let bad := list.takeWhile fun i => failedSpares.contains i.val
    let s := modOtp (fun t => bad.foldl (fun u i => fillSpare i ws u) t) s
    match list.find? fun i => !failedSpares.contains i.val with
    | some i => modOtp (fun t =>
        { burnRedir i (a.toNat / 32) (fillSpare i ws t) with op := none, result := 2 }) s
    | none =>
      raiseFault (faultCode 0xA2 (a.toNat / 32)) [] 0xFFFF 0 (modOtp (fun t => { t with op := none, result := 3 }) s)
  | _ => s

/-- A redirection that a reset or a loss of supply meets: words already copied stay in the spare, and the row keeps its
place (R179). How many spares had failed before, and how many words had been copied into the next, are free values
(log entry 20). -/
def redirectionCut (a : Nat) (d : Word) (s : State) : State :=
  let r := drawFree s
  let x := (Config.unstated 504 r.1).toNat
  let ws := rowCopy s.otp a d
  let list := eligibleSpares s.otp
  let failed := x / 64 % (list.length + 1)
  let t := (list.take failed).foldl (fun t i => fillSpare i ws t) s.otp
  modOtp (fun _ => match list[failed]? with
    | some i => fillSpare i (ws.take (x % 64)) t
    | none => t) r.2

/-- A reset or a loss of supply ends the work of the OTP block: a pulse that has started completes unverified, a row
not yet redirected keeps its place and the spare stays dirty, the data phase is lost (R169, R173, R174, R179). -/
def otpReset (s : State) : State :=
  let s' := match s.otp.op with
    | some (.word a d) => pulseCut a.toNat d s
    | some (.advance t) => pulseCut 0x0C00 (lifeWord (otpRaw s.otp 0x0C00) t.toNat) s
    | some (.lockWrite r) => lockFailed r true s
    | some (.lockRead r) => lockFailed r false s
    | some (.redirect a d) => redirectionCut a.toNat d s
    | none => s
  modOtp (fun t => { t with op := none, dataPhase := none, fetching := false, result := 0, dead := false }) s'

/-! ### Registers (05 5.8) -/

/-- OTP_STAT (05 Table 5.14). -/
def otpStatReg (s : State) : Word :=
  let t := s.otp
  flagBit t.op.isSome 0 ||| flagBit t.fetching 1 ||| flagBit (otpDataOpen t) 2 ||| (t.result.setWidth 16 <<< 3)
    ||| BitVec.ofNat 16 (64 * lifeNow s + 512 * (eligibleSpares t).length)

/-- A redirection entry as word 0x030 + i of space 0x0E shows it. -/
def redirWord (t : Otp) (i : Fin 16) : Word :=
  match redirRow t i with
  | some row => row.setWidth 16 ||| 0x100
  | none => flagBit (!spareBlank t i) 9

/-- The number of set bits of a 64-bit map. -/
def countBits (v : BitVec 64) : Nat := ((List.range 64).filter fun i => v.getLsbD i).length

/-- Word `a` of space 0x0E (05 Table 5.15, R198). -/
def fwWord (s : State) (a : Nat) : Word :=
  match a with
  | 0x000 => Config.romRel
  | 0x001 => Config.romClass.setWidth 16
  | 0x002 => Config.romDalugMask
  | 0x003 => s.boot.dalugMask
  | 0x004 => s.boot.patch
  | 0x005 => BitVec.ofNat 16 (countBits s.boot.applied)
  | 0x006 => s.boot.codeRows.setWidth 16
  | 0x007 => s.boot.patchStat.setWidth 16
  | 0x008 => s.boot.failIndex
  | 0x020 => s.otp.wlock
  | 0x021 => s.otp.rlock
  | 0x022 => BitVec.ofNat 16 (lifeNow s)
  | 0x023 => otpUsed s 0x0C01
  | 0x040 => BitVec.ofNat 16 (eligibleSpares s.otp).length
  | _ =>
    if 0x00C ≤ a ∧ a ≤ 0x00F then s.boot.applied.extractLsb' (16 * (a - 0x00C)) 16
    else if 0x010 ≤ a ∧ a ≤ 0x017 then (Config.dalugRev (a - 0x010)).setWidth 16
    else if h : 0x030 ≤ a ∧ a ≤ 0x03F then redirWord s.otp ⟨a - 0x030, by omega⟩
    else 0

end Sys2Proof.Machine
end

