-- ==== Sys2Proof/Machine/FaultLog.lean ====
section
/-! DEFINITION. The fault log, acknowledgements and host tests (16 16.5, 16.7, 17 17.4). -/

namespace Sys2Proof.Machine

/-! ### Writing the log (16 R582, R583) -/

/-- The code of an origin (16 Table 16.5). -/
def Origin.code : Origin → Nat
  | .error => 0
  | .boot => 1
  | .host => 2
  | .ack => 3

/-- The four words of a 64-bit value, bits [15:0] first. -/
def words64 (v : BitVec 64) : List Word := (List.range 4).map fun i => v.extractLsb' (16 * i) 16

/-- The three words of a 48-bit value, bits [15:0] first. -/
def words48 (v : BitVec 48) : List Word := (List.range 3).map fun i => v.extractLsb' (16 * i) 16

/-- The 16 words of an entry with sequence number `seq` in the boot with EPOCH `epoch` (16 Table 16.5). -/
def entryWords (e : LogEntry) (seq : DWord) (epoch : Word) : List Word :=
  let w1 : Word := (e.result.getD 0).setWidth 16 ||| BitVec.ofNat 16 (8 * e.origin.code)
    ||| (e.repeats.setWidth 16 <<< 5) ||| flagBit e.merged 7 ||| flagBit e.free 8
  let l := [e.code, w1] ++ words64 e.time ++ words48 e.rtc
    ++ [e.axState, e.meas, e.firstFail, loWord seq, hiWord seq, epoch]
  l ++ [crc16 l]

/-- The log entry that the next write fills (17 R603). -/
def nextEntry (s : State) : Nat := if s.flt.empty then 0 else (s.flt.top.toNat + 1) % 1024

/-- The first store word of log entry `e` (17 R602). -/
def logBase (e : Nat) : Nat := 0xA000 + 16 * e

/-- The words of log entry `e`. -/
def logEntryAt (m : WordMem) (e : Nat) : List Word := m.slice (logBase e) 16

/-- The sequence number of an entry. -/
def entrySeq (l : List Word) : DWord := joinWords (l.getD 12 0) (l.getD 13 0)

/-- An entry was written and its CRC is correct (17 R603). -/
def entryGood (l : List Word) : Bool := l.any (· != 0) && crc16 (l.take 15) == l.getD 15 0

/-- The entries that fail the check of R603: written, with a wrong CRC, and anywhere but at the next position. -/
def badEntries (s : State) : List Nat :=
  (List.range 1024).filter fun e =>
    let l := logEntryAt s.store.mem e
    l.any (· != 0) && !entryGood l && e != nextEntry s

/-- FLT_COUNT from the sequence number of the newest entry (17 R604). -/
def logCount (m : WordMem) (seq : DWord) : Word :=
  BitVec.ofNat 16 (min 65535 (seq - (headerOf m).logBase).toNat)

/-- LOGSEQ after the increment made for the next entry (17 R602). -/
def nextSeq (s : State) : DWord := counterValue (s.store.mem.putCells (tallyJob 0xC1 1 s.store.mem)) 0xC1

/-- The words that log an entry: LOGSEQ, then the entry (17 Table 17.4, R602). -/
def entryJob (e : LogEntry) (s : State) : StoreJob :=
  tallyJob 0xC1 1 s.store.mem ++ ascending (logBase (nextEntry s)) (entryWords e (nextSeq s) s.boot.epoch)

/-- An entry lands in the log (16 R582, R583, 17 Table 17.4); the summary of a proof test sets PT_STAT.DONE (19
R672). -/
def writeEntry (verified : Bool) (e : LogEntry) (s : State) : State :=
  let seq := nextSeq s
  let n := nextEntry s
  let wrap := (s.store.mem.slice (logBase n) 16).any (· != 0)
  let s := endJob verified (entryJob e s) s
  if verified then
    let s := { s with flt := { s.flt with
      top := BitVec.ofNat 10 n, empty := false, count := logCount s.store.mem seq } }
    let summary := bits e.code 10 6 == 0x30 && !s.proof.running
    let s := if summary then { s with proof := { s.proof with done := true } } else s
    countTally (0x30 + bits e.code 12 4) (setFltStat 0 (if wrap then setFltStat 7 s else s))
  else s

/-- FAULT_LOG_WRITE: the oldest entry of the cache, once settled, is written; none while the store is lasting
(17 R629). -/
def faultLogWrite (verified : Bool) (s : State) : State :=
  match s.flt.cache with
  | [] => s
  | e :: rest =>
    if !mayStore s 0 || !e.settled then s
    else writeEntry verified e { s with flt := { s.flt with cache := rest } }

/-- See `faultLogWrite`. -/
def execFaultLogWrite (verified : Bool) (s : State) : Host.Outcome State Fault Refusal :=
  .next (faultLogWrite verified s)

/-! ### FLT_ACK and STEST_REQ (16 R573-R576) -/

/-- The unit a write of FLT_ACK or STEST_REQ names. -/
def namedUnit (d : Word) : TestUnit := ⟨bits d 0 4, bits d 4 8⟩

/-- The unit a write names does not exist. -/
def noSuchUnit (d : Word) : Bool := !(namedUnit d).wf

/-- The refusals of a write of FLT_ACK beside its key. -/
def ackRefusals (s : State) (d : Word) : List (Status × Nat) :=
  if !bit d 15 then []
  else
    let u := namedUnit d
    (if noSuchUnit d then [(.badAddr, 0)] else []) ++ (if isLasting s u then [] else [(.refusedActive, 0)]) ++
      (if isQueued s u then [(.busy, 0)] else [])

/-- An accepted write of FLT_ACK queues the re-test. -/
def ackFault (d : Word) (s : State) : State :=
  if bit d 15 then
    let u := namedUnit d
    queueTest { unit := u, code := testCode u, origin := .ack, proof := false, after := none } s
  else s

/-- A test of the unit is accepted in every state (16 R575). -/
def testAnytime (u : TestUnit) : Bool := u.kind == 3 || 9 ≤ u.kind || (u.kind == 8 && u.index == 8)

/-- The refusals of a write of STEST_REQ. -/
def stestRefusals (s : State) (d : Word) : List (Status × Nat) :=
  if !bit d 15 then []
  else
    let u := namedUnit d
    (if noSuchUnit d then [(.badAddr, 0)] else []) ++
      (if !testAnytime u && (unitAxes u).any (fun n => !bridgeOn s n || !(axSt s n).atRest) then
        [(.stoppedOnly, 0)] else []) ++
      (if isQueued s u then [(.busy, 0)] else [])

/-- The axis that a host test takes to TEST: the one of the unit's group in Table 16.2. -/
def testAxis (u : TestUnit) : Option (Fin 8) :=
  if h : (queueOf u).val < 8 then some ⟨(queueOf u).val, h⟩ else none

/-- Queues a host test, its axis in TEST (16 R576). -/
def hostTest (u : TestUnit) (proof : Bool) (s : State) : State :=
  let s := match testAxis u with
    | some n => if axSt s n = .ready then rewatch n (setState n .test s) else s
    | none => s
  queueTest { unit := u, code := testCode u, origin := .host, proof := proof, after := none } s

/-- An accepted write of STEST_REQ. -/
def requestTest (d : Word) (s : State) : State :=
  if bit d 15 then
    let u := namedUnit d
    hostTest u false { s with flt := { s.flt with stestReq := d &&& 0x8FFF, stestRes := stestResult u 0 } }
  else s

/-- STEST_RES (16 Table 16.11). -/
def stestResReg (s : State) : Word :=
  let u := namedUnit s.flt.stestReq
  if s.flt.stestReq = 0 ∨ bit s.flt.stestRes 0 = true then s.flt.stestRes
  else s.flt.stestRes ||| flagBit (isTesting s u) 2 ||| flagBit (isQueued s u && !isTesting s u) 3

/-- FLT_TOP (16 Table 16.8). -/
def fltTopReg (s : State) : Word := s.flt.top.setWidth 16 ||| flagBit s.flt.empty 15

end Sys2Proof.Machine
end

