-- ==== Sys2Proof/Machine/SelfTest.lean ====
section
/-! DEFINITION. The criteria of the targeted tests (16 R560, Table 16.2, 13 R466, R468): whether what a test measured
passes it. -/

namespace Sys2Proof.Machine

/-! ### Gate channels and supplies -/

/-- The stage current of a code in milliamperes (09 Table 9.1). -/
def stageCurrent (code : Nat) : Nat :=
  [500, 750, 1000, 1250, 1500, 2000, 2500, 3000, 3500, 4000, 5000, 6000, 7000, 8000, 9000, 10000].getD code 0

/-- The current that stage `i` of channel `k` is set to: ION1, ION2, IOFF1, IOFF2 (09 Table 9.11). -/
def stageSet (s : State) (k : Nat) (i : Fin 4) : Nat :=
  stageCurrent (bits (runWord s 8 (16 * k + i.val / 2)) (4 * (i.val % 2)) 4)

/-- A value lies within `tol` of what it should be. -/
def within (v want tol : Int) : Bool := decide ((v - want).natAbs ≤ tol.natAbs)

/-- The test of gate channel `k`: each stage within 15 % of its code, detection above DSTH and none below it, VGATE within
0.5 V of each rail, and the clamp. -/
def channelPasses (s : State) (k : Nat) (t : ChannelTest) : Bool :=
  let n : Fin 8 := Fin.ofNat 8 (k / 6)
  ((List.finRange 4).all fun i => t.stages.any fun r => r.stage == i) &&
    (t.stages.all fun r => within (100 * r.current) (100 * stageSet s k r.stage) (15 * stageSet s k r.stage)) &&
    t.above && !t.below && within t.onGate (railOf s n true).toInt 5 && within t.offGate (railOf s n false).toInt 5 && t.clamp

/-- The magnitude in millivolts below which a rail of a bridge is undervoltage (09 Table 9.3). -/
def railThreshold (s : State) (n : Fin 8) (on : Bool) : Nat :=
  match bit (bridgeWord s n) 1, on with
  | false, true => 12500
  | false, false => 6000
  | true, true => 15500
  | true, false => 2500

/-- The test of gate supply `i`: each rail within 5 % of its profile value, each comparator within 0.2 V of its
threshold. -/
def supplyPasses (s : State) (i : Nat) (t : SupplyTest) : Bool :=
  let n : Fin 8 := Fin.ofNat 8 (i / 4)
  let rail := fun on => 100 * (railOf s n on).toInt
  within (100 * t.onRail) (100 * rail true) (5 * rail true) && within (100 * t.offRail) (100 * rail false) (5 * rail false) &&
    within t.onTrip (railThreshold s n true) 200 && within t.offTrip (railThreshold s n false) 200

/-! ### Converters (13 R466, R468) -/

/-- A conversion of the test of a SAR or witness converter with pair `p`, fed by test DAC `n`: within 12 LSB of four times
the code. -/
def sarReadingOk (s : State) (p : Pair) (n : Fin 8) (r : TestReading) : Bool :=
  let y := (correctCode p (rawCode (dacVoltsAt s n (testLevel r.level.val) + 1024 * r.dev))).1
  within y.toNat (4 * (testLevel r.level.val).toNat) 12

/-- The densities of the pattern of a demodulator's test in current units: +50 %, 0, -50 %. -/
def testDensity (i : Nat) : Int :=
  match i with
  | 0 => 16384
  | 1 => 0
  | _ => -16384

/-- A pattern of the test of demodulator `d`, through both its filters: the main path within 64 units of its density, the
fast path within 512 units of the main path. -/
def patternOk (s : State) (d : Nat) (r : PatternReading) : Bool :=
  let p := pairAt s (0x140 + 2 * d)
  let k := mainDecimation s (Fin.ofNat 24 d)
  let y := (correctFlow p (32768 * sincSum 3 k r.stream) (k ^ 3)).1
  let f := (correctFlow p (32768 * sincSum 2 8 r.stream) 64).1
  within y (testDensity r.level.val) 64 && within f y 512

/-- Each level of a test of a converter was converted four times. -/
def levelsDone (l : List TestReading) : Bool :=
  (List.finRange 3).all fun i => (l.filter fun r => r.level == i).length == 4

/-- Each density of the test of a demodulator was applied. -/
def patternsDone (l : List PatternReading) : Bool := (List.finRange 3).all fun i => l.any fun r => r.level == i

/-! ### The other units -/

/-- The change of count and the phase errors that an interface finds in a train of AB states (12 Table 12.1). -/
def generated (inv : Bool) : List AbSample → Int × Nat
  | x :: y :: l =>
    let r := generated inv (y :: l)
    match abStep x.a x.b y.a y.b inv with
    | some k => (r.1 + k, r.2)
    | none => (r.1, r.2 + 1)
  | _ => (0, 0)

/-- The checks of an area of the store are correct (17 R589, R599, R603): a bank blank, valid or just being written, no
counter and no log entry that fails. -/
def areaGood (s : State) (area : Nat) : Bool :=
  let bank := fun b => !bankInvalid s.store.mem b ||
    (match s.store.op with
     | some (.bank target _ _) => target == b
     | _ => false)
  match area with
  | 0 => bank false
  | 1 => bank true
  | 2 => (List.range 256).all fun i => !counterFails s.store.mem i
  | 3 => (badEntries s).isEmpty
  | _ => true

/-- What a test of unit `u`, queued under `code`, measured passes it; a run of another kind measured nothing of it. -/
def testPasses (s : State) (u : TestUnit) (code : Word) (t : TestRun) : Bool :=
  t.fits u.kind &&
  match t with
  | .channel r => channelPasses s u.index r
  | .supply r => supplyPasses s u.index r
  | .converter l =>
    levelsDone l &&
      (if u.kind = 2 then l.all (sarReadingOk s (pairAt s (16 * u.index + 10)) (Fin.ofNat 8 (u.index / 2)))
       else l.all (sarReadingOk s (pairAt s (0x100 + 16 * u.index + 8)) (Fin.ofNat 8 (2 * u.index))))
  | .demodulator l => patternsDone l && l.all (patternOk s u.index)
  | .feedback gen count phase =>
    gen.length == 257 && generated (bit (fbWord s (Fin.ofNat 8 u.index)) 1) gen == (count, phase)
  | .overCurrent changedAt delayNs =>
    changedAt == (tripWord s (Fin.ofNat 8 (u.index / 3)) 1).toNat && decide (delayNs ≤ 1200)
  | .dcLink ov uv =>
    let n : Fin 8 := Fin.ofNat 8 u.index
    ov == bits (tripWord s n 2) 0 12 && uv == bits (tripWord s n 3) 0 12
  | .engine results => results.length == 256 && results.all fun r => r.1 == r.2
  | .seamPort frames linkUp => frames.length == 64 && frames.all id && linkUp
  | .store wrote read => wrote == read && areaGood s (bits code 0 6)
  | .domain rates => rates.all fun r => 900 ≤ r && r ≤ 1100

end Sys2Proof.Machine
end

