-- ==== Sys2Proof/Machine/Reset.lean ====
section
/-! DEFINITION. Resets (04 4.1), the safety supervisor (16 16.6), supplies and power states (01 1.6). -/

namespace Sys2Proof.Machine

/-! ### What a reset does (04 R116, R119) -/

/-- A window write that a reset meets has landed or not, which is a free value (17 R586, R615). -/
def flushWindow (w : Window) (s : State) : State :=
  match w.writing with
  | none => s
  | some (k, d) =>
    let r := drawFree s
    if (Config.unstated 701 r.1).getLsbD 0 then
      if k / 65536 = 0x10 then writeStaged (k % 65536) d true r.2 else writeBakWord (k % 65536) d r.2
    else r.2

/-- Pads stay held through a boot: those held in BACKUP, until the first commit (14 R499, R504). -/
def keepsHold (s : State) : Bool := s.power.phase == .backup || (s.pin.held != 0 && backupHold s) ||
  (s.power.phase == .boot && s.pin.held != 0)

/-- The state in a reset: OTP, record store, backup domain and what the world outside holds stay; everything else
returns to its reset value (R119). The unread bits of SYS_RSTCAUSE stay, with or without VBAK (log entry 99). -/
def coldState (s : State) : State :=
  { State.reset with
    pending := s.pending
    free := s.free
    power := { s.power with phase := .boot, pstate := .run, target := none, pwrReq := 0 }
    boot := { resetBoot with
      rstCause := s.boot.rstCause, bootStat := 0, patch := 0, life := 0, compat := 0, dalugMask := 0
      setup := [], epoch := 0 }
    otp := s.otp
    chan := s.chan.map fun c => { resetChannel with temp := c.temp }
    sto := { resetSto with
      in1 := s.sto.in1, in2 := s.sto.in2, hw1 := s.sto.hw1, hw2 := s.sto.hw2
      low1 := !s.sto.in1, low2 := !s.sto.in2 }
    supv := { resetSupv with temp := s.supv.temp, vaux := s.supv.vaux, vbak := s.supv.vbak }
    pin := { resetPins with
      level := s.pin.level, sampled := s.pin.level, rxFault := s.pin.rxFault
      held := if keepsHold s then s.pin.held else 0
      holdLevel := s.pin.holdLevel, holdOe := s.pin.holdOe
      holdPullUp := s.pin.holdPullUp, holdPullDown := s.pin.holdPullDown }
    store := { resetStore with mem := s.store.mem, norec := false }
    bak := s.bak }

/-- The store writes under way that a reset or a loss of supply cuts (17 R586, R594, R598, R606): those of the command in
progress, and those of the log entry or the counter increment that is due. -/
def cutStore (s : State) : State :=
  if storeOut s then s
  else
    let s := cutJob (opJob s) s
    match s.flt.cache, s.store.waiting with
    | e :: _, w =>
      if e.settled then cutJob (entryJob e s) s
      else match w with
        | x :: _ => cutJob (tallyJob x.1 x.2 s.store.mem) s
        | [] => s
    | [], x :: _ => cutJob (tallyJob x.1 x.2 s.store.mem) s
    | [], [] => s

/-- The module resets with the given causes (04 R116, R118, R121). The movement watch strobes from then on (17 R621). -/
def enterReset (cause : BitVec 5) (s : State) : State :=
  let s := otpReset (cutStore ((allWindows s).foldl (fun t w => flushWindow w t) (seeWatch s)))
  let s := coldState s
  { s with power := { s.power with causes := s.power.causes ||| cause } }

/-- The module is supplied: it runs or boots. -/
def supplied (s : State) : Bool := running s || s.power.phase == .boot

/-- A supervisor reset decision (04 Table 4.1, 16 R578). -/
def supvReset (reason : BitVec 4) (s : State) : State :=
  if supplied s then
    let s := enterReset 4 s
    { s with power := { s.power with reason := reason } }
  else s

/-- A host request, or a verified advance to RETIRED (04 R120, 05 R186). -/
def hostReset (s : State) : State := enterReset 8 s

/-! ### Reset commands -/

/-- RSTN_RESET (04 R117): the low on RSTN lasted `lowNs`. -/
def rstnReset (lowNs : Nat) (s : State) : State :=
  if !supplied s || lowNs < 100 then s
  else if 1000 ≤ lowNs then enterReset 2 s
  else
    let r := drawFree s
    if Config.rstnShort r.1 then enterReset 2 r.2 else r.2

/-- See `rstnReset`. -/
def execRstnReset (lowNs : Nat) (s : State) : Host.Outcome State Fault Refusal := .next (rstnReset lowNs s)

/-- POWER_ON_RESET (04 Table 4.1, R121): both supplies stand; `rstn` tells that RSTN was low (4.8). A backup domain that
had no supply starts anew (17 17.11). -/
def powerOnReset (rstn : Bool) (s : State) : State :=
  if s.power.phase = .off then
    enterReset (if rstn then 3 else 1) { s with
      power := { s.power with vaux := true, vio := true }
      bak := if s.power.vbak then (passClock s).bak else resetBackup
      free := if s.power.vbak then (passClock s).free else s.free }
  else s

/-- See `powerOnReset`. -/
def execPowerOnReset (rstn : Bool) (s : State) : Host.Outcome State Fault Refusal := .next (powerOnReset rstn s)

/-- BACKUP_END (01 R33, 04 Table 4.1). -/
def backupEnd (s : State) : State :=
  if s.power.phase = .backup then
    enterReset 16 (passClock { s with power := { s.power with vaux := true, vio := true } })
  else s

/-- See `backupEnd`. -/
def execBackupEnd (s : State) : Host.Outcome State Fault Refusal := .next (backupEnd s)

/-- What was in progress when the supplies went stops: OTP and store work (05 R179, 17 R594), and the increments and
log entries that still waited in SRAM. -/
def dropWork (s : State) : State :=
  let s := otpReset (cutStore s)
  { s with
    store := { s.store with op := none, waiting := [], session := none }
    flt := { s.flt with cache := [] } }

/-- SUPPLY_LOSS (01 R39, 14 R501): gate drive goes in hardware, and the module enters BACKUP, or powers down
without VBAK, and with it go the hold latches. -/
def supplyLoss (rail : Rail) (s : State) : State :=
  let p := match rail with
    | .vaux => { s.power with vaux := false }
    | .vio => { s.power with vio := false }
  if !supplied s then { s with power := p }
  else if s.power.vbak then
    let s := dropWork (enterWatch (holdPins s))
    { s with power := { p with phase := .backup, target := none } }
  else
    let s := dropWork s
    { s with
      power := { p with phase := .off, target := none, causes := 0 }
      pin := { s.pin with held := 0 }
      boot := { s.boot with rstCause := 0 } }

/-- See `supplyLoss`. -/
def execSupplyLoss (rail : Rail) (s : State) : Host.Outcome State Fault Refusal := .next (supplyLoss rail s)

/-- BOOT_WATCH_TIMEOUT (04 R122). -/
def execBootWatchTimeout (s : State) : Host.Outcome State Fault Refusal :=
  .next (if s.power.phase = .boot then supvReset 3 s else s)

/-! ### OTP burns that end in a reset (05 R186) -/

/-- The burn that ended was an advance to RETIRED. -/
def retires (s : State) : Bool :=
  match s.otp.op with
  | some (.advance t) => t == 4
  | _ => false

/-- The redirection in progress carries a LIFE word of RETIRED. -/
def retiresBySpare (s : State) : Bool :=
  match s.otp.op with
  | some (.redirect a d) => a == 0x0C00 && lifeOf d == 4
  | _ => false

/-- The bridges take the permission of the state that the LIFE fuses now show (05 R187, Table 5.6). -/
def takePermissions (s : State) : State :=
  let l := lifeNow s
  { s with boot := { s.boot with bridgeOff := if l = 0 ∨ l = 4 then BitVec.allOnes 8 else s.boot.dieOff } }

/-- OTP_BURN_DONE (05 R167, R186, R187). A burn of LIFE that failed its verify may have burned a fuse of a pair, which
is enough for the state it stands for (05 R181). -/
def execOtpBurnDone (verified : Bool) (s : State) : Host.Outcome State Fault Refusal :=
  let t := otpBurnDone verified s
  .next (match s.otp.op with
    | some (.advance _) => if verified && retires s then hostReset t else takePermissions t
    | _ => t)

/-- OTP_REDIRECTION_DONE (05 R175, R186, R187). -/
def execOtpRedirectionDone (failedSpares : List Nat) (s : State) : Host.Outcome State Fault Refusal :=
  let t := otpRedirectionDone failedSpares s
  .next (match s.otp.op with
    | some (.redirect a _) =>
      if t.otp.result = 2 ∧ retiresBySpare s = true then hostReset t
      else if a = 0x0C00 then takePermissions t
      else t
    | _ => t)

/-! ### The safety supervisor (16 16.6) -/

/-- Changes the supervisor. -/
def modSupv (f : Supv → Supv) (s : State) : State := { s with supv := f s.supv }

/-- A decision is taken: REASON and FLT_STAT.SUPV. -/
def decide4 (reason : BitVec 4) (s : State) : State := setFltStat 6 (modSupv (fun v => { v with reason := reason }) s)

/-- A trip decision: the SUPV source of every axis, logged with RESULT 5 (R578). -/
def supvTripDecision (reason : BitVec 4) (f : Supv → Supv) (s : State) : State :=
  withTrips (fun t =>
    let t := recordEntry (newEntry t (faultCode 0x91 reason.toNat) .error 0) 5 (decide4 reason t)
    modSupv f t) s

/-- WATCHDOG_TIMEOUT (R578): the sequencer does not run in SLEEP (01 Table 1.9). -/
def execWatchdogTimeout (s : State) : Host.Outcome State Fault Refusal :=
  .next (if awake s then supvReset 1 s else s)

/-- WATCHDOG_EARLY_SERVICE (R578). -/
def execWatchdogEarlyService (s : State) : Host.Outcome State Fault Refusal :=
  .next (if awake s then supvReset 2 s else s)

/-- CORE_RAIL_FAULT (R578, 18 R640). -/
def execCoreRailFault (s : State) : Host.Outcome State Fault Refusal := .next (supvReset 4 s)

/-- VAUX_HIGH_TRIP (R578). -/
def execVauxHighTrip (s : State) : Host.Outcome State Fault Refusal :=
  .next (if supplied s && !s.supv.vauxTrip then supvTripDecision 7 (fun v => { v with vauxTrip := true }) s else s)

/-- VAUX_HIGH_RELEASE (R578). -/
def execVauxHighRelease (s : State) : Host.Outcome State Fault Refusal :=
  .next (modSupv (fun v => { v with vauxTrip := false }) s)

/-- TEMPERATURE_TRIP (R578): SYS_TEMP is above 125.0 degrees. -/
def execTemperatureTrip (s : State) : Host.Outcome State Fault Refusal :=
  .next (if supplied s && !s.supv.tempTrip && 1250 < s.supv.temp.toInt then
    supvTripDecision 8 (fun v => { v with tempTrip := true }) s
  else s)

/-- TEMPERATURE_RELEASE (R578): SYS_TEMP is below 115.0 degrees. -/
def execTemperatureRelease (s : State) : Host.Outcome State Fault Refusal :=
  .next (if s.supv.temp.toInt < 1150 then modSupv (fun v => { v with tempTrip := false }) s else s)

/-- The unit of the STO paths, code 0x2202 (16 Table 16.3). -/
def stoUnit : TestUnit := ⟨99, 0⟩

/-- STO_PATH_CHECK_FAIL (R578, reason 9): a path stands against its input; lasting at once (16 R567). -/
def stoPathCheckFail (path : Fin 2) (s : State) : State :=
  let hw := if path = 0 then s.sto.hw1 else s.sto.hw2
  if supplied s && hw == s.sto.input path && !isLasting s stoUnit then
    makeLasting stoUnit 0x2202 (recordEntry (newEntry s 0x2202 .error 0) 2 (decide4 9 s))
  else s

/-- See `stoPathCheckFail`. -/
def execStoPathCheckFail (path : Fin 2) (s : State) : Host.Outcome State Fault Refusal :=
  .next (stoPathCheckFail path s)

/-- SUPERVISOR_MONITOR_CONVERSION (13 R472): temperature in 0.1 degree, VAUX in 10 mV, VBAK in mV. VBAK above
2.40 V re-arms VBAKLOW (17 Table 17.7). -/
def execSupervisorMonitorConversion (temp vaux vbak : Word) (s : State) : Host.Outcome State Fault Refusal :=
  .next (if supplied s then
    let s := modSupv (fun v => { v with temp := temp, vaux := vaux, vbak := vbak }) s
    if 2400 < vbak.toNat then modBak (fun b => { b with vbakArmed := true }) s else s
  else s)

/-- SUPERVISOR_DOMAIN_CHECK (01 R43, 16 Table 16.4). -/
def execSupervisorDomainCheck (ok : Bool) (s : State) : Host.Outcome State Fault Refusal :=
  .next (if ok then s else supvReset 6 s)

/-! ### Heartbeats (01 R41, 16 R579, R580) -/

/-- Injection is enabled on the ladder of axis `n`. -/
def injEnabled (s : State) (n : Fin 8) : Bool := bit (ladderWord s n) 2

/-- The domains whose bridges are given run: any of those is enabled. -/
def anyBridge (s : State) (i : Nat) : Bool := (domainAxes i).any fun n => bridgeOn s n

/-- The supervisor expects domain `i` to beat (01 Tables 1.9, 1.10): in boot the domains that always run. 207 runs
inside a frame only, 210 is the supervisor's own, and 214 runs in a vendor test only. -/
def domainExpected (s : State) (i : Nat) : Bool :=
  if i < 164 then awake s && anyBridge s i
  else if i < 172 then carriersRun s && anyBridge s i
  else if i < 180 then awake s && anyBridge s i
  else if i < 188 then awake s && bit (fbWord s (Fin.ofNat 8 (i - 180))) 0
  else if i < 196 then carriersRun s && injEnabled s (Fin.ofNat 8 (i - 188))
  else if i < 198 then awake s && bit (tailWord s (i - 196) 0xE0) 0
  else if i < 202 then awake s && bit (runReg s 0x020) (i - 198)
  else if i = 202 then awake s && bits (runReg s 0x020) 0 4 != 0
  else if i < 207 then supplied s
  else if i = 208 ∨ i = 211 then supplied s
  else if i = 209 ∨ i = 213 ∨ i = 215 then supplied s && (s.power.phase == .boot || s.power.pstate != .sleep)
  else if i = 212 then s.otp.op.isSome
  else false

/-- A domain whose loss the supervisor answers with a trip at once (R580). -/
def systemDomain (i : Nat) : Bool := i == 208 || i == 209 || i == 213 || i == 215

/-- Domain `i` missed its heartbeat (R579). -/
def missBeat (i : Nat) (s : State) : State :=
  if !domainExpected s i || isLasting s ⟨11, i⟩ then s
  else
    let ax := match (domainAxes i).head? with
      | some n => axStateReg s n
      | none => 0xFFFF
    let s := modSupv (fun v => { v with domain := BitVec.ofNat 8 i, domDead := false, domValid := true }) s
    raiseFault (faultCode 0x90 i) [⟨11, i⟩] ax 0 s

/-- A silent domain calls for the trip decision of R580. -/
def systemSilent (silent : List Nat) (s : State) : Bool :=
  (List.range 216).any fun i => silent.contains i && systemDomain i && domainExpected s i && !isLasting s ⟨11, i⟩

/-- HEARTBEAT_CHECK (R579, R580): `silent` lists the domains that have not beaten since the previous check. The faults of
one check stand in ascending order of their codes, the decision after those of the domains (R582). -/
def heartbeatCheck (silent : List Nat) (s : State) : State :=
  let t := forEach ((List.range 216).filter silent.contains) missBeat s
  if systemSilent silent s && !s.supv.domTrip then supvTripDecision 5 (fun v => { v with domTrip := true }) t else t

/-- See `heartbeatCheck`. -/
def execHeartbeatCheck (silent : List Nat) (s : State) : Host.Outcome State Fault Refusal :=
  .next (if supplied s then heartbeatCheck silent s else s)

/-- A recheck of a system domain still waits or runs. -/
def systemRecheck (s : State) : Bool :=
  s.flt.queues[(9 : Fin 10)].any fun t => t.unit.kind == 11 && systemDomain t.unit.index

/-- What the end of a recheck decides (R580, R581, Table 16.7). -/
def afterRecheck (i : Nat) (pass : Bool) (s : State) : State :=
  if pass then
    if systemDomain i && !systemRecheck s then modSupv (fun v => { v with domTrip := false }) s else s
  else
    let s := if s.supv.domValid && s.supv.domain.toNat == i then modSupv (fun v => { v with domDead := true }) s else s
    if systemDomain i then supvReset 5 s else if i = 210 then supvReset 6 s else s

/-- A Seam port that passed its test has its link up again (16 Table 16.2). -/
def retrained (i : Nat) (s : State) : State :=
  let p : Fin 4 := Fin.ofNat 4 i
  if bit (runReg s 0x020) p.val then
    modPort p (fun q => { resetPort with up := true, badFrames := q.badFrames, alerts := q.alerts, queue := q.queue }) s
  else s

/-- The code that queued the test at the head of the queue of `u`; a test of kind 10 checks the area it names. -/
def headCode (s : State) (u : TestUnit) : Word :=
  match s.flt.queues[queueOf u].head? with
  | some t => t.code
  | none => testCode u

/-- TEST_COMPLETE (16 R560): the unit is classified, and the next test of its queue starts. -/
def execTestComplete (unit : TestUnit) (run : TestRun) (firstFail : Word) (s : State) :
    Host.Outcome State Fault Refusal :=
  let pass := testPasses s unit (headCode s unit) run
  let s' := rewatchFreed s (completeTest unit pass firstFail s)
  let s' := if unit.kind == 9 && pass && isTesting s unit then retrained unit.index s' else s'
  .next (if unit.kind == 11 && isTesting s unit then afterRecheck unit.index pass s' else s')

/-- SUPV_STAT (16 Table 16.12). -/
def supvStatReg (s : State) : Word :=
  s.supv.reason.setWidth 16 ||| flagBit (supvTrip s) 4
    ||| flagBit (!(s.flt.queues[(9 : Fin 10)]).isEmpty) 5

/-- SUPV_DOMAIN (16 Table 16.12). -/
def supvDomainReg (s : State) : Word :=
  s.supv.domain.setWidth 16 ||| flagBit s.supv.domDead 8 ||| flagBit s.supv.domValid 15

/-! ### Power states (01 1.6) -/

/-- The state a request names. -/
def requestState (d : Word) : Option PState :=
  match bits d 0 2 with
  | 1 => some .run
  | 2 => some .standby
  | 3 => some .sleep
  | _ => none

/-- The refusals of a write of SYS_PWRREQ beside its key (R34, R35). -/
def powerRefusals (s : State) (d : Word) : List (Status × Nat) :=
  (match requestState d with
   | none | some .run => []
   | some _ => if allAxes.any (fun n => !(axSt s n).atRest) then [(.stoppedOnly, 0)] else []) ++
    (if s.power.target.isSome then [(.busy, 0)] else [])

/-- An accepted write of SYS_PWRREQ (01 Table 1.8). -/
def powerRequest (d : Word) (s : State) : State :=
  match requestState d with
  | none => s
  | some r => { s with power := { s.power with
      pwrReq := d.extractLsb' 0 2, target := if r = s.power.pstate then none else some r } }

/-- A unit that failed its self-test at boot or on a wake: lasting, RESULT 2, ORIGIN 1, with its first failing
measurement (04 R132, 16 R577). -/
def failSelfTest (t : SelfTest) (s : State) : State :=
  makeLasting t.unit (testCode t.unit) (recordEntry (testEntry s t.unit .boot t.firstFail) 2 s)

/-- The units that boot and a wake test, in their order (04 R127). The order of the converters across bridges, which
R127 leaves open and the fault log shows, is the model's (log entry 90). -/
def selfTestUnits (s : State) : List TestUnit :=
  let on := allAxes.filter fun n => bridgeOn s n
  (List.range 6).flatMap (fun i => on.map fun n => (⟨0, 6 * n.val + i⟩ : TestUnit)) ++
    (List.range 2).flatMap (fun i => on.map fun n => (⟨2, 2 * n.val + i⟩ : TestUnit)) ++
    (List.range 3).flatMap (fun i => on.map fun n => (⟨4, 3 * n.val + i⟩ : TestUnit)) ++
    ((List.range 4).filter fun k => on.any fun n => n.val / 2 == k).map fun k => (⟨3, k⟩ : TestUnit)

/-- The self-tests that fail, of those made: each is judged by the criterion of its kind and the coefficients in force
(16 R560, 13 R464, R466, R468). -/
def failedSelfTests (tests : List SelfTest) (s : State) : List SelfTest :=
  (selfTestUnits s).filterMap fun u => tests.find? fun t => t.unit == u && !testPasses s u (testCode u) t.run

/-- The self-tests run; `tests` is what they found, a unit not listed being sound. -/
def runSelfTests (tests : List SelfTest) (s : State) : State := forEach (failedSelfTests tests s) failSelfTest s

/-- Leaving SLEEP (R37, 12 R437). -/
def leaveSleep (tests : List SelfTest) (s : State) : State := gapAfterSleep (runSelfTests tests s)

/-- The Seam ports stop in SLEEP (01 1.8). -/
def stopPorts (s : State) : State :=
  forEach (List.finRange 4) (fun p => modPort p fun q => { resetPort with
    badFrames := q.badFrames, alerts := q.alerts, queue := q.queue }) s

/-- The gate supplies stop in SLEEP, and what was monitored in them with it (09 R318). -/
def stopSupplies (s : State) : State := { s with supply := State.reset.supply }

/-- POWER_TRANSITION_DONE (R35-R37, 08 R276, 14 R501, R503): `tests` is what the self-tests found on leaving SLEEP. -/
def powerTransitionDone (tests : List SelfTest) (s : State) : State :=
  match running s, s.power.target with
  | true, some t =>
    let old := s.power.pstate
    let s := if t = .sleep then enterWatch (stopSupplies (stopConverters (stopPorts (holdPins s)))) else s
    let s := if old = .sleep then passClock s else s
    let s := { s with power := { s.power with pstate := t, target := none } }
    let s := if old = .sleep then leaveSleep tests s else s
    let s := if t = .run then logSleepAlarms (releasePins (wordsSwapped s (restartCarriers s))) else s
    setSysStat 5 s
  | _, _ => s

/-- See `powerTransitionDone`. -/
def execPowerTransitionDone (tests : List SelfTest) (s : State) : Host.Outcome State Fault Refusal :=
  .next (powerTransitionDone tests s)

/-- RTC_WAKE (17 R616): RTC bits [47:16] reach WAKEAT. -/
def rtcWake (s : State) : State :=
  let at_ : DWord := s.bak.ram.get32 0x12
  let now := s.bak.rtc.extractLsb' 16 32
  if running s && s.power.pstate == .sleep && bakAlive s && at_ != 0 && now.toNat ≤ at_.toNat then
    wake (if now = at_ then s else modBak (fun b => { b with rtc := at_ ++ (0 : BitVec 16) }) s)
  else s

/-- See `rtcWake`. -/
def execRtcWake (s : State) : Host.Outcome State Fault Refusal := .next (rtcWake s)

/-- WAKE_PIN (14 R502): wake pin `p` stands at WAKEPOL; in BACKUP it is recorded (17 Table 17.11). -/
def wakePin (p : Fin 16) (s : State) : State :=
  let w := padWord s p.val 3
  if !(s.boot.committed && bit w 0 && inputLevel s p.val == bit w 1) then s
  else if s.power.phase = .backup then
    modBak (fun b => { b with
      stat := (setBit (if p.val < 8 then setBit b.stat (8 + p.val) else b.stat) 1) }) (passClock s)
  else if running s && s.power.pstate == .sleep then wake (passClock s)
  else s

/-- See `wakePin`. -/
def execWakePin (p : Fin 16) (s : State) : Host.Outcome State Fault Refusal := .next (wakePin p s)

/-- SYS_PSTATE (01 Table 1.7). -/
def pstateReg (s : State) : Word :=
  (if running s then
    match s.power.pstate with
    | .run => 1
    | .standby => 2
    | .sleep => 3
  else 0) ||| flagBit s.power.target.isSome 3

end Sys2Proof.Machine
end

