-- ==== Sys2Proof/Machine/Boot.lean ====
section
/-! DEFINITION. The boot sequence (chapter 04), the compatibility decision (05 5.7) and the load of the record store
(17 17.6). -/

namespace Sys2Proof.Machine

/-! ### Faults found by boot (04 R128, 16 Table 16.5) -/

/-- Sets bit `i` of SYS_BOOTSTAT (04 Table 4.6). -/
def setBootStat (i : Nat) (s : State) : State :=
  { s with boot := { s.boot with bootStat := setBit s.boot.bootStat i } }

/-- Sets bit `i` of SYS_BOOTSTAT when `c` holds. -/
def bootStatIf (c : Bool) (i : Nat) (s : State) : State := if c then setBootStat i s else s

/-! ### Step 1: OTP (04 R135, 05 R682, 13 R464) -/

/-- A bad row lies in region `r`. -/
def regionBad (s : State) (r : Nat) : Bool := s.boot.badRows.any fun row => row / 16 == r

/-- The coefficient pairs of OTP region 1 (13 R464). -/
def otpCoef (t : Otp) : WordMem :=
  (List.range 192).foldl (fun m i =>
    let ofs := otpRaw t (0x200 + 2 * i)
    let gain := otpRaw t (0x201 + 2 * i)
    if gain = 0 then (m.put (2 * i) 0).put (2 * i + 1) 0x8000 else (m.put (2 * i) ofs).put (2 * i + 1) gain) []

/-- Step 1 and step 2: rows that fail to read and have no redirection, life cycle, vendor calibration. A region 1 with
such a row is unusable, and the pairs start as from a blank one (R135, R681; log entry 81). -/
def bootOtp (env : BootEnv) (s : State) : State :=
  let bad := (List.range 256).filter fun row => env.badRows.contains row && (spareOf s.otp row).isNone
  let s := forEach bad (fun row => bootFault (faultCode 0xA1 row) []) s
  let s := { s with boot := { s.boot with badRows := bad } }
  let lost := regionBad s 6
  let life := otpRaw s.otp 0x0C00
  let s := { s with
    boot := { s.boot with
      lifeLost := lost
      life := if lost then 0xC else BitVec.ofNat 4 (lifeOf life + if fieldProgOff s then 8 else 0) }
    cnv := { s.cnv with coef := if regionBad s 1 then blankCoef else otpCoef s.otp } }
  bootStatIf ((List.finRange 16).any fun i => (redirRow s.otp i).isSome) 2 (bootStatIf (!bad.isEmpty) 13 s)

/-! ### Step 3: patches (05 5.6, 5.7) -/

/-- The words of a patch entry (05 Table 5.9). -/
def patchEntry (t : Otp) (e : Nat) : List Word := (List.range 4).map fun i => otpRaw t (0x420 + 4 * e + i)

/-- The words of a patch code row (05 Table 5.10). -/
def codeRow (t : Otp) (k : Nat) : List Word := (List.range 32).map fun i => otpRaw t (0x520 + 32 * k + i)

/-- CHECK of an entry as it should be: CRC-8 over words 0, 2 and 3, high byte first (05 Table 5.9). -/
def entryCheck (w : List Word) : BitVec 8 :=
  crc8 ([w.getD 0 0, w.getD 2 0, w.getD 3 0].flatMap fun v => [v.extractLsb' 8 8, v.extractLsb' 0 8])

/-- A code row is not blank. -/
def rowUsed (r : List Word) : Bool := r.any (· != 0)

/-- A row of 32 words carries its CRC-32 over words 0-29 (05 Tables 5.8, 5.10). -/
def rowCrcGood (r : List Word) : Bool := crc32 (r.take 30) == joinWords (r.getD 30 0) (r.getD 31 0)

/-- Row `q` cannot be read. -/
def rowBad (s : State) (q : Nat) : Bool := s.boot.badRows.contains q

/-- Code row `k` is loaded (05 R192). -/
def rowLoaded (s : State) (k : Nat) : Bool :=
  k < 55 && !rowBad s (41 + k) && rowUsed (codeRow s.otp k) && rowCrcGood (codeRow s.otp k)

/-- Entry `e` fails the checks of row 5 of Table 5.11. -/
def entryFails (s : State) (e : Nat) : Bool :=
  let w := patchEntry s.otp e
  let w1 := w.getD 1 0
  rowBad s (33 + e / 8) ||
    (bit w1 13 && (w1.extractLsb' 4 8 != entryCheck w || bits w1 0 2 == 3 ||
      (bits w1 0 2 == 1 && !rowLoaded s ((w.getD 2 0).toNat / 15))))

/-- Code row `k` fails the checks of row 5 of Table 5.11. -/
def codeFails (s : State) (k : Nat) : Bool :=
  rowBad s (41 + k) || (rowUsed (codeRow s.otp k) && !rowCrcGood (codeRow s.otp k))

/-- Entry `e` is live once row 5 found no fault (05 R189). -/
def entryLive (t : Otp) (e : Nat) : Bool :=
  let w1 := (patchEntry t e).getD 1 0
  bit w1 13 && !bit w1 14

/-- Two live entries share the ADDR of entry `e`. -/
def entryShared (t : Otp) (e : Nat) : Bool :=
  entryLive t e && (List.range 64).any fun f =>
    f != e && entryLive t f && (patchEntry t f).getD 0 0 == (patchEntry t e).getD 0 0

/-- The row of Table 5.11 that applies, and word 0x008 of space 0x0E: 0 in the rows for which Table 5.15 gives it no
content (log entry 103). -/
def patchDecision (s : State) : Nat × Word :=
  let h := (List.range 32).map fun i => otpRaw s.otp (0x400 + i)
  let mel := h.getD 3 0
  if rowBad s 32 then (2, 0)
  else if !rowUsed h then (1, 0)
  else if h.getD 0 0 != 1 || !rowCrcGood h then (2, 0)
  else if h.getD 2 0 != Config.romRel then (3, 0)
  else if !((List.range 4).any fun i =>
      bits mel (4 * i) 4 != 0 && bits mel (4 * i) 4 == Config.dieRev.toNat) then (4, 0)
  else match (List.range 64).find? (entryFails s) with
    | some e => (5, BitVec.ofNat 16 e)
    | none =>
      match (List.range 55).find? (codeFails s) with
      | some k => (5, BitVec.ofNat 16 (0x8000 + k))
      | none =>
        match (List.range 64).find? (entryShared s.otp) with
        | some e => (6, BitVec.ofNat 16 e)
        | none => (7, 0)

/-- Step 3 (05 R194-R196). -/
def bootPatches (s : State) : State :=
  let d := patchDecision s
  let s := if d.1 = 2 ∨ d.1 = 5 ∨ d.1 = 6 then bootFault (faultCode 0xA4 d.1) [] s else s
  if d.1 = 7 then
    { s with boot := { s.boot with
      patch := otpRaw s.otp 0x401
      compat := (otpRaw s.otp 0x405).extractLsb' 0 8
      dalugMask := Config.romDalugMask ||| (otpRaw s.otp 0x404 &&& 0xFFFE)
      applied := (List.range 64).foldl (fun v e => putBit v e (entryLive s.otp e)) 0
      codeRows := BitVec.ofNat 6 ((List.range 55).filter (rowLoaded s)).length
      patchStat := 0, failIndex := 0 } }
  else
    bootStatIf (d.1 = 3 ∨ d.1 = 4) 1 (setBootStat 0 { s with boot := { s.boot with
      patch := 0, compat := Config.romClass, dalugMask := Config.romDalugMask, applied := 0, codeRows := 0
      patchStat := BitVec.ofNat 3 d.1, failIndex := d.2 } })

/-! ### Step 4: the protection set-up (04 4.5) -/

/-- An owner entry is valid: OWNER among those up to `maxOwner`, ORPHAN at most `seamOrphan` with SEAM and 0
otherwise (04 Table 4.11, R145). PEER is not judged where OWNER is not SEAM (log entry 91). -/
def entryValid (maxOwner seamOrphan : Nat) (w : Word) : Bool :=
  !bit w 15 && bits w 0 2 ≤ maxOwner &&
    (if bits w 0 2 = 1 then bits w 12 2 ≤ seamOrphan else bits w 12 2 == 0)

/-- Every encoding of section `i` of a set-up is valid (R145). The bits of the space maps for spaces that do not exist are
not judged (log entry 100). -/
def sectionValid (m : WordMem) (i : Nat) : Bool :=
  match i with
  | 0 => (List.range 8).all fun n => m.get (0x10 + n) >>> 3 == 0
  | 1 => (List.range 16).all fun g =>
      if 1 ≤ g ∧ g ≤ 3 then entryValid 1 0 (m.get (0x20 + g))
      else if 7 ≤ g ∧ g ≤ 14 then entryValid 1 1 (m.get (0x20 + g))
      else entryValid 0 0 (m.get (0x20 + g))
  | 2 => (List.range 20).all fun k =>
      if [0x00, 0x05, 0x07, 0x0A, 0x10, 0x11, 0x12].contains k then entryValid 1 0 (m.get (0x30 + k))
      else entryValid 0 0 (m.get (0x30 + k))
  | 4 => (List.range 64).all fun p => entryValid 3 2 (m.get (0x80 + p))
  | _ => true

/-- The section of a set-up word, if it lies in one (04 Table 4.8). -/
def sectionOf (a : Nat) : Option Nat :=
  if 0x10 ≤ a ∧ a < 0x18 then some 0
  else if 0x20 ≤ a ∧ a < 0x30 then some 1
  else if 0x30 ≤ a ∧ a < 0x44 then some 2
  else if 0x50 ≤ a ∧ a < 0x56 then some 3
  else if 0x80 ≤ a ∧ a < 0xC0 then some 4
  else none

/-- CRC-32 over words `lo` to 0x1FD stands at words 0x1FE and 0x1FF (R144). -/
def setupCrcGood (m : WordMem) (lo : Nat) : Bool := crc32 (m.slice lo (0x1FE - lo)) == m.get32 0x1FE

/-- Region 7 as a memory of 512 words. -/
def region7 (t : Otp) : WordMem := WordMem.ofCells ((List.range 512).map fun a => (a, otpRaw t (0x0E00 + a)))

/-- The base of Table 4.7, with the SYS_BOOTSTAT bit it sets, if any. -/
def setupBase (s : State) : WordMem × Option Nat :=
  let r := region7 s.otp
  if regionBad s 7 then (defaultSetup, some 4)
  else if r.isEmpty then (defaultSetup, some 3)
  else if r.get 0 == 1 && setupCrcGood r 2 && (List.range 5).all (sectionValid r) then (r, none)
  else (defaultSetup, some 4)

/-- The staged copy that stands sealed. -/
def stagedCopy (s : State) : Option WordMem :=
  (sealedSlot s.store.mem).map fun b =>
    WordMem.ofCells ((List.range 512).map fun a => (a, storeWord s (slotBase b + a)))

/-- STAGE_REASON of a staged copy against a base; 0 when it is applied (R141). -/
def stageReason (base c : WordMem) : Nat :=
  let present := fun i => bit (c.get 1) i
  if c.get 0 != 1 || !setupCrcGood c 0 then 1
  else if (List.range 5).any fun i => present i && !sectionValid c i then 3
  else if (List.range 5).any fun i => present i && bit (base.get 1) i then 2
  else 0

/-- The base with the present sections of a staged copy (R142). -/
def stageSections (base c : WordMem) : WordMem :=
  WordMem.overlay (fun a => match sectionOf a with
    | some i => bit (c.get 1) i
    | none => false) base c

/-- The running set-up and SYS_BOOTSTAT (04 R139-R142). -/
def bootSetup (s : State) : State :=
  let b := setupBase s
  let s := match b.2 with
    | some i => setBootStat i (if i = 4 then bootFault 0xA300 [] s else s)
    | none => s
  let use := fun (m : WordMem) => { s with boot := { s.boot with setup := m } }
  match (if b.2 = some 4 then none else stagedCopy s) with
  | none => use b.1
  | some c =>
    let r := stageReason b.1 c
    if r = 0 then setBootStat 5 (use (stageSections b.1 c))
    else
      let s' := setBootStat 6 (use b.1)
      { s' with boot := { s'.boot with bootStat := s'.boot.bootStat ||| (BitVec.ofNat 15 r <<< 7) } }

/-- Dalug die `n` has an unsupported revision (04 R131, 05 R197). -/
def dalugBad (s : State) (n : Fin 8) : Bool := !bit s.boot.dalugMask (Config.dalugRev n.val).toNat

/-- The unit of a Dalug die of an unsupported revision, as AX_FAULT holds it. -/
def dalugUnit (n : Fin 8) : TestUnit := ⟨98, n.val⟩

/-- Bridge `n` is enabled by the set-up and its die is not supported: a class 0xA fault (R131). -/
def judgeDalug (n : Fin 8) (s : State) : State :=
  if bit (bridgeWord s n) 0 && dalugBad s n then
    let code := faultCode 0xA0 n.val
    let t := recordEntry { newEntry s code .boot 0 with axState := axStateReg s n } 5 s
    setBootStat 10 (noteFaults t { t with flt := { t.flt with lasting := t.flt.lasting ++ [⟨dalugUnit n, code⟩] } })
  else s

/-- The bridges that boot leaves disabled (R131, R134, R135, 05 Table 5.6, R682). -/
def bootBridges (s : State) : State :=
  let life := lifeNow s
  let off := life == 0 || life == 4 || regionBad s 0 || regionBad s 6
  let s := forEach allAxes judgeDalug s
  let s := bootStatIf (life == 4 && !s.boot.lifeLost) 14 s
  let die := allAxes.foldl (fun v n => putBit v n.val (regionBad s 0 || regionBad s 6 || dalugBad s n)) 0
  { s with boot := { s.boot with dieOff := die, bridgeOff := if off then BitVec.allOnes 8 else die } }

/-- Step 5 (R127, R132): the self-tests are judged with the coefficients that step 2 loaded (13 R464). -/
def bootSelfTests (tests : List SelfTest) (s : State) : State :=
  bootStatIf (!(failedSelfTests tests s).isEmpty) 9 (runSelfTests tests s)

/-! ### Step 6: the record store (17 17.6) -/

/-- A check of the store fails: code 0x80aa, CHKFAIL, test kind 10 (17 R591, R599, R603). -/
def checkFail (area : Nat) (s : State) : State :=
  bootFault (faultCode 0x80 area) [⟨10, 0⟩] { s with store := { s.store with chkFail := true } }

/-- The winner (17 R590). -/
def bankWinner (m : WordMem) : Option Bool :=
  match bankValid m false, bankValid m true with
  | false, false => none
  | true, false => some false
  | false, true => some true
  | true, true => some (decide ((bankSeq m false).toNat < (bankSeq m true).toNat))

/-- The invalid bank that means a rollback (17 R591). -/
def rollbackBank (m : WordMem) : Option Bool :=
  let bad := [false, true].filter (bankInvalid m)
  match bankWinner m with
  | some w => bad.find? fun b => decide ((bankSeq m w).toNat < (bankSeq m b).toNat)
  | none =>
    if bad.length = 2 then some (decide ((bankSeq m false).toNat < (bankSeq m true).toNat)) else bad.head?

/-- Sub-step a: the banks (17 R590, R591). -/
def bootBanks (s : State) : State :=
  let m := s.store.mem
  let rb := rollbackBank m
  let s := match bankWinner m with
    | some b => { s with store := { s.store with bank := b, norec := false, seq := bankSeq m b } }
    | none => { s with store := { s.store with norec := true, seq := 0 } }
  let s := if rb.isSome then bootFault 0x8200 [] { s with store := { s.store with rollback := true } } else s
  forEach ([false, true].filter fun b => bankInvalid m b && rb != some b)
    (fun b => checkFail (if b then 1 else 0)) s

/-- Sub-step b: pairs and SEAM_ID of the winner (17 R592). -/
def bootRecord (s : State) : State :=
  let m := s.store.mem
  let base := bankBase s.store.bank
  let p := if s.store.norec then 0 else bankPresent m s.store.bank
  let coef := (List.range 0x180).foldl (fun c a =>
    if bit p (coefGroup a) then c.put a (m.get (base + 0x100 + a)) else c) s.cnv.coef
  let id : Word := if bit p 4 then keepLow (m.get (base + 8)) 10 else 0x8000
  let k := cfgKey 0x1F 0x022
  { s with
    cnv := { s.cnv with coef := coef }
    cfg := { s.cfg with shadow := s.cfg.shadow.put k id, running := s.cfg.running.put k id } }

/-- The counters that boot increments: boots, BACKUP periods, supervisor resets (17 Table 17.4). -/
def bootTallies (s : State) : List Nat :=
  [0xC0] ++ (if s.boot.rstCause.getLsbD 4 then [0xC3] else []) ++ (if s.boot.rstCause.getLsbD 2 then [0xC4] else [])

/-- Sub-steps c and d: the counters (17 R599-R601). -/
def bootCounters (env : StoreEnv) (s : State) : State :=
  let s := forEach ((List.range 256).filter (counterFails s.store.mem)) (fun _ => checkFail 2) s
  let s := forEach (bootTallies s) (fun c => bumpCounter (!env.counters.contains c) c 1) s
  { s with boot := { s.boot with epoch := loWord (counterValue s.store.mem 0xC0) } }

/-- The newest entry of the log among those that `p` selects: its number and sequence number. -/
def newestLog (m : WordMem) (p : List Word → Bool) : Option (Nat × DWord) :=
  (List.range 1024).foldl (fun best e =>
    let l := logEntryAt m e
    if entryGood l && p l then
      match best with
      | none => some (e, entrySeq l)
      | some b => if b.2.toNat < (entrySeq l).toNat then some (e, entrySeq l) else best
    else best) none

/-- FLT_TOP and FLT_COUNT name the newest entry (17 R603, R604). -/
def findTop (s : State) : State :=
  let m := s.store.mem
  match newestLog m (fun _ => true) with
  | some t => { s with flt := { s.flt with top := BitVec.ofNat 10 t.1, empty := false, count := logCount m t.2 } }
  | none => { s with flt := { s.flt with top := 0, empty := true, count := 0 } }

/-- Sub-step e: the fault log; every entry that fails its check raises the fault (17 R603). -/
def bootLog (s : State) : State :=
  let s := findTop s
  forEach (badEntries s) (fun _ => checkFail 3) s

/-- Block `b` of the log area is cleared (17 R605). -/
def clearBlock (b : Nat) (s : State) : State :=
  modStore (WordMem.erase fun a => 0xA000 + 256 * b ≤ a && a < 0xA100 + 256 * b) s

/-- A block that does not read back as blank (17 R605, R587): which of its words, and what it holds, are free values (log
entry 21). -/
def spoilBlock (b : Nat) (s : State) : State :=
  let d := drawFree s
  let a := 0xA000 + 256 * b + (Config.unstated 603 d.1).toNat % 256
  verifyFault 3 (modStore (fun m => m.put a (loWord (Config.unstated 604 d.1))) d.2)

/-- The erase of the log area, block by block; it ends at the first block that fails (17 R587, R605; log entry 111). -/
def eraseBlocks (env : StoreEnv) (s : State) : State :=
  match (List.range 64).find? env.blocks.contains with
  | none => forEach (List.range 64) clearBlock s
  | some b => spoilBlock b (forEach (List.range (b + 1)) clearBlock s)

/-- Sub-step f: a staged ERASE_LOG (17 R605). An erase that fails sets neither LOGBASE nor ERASED, and its request stays
(log entry 111). -/
def bootErase (env : StoreEnv) (s : State) : State :=
  let h := headerOf s.store.mem
  let done := { h with req := h.req &&& 0xFFFE }
  if !bit h.req 0 then s
  else if fieldLife s then writeHeader (!env.header) done s
  else
    let s := eraseBlocks env s
    if (List.range 64).any env.blocks.contains then findTop s
    else
      let s := writeHeader (!env.header) { done with logBase := counterValue s.store.mem 0xC1 } s
      findTop { s with store := { s.store with erased := !env.header } }

/-- The alarms that latched in BACKUP or during boot (17 R625). -/
def bootAlarms (s : State) : State :=
  let s := forEach ((List.range 4).filter fun b => s.bak.toLogBoot.getLsbD b) (fun b t =>
    let r := t.bak.ram.slice (recordWord b) 3
    recordEntry { newEntry t (faultCode 0xB0 b) .boot 0 with
      rtc := r.getD 2 0 ++ r.getD 1 0 ++ r.getD 0 0, free := true } 5 t) s
  modBak (fun b => { b with toLogBoot := 0 }) s

/-- Sub-step g: what the cache holds goes into the log in its order, from place `k` on (17 R612). A write that fails adds
its own fault, so that there may be more of them than the cache holds at once. -/
def drainLog (env : StoreEnv) : Nat → Nat → State → State
  | 0, _, s => s
  | n + 1, k, s => drainLog env n (k + 1) (faultLogWrite (!env.entries.contains k) s)

/-- Step 6 (17 R612). -/
def bootStore (env : StoreEnv) (s : State) : State :=
  let s := bootErase env (bootLog (bootCounters env (bootRecord (bootBanks s))))
  let t := s.store
  drainLog env 64 0 (bootAlarms (bootStatIf (t.rollback || t.norec || t.erased || t.chkFail) 11 s))

/-! ### The whole boot -/

/-- The supervisor's REASON of the reset that started the boot (16 R578). -/
def bootReason (s : State) : State :=
  let r := s.power.reason
  if r = 0 then s
  else
    let s := { s with supv := { s.supv with reason := r }, power := { s.power with reason := 0 } }
    recordEntry (newEntry s (faultCode 0x91 r.toNat) .boot 0) 0 s

/-- Step 7: the boot gate closes (04 R136, R138, 08 R276); AX_STAT and SYS_STAT hold their reset values (02 R60,
03 R96). An alarm that latched after step 6 wrote the others is logged now (17 17.11). -/
def closeGate (s : State) : State :=
  let s := { s with
    power := { s.power with phase := .run, pstate := .run }
    boot := { s.boot with step := 0 }
    host := { s.host with sysStat := 0 }
    axes := s.axes.map fun a => { a with stat := 0 } }
  logSleepAlarms (bootAlarms (restartCarriers s))

/-- Boot begins: the causes of its reset join SYS_RSTCAUSE (R121), and pads held through it are reported. -/
def bootBegin (s : State) : State :=
  let s := { s with
    boot := { s.boot with rstCause := s.boot.rstCause ||| s.power.causes }
    power := { s.power with causes := 0 } }
  bootStatIf (s.pin.held != 0) 12 (bootReason s)

/-- Step `k` of boot runs to its end (04 Table 4.4). Step 2 reads the redirection table, which every read of the OTP
goes through (05 R178). The backup clock runs on (17 R614). -/
def bootStep (env : BootEnv) (k : Nat) (s : State) : State :=
  let s := passClock s
  let t := match k with
    | 0 => bootBegin s
    | 1 => bootOtp env s
    | 3 => bootPatches s
    | 4 => bootBridges (bootSetup s)
    | 5 => bootSelfTests env.tests s
    | 6 => bootStore env.store s
    | _ => s
  if k = 7 then closeGate t else { t with boot := { t.boot with step := k + 1 } }

/-- BOOT_START (04 R123): boot runs from the step in progress, 0 after a reset, until the boot gate closes or it stands
in step `env.stopAt` (log entry 82); `env` is what boot meets. -/
def bootStart (env : BootEnv) (s : State) : State :=
  if s.power.phase = .boot then
    forEach ((List.range 8).filter fun k => s.boot.step ≤ k && k < env.stopAt) (bootStep env) s
  else s

/-- See `bootStart`. -/
def execBootStart (env : BootEnv) (s : State) : Host.Outcome State Fault Refusal := .next (bootStart env s)

/-! ### Registers and space 0x0F (04 Tables 4.12, 4.14, R147) -/

/-- SYS_OWNERMAP (R147). -/
def ownerMapReg (s : State) : Word := loWord (crc32 (s.boot.setup.slice 2 (0x1F0 - 2)))

/-- The bits of a word of the running set-up that are not reserved (04 Tables 4.8, 4.9). -/
def setupDefined (a : Nat) : Word :=
  if a = 0x001 then 0x001F
  else if 0x010 ≤ a ∧ a < 0x018 then 0x0007
  else if a = 0x000 ∨ (sectionOf a).isSome = true then 0xFFFF
  else 0

/-- Word `a` of space 0x0F; what is reserved reads 0 (00 R9). The CRC takes words 0x1F0 to 0x1F6, which show the orphan
map, as the reserved words of the base, 0 (log entry 92). -/
def setupSpaceWord (s : State) (a : Nat) : Word :=
  if a = 0x1F0 then s.boot.orphanGroups
  else if 0x1F1 ≤ a ∧ a ≤ 0x1F4 then bankOf s.boot.orphanPins (a - 0x1F1)
  else if a = 0x1F5 then loWord s.boot.orphanSpaces
  else if a = 0x1F6 then hiWord s.boot.orphanSpaces
  else if a = 0x1FE ∨ a = 0x1FF then
    let m := WordMem.erase (fun k => 0x1F0 ≤ k && k < 0x1F7) s.boot.setup
    let c := crc32 (m.slice 2 (0x1FE - 2))
    if a = 0x1FE then loWord c else hiWord c
  else setupWord s a &&& setupDefined a

end Sys2Proof.Machine
end

