-- ==== Sys2Proof/Machine/Inspection.lean ====
section
/-! DEFINITION. The proof test, the inspection mark and space 0x13 (chapter 19). -/

namespace Sys2Proof.Machine

/-- Changes the proof test. -/
def modProof (f : Proof → Proof) (s : State) : State := { s with proof := f s.proof }

/-- The axes a write of PT_REQ names, whole groups (19 R668). -/
def namedAxes (s : State) (d : Word) : List (Fin 8) :=
  allAxes.filter fun n => (groupOf s n).any fun m => bit d m.val

/-- A write of PT_REQ asks for a test. -/
def proofAsked (d : Word) : Bool := bit d 15 && bits d 0 9 != 0

/-- The refusals of a write of PT_REQ (19 Table 19.2). -/
def proofRefusals (s : State) (d : Word) : List (Status × Nat) :=
  if !proofAsked d then []
  else
    let ax := namedAxes s d
    (if ax.any (fun n => !bridgeOn s n || !(axSt s n == .off || axSt s n == .ready)) then
      [(.stoppedOnly, 0)] else []) ++
    (if bit d 8 && s.sto.source then [(.refusedActive, 0)] else []) ++
    (if s.proof.running || s.power.pstate != .run || ax.any (axisTesting s) then [(.busy, 0)] else [])

/-- The units of Table 16.2 bound to axis `n`, in the order of 19 R669. -/
def axisUnits (s : State) (n : Fin 8) : List TestUnit :=
  let a := n.val
  (List.range 6).map (fun i => (⟨0, 6 * a + i⟩ : TestUnit)) ++ (List.range 4).map (fun i => (⟨1, 4 * a + i⟩ : TestUnit)) ++
  (List.range 2).map (fun i => (⟨2, 2 * a + i⟩ : TestUnit)) ++ (List.range 3).map (fun i => (⟨4, 3 * a + i⟩ : TestUnit)) ++
  (List.range 3).map (fun i => (⟨6, 3 * a + i⟩ : TestUnit)) ++ [⟨7, a⟩, ⟨8, a⟩] ++
  (if bit (fbWord s n) 0 then [⟨5, a⟩] else []) ++ (if a % 2 = 0 then [⟨3, a / 2⟩] else [])

/-- An accepted write of PT_REQ (19 R668, R669). -/
def proofRequest (d : Word) (s : State) : State :=
  if !proofAsked d then s
  else
    let ax := namedAxes s d
    let s := modProof (fun _ => { resetProof with
      running := true, sto := bit d 8
      axes := ax.foldl (fun v n => setBit v n.val) 0 }) s
    forEach (ax.flatMap (axisUnits s)) (fun u => hostTest u true) s

/-- The summary entry (19 Table 19.3); `outcome` is S. -/
def proofEnd (outcome : BitVec 2) (s : State) : State :=
  let p := s.proof
  let code : Word := 0xC000 ||| (outcome.setWidth 16 <<< 8) ||| p.axes.setWidth 16
  let e := { newEntry s code .host (BitVec.ofNat 16 p.passed) with firstFail := BitVec.ofNat 16 p.failedUnits }
  let pass := p.failedUnits == 0 && (!p.sto || outcome == 1)
  recordEntry e 5 (modProof (fun p => { p with
    running := false, stoWait := false, pass := pass, stores := outcome }) s)

/-- A test of the proof test is queued or runs. -/
def proofTestsLeft (s : State) : Bool := s.flt.queues.toList.any fun q => q.any fun t => t.proof

/-- PROOF_TEST_UNIT_PHASE_END (19 R671, R672): the last test of the unit phase has ended. -/
def proofUnitPhaseEnd (s : State) : State :=
  if !s.proof.running || s.proof.stoWait || proofTestsLeft s then s
  else if s.proof.sto then
    modProof (fun p => { p with
      stoWait := true
      seen := putBit (putBit 0 0 s.sto.in1) 1 s.sto.in2
      low := putBit (putBit 0 0 (!s.sto.in1)) 1 (!s.sto.in2)
      acted := 0, times := Vector.replicate 2 s.now, demand := false }) s
  else proofEnd 0 s

/-- See `proofUnitPhaseEnd`. -/
def execProofTestUnitPhaseEnd (s : State) : Host.Outcome State Fault Refusal := .next (proofUnitPhaseEnd s)

/-- The part of a sample that concerns one STO input. A path must act in the low that brings the demand, so what it did in
an earlier one is dropped as its input rises. -/
def Proof.sampleInput (now : Nat) (t : Sto) (i : Fin 2) (p : Proof) : Proof :=
  let low := !t.input i
  let hw := if i = 0 then t.hw1 else t.hw2
  { p with
    times := if p.low.getLsbD i.val = low then p.times else p.times.set i now
    seen := if low then p.seen else setBit p.seen i.val
    low := putBit p.low i.val low
    acted := if low && hw then setBit p.acted i.val
      else if !low && !p.demand then clearBit p.acted i.val else p.acted }

/-- A path misses its 10 ms (19 R671). -/
def Proof.late (now : Nat) (t : Sto) (p : Proof) (i : Fin 2) : Bool :=
  let hw := if i = 0 then t.hw1 else t.hw2
  let low := p.low.getLsbD i.val
  p.seen.getLsbD i.val && decide (p.times[i] + 2000000 < now) &&
    ((low && !hw) || (!low && hw) || (p.demand && !low && !p.acted.getLsbD i.val))

/-- PROOF_TEST_STO_SAMPLE (19 R671). -/
def proofStoSample (s : State) : State :=
  if !s.proof.stoWait then s
  else
    let s := modProof (fun p => (p.sampleInput s.now s.sto 0).sampleInput s.now s.sto 1) s
    let s := modProof (fun p => { p with
      demand := p.demand || (p.seen == 3 && p.low == 3 && s.sto.demand) }) s
    let p := s.proof
    if p.late s.now s.sto 0 || p.late s.now s.sto 1 then proofEnd 2 s
    else if p.demand && p.low == 0 && p.acted == 3 && !s.sto.hw1 && !s.sto.hw2 then proofEnd 1 s
    else s

/-- See `proofStoSample`. -/
def execProofTestStoSample (s : State) : Host.Outcome State Fault Refusal := .next (proofStoSample s)

/-- PROOF_TEST_STO_TIMEOUT (19 R671): the demand or the return has not come within its 30 s. -/
def proofStoTimeout (s : State) : State :=
  if s.proof.stoWait && !(s.proof.demand && s.proof.low == 0) then proofEnd 3 s else s

/-- See `proofStoTimeout`. -/
def execProofTestStoTimeout (s : State) : Host.Outcome State Fault Refusal := .next (proofStoTimeout s)

/-- The refusals of a write of PT_MARK (19 R674). -/
def markRefusals (s : State) : List (Status × Nat) := if 32 ≤ s.flt.cache.length then [(.busy, 0)] else []

/-- An accepted write of PT_MARK (19 R674). -/
def inspectionMark (tag : Word) (s : State) : State := recordEntry (newEntry s 0xC400 .host tag) 5 s

/-- The sequence number of the newest entry that `p` selects by its code; 0 without one (19 R675). -/
def newestOf (s : State) (p : Word → Bool) : DWord :=
  match newestLog s.store.mem fun l => p (l.getD 0 0) with
  | some t => t.2
  | none => 0

/-- PT_STAT (19 Table 19.4). -/
def ptStatWord (s : State) : Word :=
  let p := s.proof
  flagBit p.running 0 ||| flagBit p.stoWait 1 ||| flagBit p.done 2 ||| flagBit p.pass 3
    ||| (p.stores.setWidth 16 <<< 4) ||| (p.failed.setWidth 16 <<< 8)

/-- Half `i` of a 32-bit value. -/
def halfOf (v : DWord) (i : Nat) : Word := if i % 2 = 0 then loWord v else hiWord v

/-- Counter `c` of Table 17.4 counts; the others read 0 (17 R600). -/
def counterUsed (c : Nat) : Bool := c < 0x10 || (0x20 ≤ c && c < 0xC5 && !(0x40 ≤ c && c < 0xC0 && 10 ≤ c % 16))

/-- The serial number (05 Table 5.2); boot uses no word of an unreadable row (05 R681). -/
def serialOf (s : State) : BitVec 48 :=
  if s.boot.badRows.contains 0 && (spareOf s.otp 0).isNone then 0
  else otpRaw s.otp 2 ++ otpRaw s.otp 1 ++ otpRaw s.otp 0

/-- Word `a` of space 0x13 (19 Table 19.4). -/
def inspectionWord (s : State) (a : Nat) : Word :=
  if 0x100 ≤ a ∧ a < 0x300 then
    let c := (a - 0x100) / 2
    if counterUsed c then halfOf (counterValue s.store.mem c) a else 0
  else match a with
  | 0x000 => 1
  | 0x001 => Config.romRel
  | 0x002 => s.boot.patch
  | 0x003 => s.boot.life.setWidth 16
  | 0x004 => Config.dieRev.setWidth 16
  | 0x005 => ownerMapReg s
  | 0x006 => (serialOf s).extractLsb' 0 16
  | 0x007 => (serialOf s).extractLsb' 16 16
  | 0x008 => (serialOf s).extractLsb' 32 16
  | 0x009 => s.boot.epoch
  | 0x00A => loWord s.cfg.cfgCrc
  | 0x00B => hiWord s.cfg.cfgCrc
  | 0x00C => loWord (counterValue s.store.mem 0xC1)
  | 0x00D => hiWord (counterValue s.store.mem 0xC1)
  | 0x00E => loWord (headerOf s.store.mem).logBase
  | 0x00F => hiWord (headerOf s.store.mem).logBase
  | 0x010 => loWord (newestOf s fun c => bits c 10 6 == 0x30)
  | 0x011 => hiWord (newestOf s fun c => bits c 10 6 == 0x30)
  | 0x012 => loWord (newestOf s fun c => c == 0xC400)
  | 0x013 => hiWord (newestOf s fun c => c == 0xC400)
  | 0x021 => ptStatWord s
  | _ => 0

end Sys2Proof.Machine
end

