-- ==== Sys2Proof/Machine/SeamFrame.lean ====
section
/-! DEFINITION. The bytes of a Seam frame (15 Tables 15.1, 15.2, 15.4, 15.5): their layout, most significant byte first,
and their CRC-32 (R520). Reserved bits and the rest of an empty slot are sent as 0 (log entry 97). -/

namespace Sys2Proof.Machine

/-! ### Bytes -/

/-- The high byte of a word, which is the earlier byte of the slot (15 R520: most significant byte first). -/
def hiByte (w : Word) : BitVec 8 := w.extractLsb' 8 8

/-- The low byte of a word. -/
def loByte (w : Word) : BitVec 8 := w.extractLsb' 0 8

/-- The bytes of a word. -/
def bytes16 (w : Word) : List (BitVec 8) := [hiByte w, loByte w]

/-- The bytes of a 64-bit value. -/
def bytes64 (v : BitVec 64) : List (BitVec 8) := (List.range 8).map fun i => v.extractLsb' (56 - 8 * i) 8

/-- Byte `k` of the bytes 1, 2, ... of a frame. -/
def byteAt (l : List (BitVec 8)) (k : Nat) : BitVec 8 := l.getD (k - 1) 0

/-- The word in bytes `k` and `k + 1`. -/
def wordAt (l : List (BitVec 8)) (k : Nat) : Word := byteAt l k ++ byteAt l (k + 1)

/-- The value in bytes `k` to `k + 3`. -/
def dwordAt (l : List (BitVec 8)) (k : Nat) : DWord := wordAt l k ++ wordAt l (k + 2)

/-- The value in bytes `k` to `k + 7`. -/
def qwordAt (l : List (BitVec 8)) (k : Nat) : BitVec 64 := dwordAt l k ++ dwordAt l (k + 4)

/-! ### The message slot (15 Table 15.5) -/

/-- The payload as words, two bytes each. -/
def payloadWords (l : List (BitVec 8)) : List Word :=
  (List.range 24).map fun i => l.getD (2 * i) 0 ++ l.getD (2 * i + 1) 0

/-- The 32 words of a message (Table 15.9, outbox and inbox). -/
def msgWords (m : Msg) : List Word :=
  [m.dst.setWidth 16 ||| flagBit m.broadcast 10 ||| m.rsvDst.setWidth 16 <<< 11, m.rsvSrc ++ m.src, m.kind ++ m.len,
    m.sess ++ m.seq, m.epoch, m.status ++ m.ttl, hiWord m.rsv, loWord m.rsv] ++ payloadWords m.payload

/-- The message that 32 words spell. -/
def wordsMsg (w : Nat → Word) : Msg where
  dst := (w 0).extractLsb' 0 10
  broadcast := bit (w 0) 10
  rsvDst := (w 0).extractLsb' 11 5
  rsvSrc := (w 1).extractLsb' 10 6
  rsv := w 6 ++ w 7
  src := (w 1).extractLsb' 0 10
  kind := hiByte (w 2)
  len := loByte (w 2)
  sess := hiByte (w 3)
  seq := loByte (w 3)
  epoch := w 4
  status := hiByte (w 5)
  ttl := loByte (w 5)
  payload := (List.range 24).flatMap fun i => bytes16 (w (8 + i))

/-- An empty slot of `n` bytes that begins with `mark`. -/
def emptySlot (mark : List (BitVec 8)) (n : Nat) : List (BitVec 8) := mark ++ List.replicate (n - mark.length) 0

/-- Bytes 224 to 287. -/
def msgBytes : Option Msg → List (BitVec 8)
  | some m => (msgWords m).flatMap bytes16
  | none => emptySlot [0xFF, 0xFF] 64

/-- The message slot of a frame. -/
def frameMsg (l : List (BitVec 8)) : Option Msg :=
  if wordAt l 224 = 0xFFFF then none else some (wordsMsg fun i => wordAt l (224 + 2 * i))

/-! ### Angle slots (15 Table 15.2) -/

/-- The 22 bytes of an angle slot. -/
def slotBytes (x : AngleSlot) : List (BitVec 8) :=
  [x.ch.setWidth 8, x.seq, if x.free then 1 else 0, x.hops] ++
    bytes16 (x.src.setWidth 16 ||| flagBit x.trip 10 ||| flagBit x.run 11 ||| flagBit x.gstop 12 ||| flagBit x.formed 13) ++
    bytes16 x.aux ++ bytes16 x.info ++ bytes32 x.angle ++ bytes32 x.speed ++ bytes32 x.stamp

/-- Bytes 36 to 211. -/
def slotsBytes (l : List AngleSlot) : List (BitVec 8) :=
  (List.range 8).flatMap fun i =>
    match l[i]? with
    | some x => slotBytes x
    | none => emptySlot [0xFF] 22

/-- The angle slot at byte `k`. -/
def slotAt (l : List (BitVec 8)) (k : Nat) : Option AngleSlot :=
  let st := wordAt l (k + 4)
  if byteAt l k = 0xFF then none
  else some {
    ch := (byteAt l k).extractLsb' 0 6, seq := byteAt l (k + 1), free := (byteAt l (k + 2)).getLsbD 0
    hops := byteAt l (k + 3), src := st.extractLsb' 0 10, trip := bit st 10, run := bit st 11, gstop := bit st 12
    formed := bit st 13, aux := wordAt l (k + 6), info := wordAt l (k + 8), angle := dwordAt l (k + 10)
    speed := dwordAt l (k + 14), stamp := dwordAt l (k + 18) }

/-- The angle slots of a frame that are not empty. -/
def frameSlots (l : List (BitVec 8)) : List AngleSlot := (List.range 8).filterMap fun i => slotAt l (36 + 22 * i)

/-! ### The roll-call slot (15 Table 15.4) -/

/-- Bytes 212 to 223. -/
def rollBytes : Option RollEntry → List (BitVec 8)
  | some e => bytes16 (e.dev.setWidth 16) ++ bytes16 e.epoch ++ [e.age, e.cls, e.gang, e.status, e.hops] ++
      bytes16 e.serialLo ++ [0]
  | none => emptySlot [0xFF, 0xFF] 12

/-- The roll-call slot of a frame. -/
def frameRoll (l : List (BitVec 8)) : Option RollEntry :=
  if wordAt l 212 = 0xFFFF then none
  else some {
    dev := (wordAt l 212).extractLsb' 0 10, epoch := wordAt l 214, age := byteAt l 216, cls := byteAt l 217
    gang := byteAt l 218, status := byteAt l 219, hops := byteAt l 220, serialLo := wordAt l 221 }

/-! ### The frame (15 Table 15.1) -/

/-- Bytes 1 to 35: header, tree and time. -/
def headBytes (f : SeamFrame) : List (BitVec 8) :=
  [f.format ++ (0 : BitVec 4)] ++
    bytes16 (f.sender.setWidth 16 ||| f.senderPort.setWidth 16 <<< 10 ||| flagBit f.parent 12 ||| flagBit f.noId 13) ++
    bytes16 f.cycle ++
    [f.tree.prio] ++ bytes16 (f.tree.serial.extractLsb' 32 16) ++ bytes32 (f.tree.serial.extractLsb' 0 32) ++
    [f.tree.hops, f.tree.rseq, if f.tree.noRoot then 1 else 0] ++
    bytes64 f.time.txTime ++ bytes64 f.time.rxTime ++ bytes16 f.time.rxCycle ++ [f.time.tstate.setWidth 8, 0]

/-- Bytes 1 to 287. -/
def frameBody (f : SeamFrame) : List (BitVec 8) :=
  headBytes f ++ slotsBytes f.slots ++ rollBytes f.roll ++ msgBytes f.msg

/-- Bytes 1 to 291, the CRC last (R520). -/
def frameBytes (f : SeamFrame) : List (BitVec 8) := frameBody f ++ bytes32 (crc32Bytes (frameBody f))

/-- The CRC of a received frame holds (R520). -/
def frameCrcGood (l : List (BitVec 8)) : Bool := crc32Bytes (l.take 287) == dwordAt l 288

/-- What bytes 1 to 287 of a frame say. -/
def parseFrame (l : List (BitVec 8)) : SeamFrame where
  format := (byteAt l 1).extractLsb' 4 4
  sender := (wordAt l 2).extractLsb' 0 10
  senderPort := (wordAt l 2).extractLsb' 10 2
  parent := bit (wordAt l 2) 12
  noId := bit (wordAt l 2) 13
  cycle := wordAt l 4
  tree := {
    prio := byteAt l 6, serial := wordAt l 7 ++ dwordAt l 9, hops := byteAt l 13, rseq := byteAt l 14
    noRoot := (byteAt l 15).getLsbD 0 }
  time := {
    txTime := qwordAt l 16, rxTime := qwordAt l 24, rxCycle := wordAt l 32, tstate := (byteAt l 34).extractLsb' 0 2 }
  slots := frameSlots l
  roll := frameRoll l
  msg := frameMsg l

end Sys2Proof.Machine
end

