-- ==== Sys2Proof/Machine/SeamTree.lean ====
section
/-! DEFINITION. The tree and the time of the Seam link (15 15.1, 15.2, 15.4): ports, root election, link delay,
offset and time states. -/

namespace Sys2Proof.Machine

/-! ### This module -/

/-- The ports. -/
def allPorts : List (Fin 4) := List.finRange 4

/-- SEAM_CTRL.PORTEN of port `p`. -/
def portOn (s : State) (p : Fin 4) : Bool := bit (runReg s 0x020) p.val

/-- Some port is enabled; without one the link reads its reset values (log entry 23). -/
def anyPort (s : State) : Bool := allPorts.any (portOn s)

/-- A port that carries nothing: lasting, or its domain is dead (16 Tables 16.3, 16.7). -/
def portDead (s : State) (p : Fin 4) : Bool := isLasting s ⟨9, p.val⟩ || domainDead s (198 + p.val) || domainDead s 202

/-- Port `p` carries frames: enabled, its link up, not under test (15 R510) and not dead. -/
def portLive (s : State) (p : Fin 4) : Bool :=
  awake s && portOn s p && s.seam.ports[p].up && !portDead s p && !isTesting s ⟨9, p.val⟩

/-- The root key of this module (15 R511). -/
def ownKey (s : State) : RootKey := { prio := (runReg s 0x020).extractLsb' 4 8, serial := serialOf s }

/-- The module sends its own roll-call entry, publications and messages (15 R537, R538). -/
def speaks (s : State) : Bool := (ownId s).isSome && !s.seam.dupId

/-! ### Offers (15 R511-R513) -/

/-- A root key as a number; a lower one is better. -/
def RootKey.rank (k : RootKey) : Nat := k.prio.toNat * 2 ^ 48 + k.serial.toNat

/-- The key of a tree block. -/
def treeKey (t : TreeBlock) : RootKey := { prio := t.prio, serial := t.serial }

/-- The tree block on port `p` while its RSEQ changes (R512). -/
def liveTree (s : State) (p : Fin 4) : Option TreeBlock :=
  if portLive s p && s.seam.ports[p].rseqAge < 8 then
    match s.seam.ports[p].tree with
    | some t => if t.noRoot then none else some t
    | none => none
  else none

/-- The offer of port `p`: the tree block it comes in (R512). -/
def offerOf (s : State) (p : Fin 4) : Option TreeBlock :=
  match liveTree s p with
  | some t => if t.hops.toNat < 64 then some t else none
  | none => none

/-- The sender's device ID in the order of R513; a sender without an ID ranks last (R538). -/
def senderRank (s : State) (p : Fin 4) : Nat :=
  if s.seam.ports[p].senderNoId then 1024 else s.seam.ports[p].sender.toNat

/-- The rank of the offer of port `p`: root key, hops, sender, port (R513). -/
def offerRank (s : State) (p : Fin 4) : Option Nat :=
  (offerOf s p).map fun t => (((treeKey t).rank * 256 + t.hops.toNat) * 2048 + senderRank s p) * 4 + p.val

/-- The best offer of some ports: its rank and port. -/
def bestOf (s : State) (ports : List (Fin 4)) : Option (Nat × Fin 4) :=
  ports.foldl (fun best p =>
    match offerRank s p, best with
    | some r, none => some (r, p)
    | some r, some b => if r < b.1 then some (r, p) else best
    | none, _ => best) none

/-- The best offer. -/
def bestOffer (s : State) : Option (Nat × Fin 4) := bestOf s allPorts

/-- The best of the offers that have beaten the module's own place for 8 cycles (R514, R516). -/
def heldOffer (s : State) : Option (Fin 4) :=
  (bestOf s (allPorts.filter fun p => decide (8 ≤ s.seam.ports[p].better))).map (·.2)

/-- The root key that port `p` offers. -/
def offerKey (s : State) (p : Fin 4) : Nat :=
  match offerOf s p with
  | some t => (treeKey t).rank
  | none => 0

/-- The module may be root (R511). -/
def mayRoot (s : State) : Bool := (ownKey s).prio != 255

/-- The own key is better than every offer, and the module may be root (R513). -/
def ownBest (s : State) : Bool :=
  mayRoot s && (match bestOffer s with
    | none => true
    | some b => decide ((ownKey s).rank ≤ offerKey s b.2))

/-- The best root is reached only at a distance above 64 (R518). -/
def tooDeepNow (s : State) : Bool :=
  allPorts.any fun p =>
    match liveTree s p with
    | some t =>
      decide (64 ≤ t.hops.toNat) && (!mayRoot s || decide ((treeKey t).rank < (ownKey s).rank)) &&
        (match bestOffer s with
         | none => true
         | some b => decide ((treeKey t).rank < offerKey s b.2))
    | none => false

/-! ### Time states (15 R523-R525) -/

/-- The time runs free (Table 15.3). -/
def freeTime (s : State) : State :=
  setSeamStat 1 (modSeam (fun m => { m with tstate := .free, tcount := 0, offs := [], corr := 0 }) s)

/-- The module becomes the root (Table 15.3). -/
def becomeRoot (s : State) : State :=
  modSeam (fun m => { m with
    isRoot := true, parentPort := none, tooDeep := false, tstate := .locked, tcount := 0, offset := 0, corr := 0
    done := 0, measured := false, offs := [] }) s

/-- The module takes port `p` as its parent. What it measured stays, so that an offset that changes by more than 1 us with
the parent is a jump (R523). -/
def takeParent (p : Fin 4) (s : State) : State :=
  modSeam (fun m => { m with isRoot := false, parentPort := some p, tooDeep := false }) s

/-- The module has no root. -/
def loseRoot (s : State) : State := modSeam (fun m => { m with
  isRoot := false, parentPort := none, measured := false }) s

/-- Samples of the old time base are discarded, and what was measured in it is moved (15 R530). -/
def Watch.rebase (o : Int) (w : Watch) : Watch :=
  { w with held := false, fresh := false, stamp := w.stamp + BitVec.ofInt 64 o }

/-- The time steps by `o` (Table 15.3). -/
def stepTime (o : Int) (s : State) : State :=
  let x : BitVec 64 := BitVec.ofInt 64 o
  setSeamStat 0 (modSeam (fun m => { m with
    time := m.time + x
    cycle := (m.time + x).toNat / 25000
    subs := m.subs.map (Watch.rebase o)
    mems := m.mems.map (Watch.rebase o)
    ports := m.ports.map fun p => { p with
      tx := p.tx.map fun t => (t.1, t.2 + x)
      lastRx := p.lastRx.map fun t => (t.1, t.2 + x) } }) s)

/-- The spread of a list of offsets is within 1 us. -/
def offsClose (l : List Int) : Bool := l.all fun a => l.all fun b => decide ((a - b).natAbs ≤ 1000)

/-- FREE with four close measurements: SLEWING, after a step when the offset exceeds 10 us (Table 15.3). -/
def tryAcquire (o : Int) (s : State) : State :=
  let l := (o :: s.seam.offs).take 4
  let s := modSeam (fun m => { m with offs := l }) s
  if l.length = 4 ∧ offsClose l = true then
    let s := modSeam (fun m => { m with tstate := .slewing, tcount := 0, offs := [] }) s
    if 10000 < o.natAbs then modSeam (fun m => { m with done := o }) (stepTime o s) else s
  else s

/-- A measured offset in SLEWING or LOCKED: the lock count and the correction, at most 10 ns (R524). -/
def slewTime (o : Int) (s : State) : State :=
  modSeam (fun m =>
    let n := if o.natAbs ≤ 50 then m.tcount + 1 else 0
    let c := clampInt o (-10) 10
    { m with
      tcount := n
      tstate := if m.tstate = .slewing ∧ 16 ≤ n then .locked else m.tstate
      corr := m.corr + c, done := c }) s

/-- The offset to the parent is measured (R522, R523). -/
def takeOffset (o : Int) (s : State) : State :=
  let m := s.seam
  let jump := m.measured && decide (1000 < (o - (m.offset - m.done)).natAbs)
  let s := modSeam (fun m => { m with offset := o, done := 0, measured := true }) (if jump then freeTime s else s)
  if timeFree s then tryAcquire o s else slewTime o s

/-- The link delay of a port, the mean of its last measurements (R521). -/
def portDelay (p : Port) : Int := (p.delays.foldl (· + ·) 0).tdiv ((2 * p.delays.length : Nat) : Int)

/-- The time block of a frame on port `p` (R521, R522). -/
def takeTimeBlock (p : Fin 4) (t : TimeBlock) (arrival : BitVec 64) (s : State) : State :=
  let s := match (s.seam.ports[p].tx.find? fun x => x.1 == t.rxCycle) with
    | some x =>
      let d2 := (arrival - x.2).toInt - (t.txTime - t.rxTime).toInt
      modPort p (fun q => { q with delays := (d2 :: q.delays).take 16 }) s
    | none => s
  if s.seam.parentPort = some p ∧ s.seam.ports[p].delays ≠ [] then
    takeOffset ((t.txTime - arrival).toInt + portDelay s.seam.ports[p]) s
  else s

/-! ### The election (15 R513-R518) -/

/-- The parent changes to the best offer, or there is no root. -/
def chooseAgain (s : State) : State :=
  if ownBest s then becomeRoot s
  else match bestOffer s with
    | some b => takeParent b.2 s
    | none => loseRoot s

/-- The decision of a cycle. -/
def elect (s : State) : State :=
  let held := heldOffer s
  if tooDeepNow s then
    if s.seam.tooDeep then s
    else raiseFault 0x7100 [] 0xFFFF 0 (setSeamStat 13 (freeTime (modSeam (fun m => { m with
      isRoot := false, parentPort := none, tooDeep := true }) s)))
  else
    let s := modSeam (fun m => { m with tooDeep := false }) s
    if s.seam.isRoot then
      if !mayRoot s then chooseAgain (freeTime (loseRoot s))
      else match held with
        | some p => takeParent p (freeTime s)
        | none => s
    else match s.seam.parentPort with
      | none => chooseAgain s
      | some p =>
        if (offerOf s p).isNone then
          if (bestOffer s).isNone then chooseAgain (freeTime s) else chooseAgain s
        else if ownBest s then becomeRoot s
        else match held with
          | some b => takeParent b s
          | none => s

/-- The rank an offer must beat: the parent's, or the own key at a root. -/
def beats (s : State) (p : Fin 4) : Bool :=
  match offerRank s p with
  | none => false
  | some r =>
    if s.seam.isRoot then decide (offerKey s p < (ownKey s).rank)
    else match s.seam.parentPort with
      | none => false
      | some q =>
        match offerRank s q with
        | some x => p != q && decide (r < x)
        | none => false

/-- ROLE of port `p` (15 Table 15.8, R515). -/
def portRole (s : State) (p : Fin 4) : BitVec 2 :=
  if !portLive s p then 0
  else if s.seam.parentPort = some p then 1
  else if s.seam.ports[p].parentFlag then 2
  else 3

/-- The roles follow the tree. -/
def setPortRoles (s : State) : State :=
  let r := Vector.ofFn fun p => portRole s p
  let s' := forEach allPorts (fun p => modPort p fun q => { q with role := r[p] }) s
  if allPorts.all fun p => s.seam.ports[p].role == r[p] then s' else setSeamStat 3 s'

/-- Root, hops and RSEQ after an election (R514, Table 15.1). -/
def followRoot (s : State) : State :=
  let m := s.seam
  let r : Option RootKey × Nat × BitVec 8 :=
    if m.isRoot then (some (ownKey s), 0, m.rseq + 1)
    else match m.parentPort with
      | none => (none, 0, m.rseq)
      | some p =>
        match m.ports[p].tree with
        | some t => (some (treeKey t), t.hops.toNat + 1, t.rseq)
        | none => (none, 0, m.rseq)
  let s' := modSeam (fun m => { m with root := r.1, hops := r.2.1, rseq := r.2.2 }) s
  setPortRoles (if m.root = r.1 then s' else setSeamStat 2 s')

/-- The tree of one cycle (R512-R518): RSEQ ages, better offers are counted, the module elects. -/
def stepTree (s : State) : State :=
  if !anyPort s then
    modSeam (fun m => { m with
      root := none, isRoot := false, parentPort := none, hops := 0, tooDeep := false, tstate := .free, offset := 0
      corr := 0, done := 0, measured := false, offs := [] }) s
  else
    let s := forEach allPorts (fun p => modPort p fun q => { q with rseqAge := q.rseqAge + 1 }) s
    let b := Vector.ofFn fun p => beats s p
    let s := forEach allPorts (fun p => modPort p fun q => { q with better := if b[p] then q.better + 1 else 0 }) s
    followRoot (elect s)

/-- The tree block of a frame (R512). -/
def takeTreeBlock (p : Fin 4) (f : SeamFrame) (arrival : BitVec 64) (s : State) : State :=
  modPort p (fun q =>
    let changed := match q.tree with
      | some t => t.rseq != f.tree.rseq
      | none => false
    { q with
      rseqAge := if changed then 0 else if q.tree.isNone then 8 else q.rseqAge
      tree := some f.tree, sender := f.sender, senderNoId := f.noId, parentFlag := f.parent
      neighbour := f.sender, lastRx := some (f.cycle, arrival) }) s

/-! ### Links (15 R509, R510) -/

/-- SEAM_LINK_UP (R509). -/
def linkUp (p : Fin 4) (s : State) : State :=
  if awake s && portOn s p && !s.seam.ports[p].up && !portDead s p && !isTesting s ⟨9, p.val⟩ then
    setPortRoles (modPort p (fun q => { resetPort with
      up := true, badFrames := q.badFrames, alerts := q.alerts, queue := q.queue }) s)
  else s

/-- See `linkUp`. -/
def execSeamLinkUp (port : Fin 4) (s : State) : Host.Outcome State Fault Refusal := .next (linkUp port s)

/-- A port error: class 0x7 fault and the port's test (R510). -/
def portError (p : Fin 4) (detail : Nat) (s : State) : State :=
  setSeamStat 12 (raiseFault (faultCode 0x70 (p.val + 64 * detail)) [⟨9, p.val⟩] 0xFFFF 0 s)

/-- The election that a lost parent port starts at once (R514). -/
def reelect (s : State) : State :=
  match s.seam.parentPort with
  | some p => if (offerOf s p).isNone then followRoot (elect s) else setPortRoles s
  | none => setPortRoles s

/-- SEAM_LINK_DOWN (R509, R510). -/
def linkDown (p : Fin 4) (s : State) : State :=
  if awake s && portOn s p && s.seam.ports[p].up then
    let s := modPort p (fun q => { resetPort with
      badFrames := q.badFrames, alerts := q.alerts, queue := q.queue }) s
    reelect (portError p 0 s)
  else s

/-- See `linkDown`. -/
def execSeamLinkDown (port : Fin 4) (s : State) : Host.Outcome State Fault Refusal := .next (linkDown port s)

/-- A frame with a bad CRC is discarded and counted; four within 1 s are a port error (R510, R520). -/
def badFrame (p : Fin 4) (s : State) : State :=
  let t := (s.seam.ports[p].badTimes.filter fun x => decide (s.now < x + 200000000)) ++ [s.now]
  let s := modPort p (fun q => { q with badFrames := satInc q.badFrames, badTimes := if 4 ≤ t.length then [] else t }) s
  if 4 ≤ t.length then reelect (portError p 1 s) else s

end Sys2Proof.Machine
end

