-- ==== Sys2Proof/Machine/SeamGang.lean ====
section
/-! DEFINITION. Angle channels, roll call, gangs and alerts of the Seam link (15 15.5, 15.6, 15.8), its cycle and its
frames (15.3). -/

namespace Sys2Proof.Machine

/-! ### Publications (15 15.5) -/

/-- Publication `q` is enabled. -/
def pubOn (s : State) (q : Fin 2) : Bool := bit (seamWord s (16 * q.val)) 15

/-- The channel of publication `q`. -/
def pubChannel (s : State) (q : Fin 2) : Nat := bits (seamWord s (16 * q.val)) 0 6

/-! ### Samples taken (15 R529, R530) -/

/-- The full stamp of a sample, nearest to the own time (R532). -/
def fullStamp (now : BitVec 64) (stamp : DWord) : BitVec 64 :=
  now - (now.extractLsb' 0 32 - stamp).signExtend 64

/-- A usable sample. -/
def Watch.take (now : BitVec 64) (x : AngleSlot) (w : Watch) : Watch :=
  let i := x.seq.toNat % 4
  { w with
    held := true, angle := x.angle, speed := x.speed.toInt, stamp := fullStamp now x.stamp, lastSeq := some x.seq
    fresh := true, everUsable := true, hops := x.hops, trip := x.trip, run := x.run, gstop := x.gstop
    formed := x.formed, aux := x.aux
    fpLo := if i = 0 then some x.info else w.fpLo
    fpHi := if i = 1 then some x.info else w.fpHi
    info2 := if i = 2 then some x.info else w.info2
    infos := ((i, x.info) :: w.infos).take 4 }

/-- INFO of the last four samples at SEQ mod 4 = `i` (R549). -/
def Watch.info (w : Watch) (i : Nat) : Option Word := (w.infos.find? fun x => x.1 == i).map (·.2)

/-- A sample is usable for a watch (R530). -/
def usable (s : State) (x : AngleSlot) (w : Watch) : Bool :=
  w.lastSeq != some x.seq && !x.free && !timeFree s

/-- The axes of CMDAXES take the AUX of a usable sample (R533). -/
def commandAxes (k : Fin 4) (aux : Word) (s : State) : State :=
  forEach allAxes (fun n t =>
    if bit (seamWord t (0x22 + 16 * k.val)) n.val && t.axes[n].eff.cmdSrc == 4 then
      modDrive n (fun d => { d with cmdNow := aux.toInt }) t
    else t) s

/-- A sample of another publisher on the channel of subscription `k` (R529). -/
def wrongSource (k : Fin 4) (ch : Nat) (s : State) : State :=
  let s' := modSeam (fun m => { m with
    wrongSrc := m.wrongSrc.set k (satInc m.wrongSrc[k]), wrongOnce := setBit m.wrongOnce ch }) s
  if s.seam.wrongOnce.getLsbD ch then s' else raiseFault (faultCode 0x72 ch) [] 0xFFFF 0 (setSeamStat 14 s')

/-- Subscription `k` meets a sample (R529, R530). -/
def subSample (x : AngleSlot) (k : Fin 4) (s : State) : State :=
  if !subOn s k || subChannel s k != x.ch.toNat then s
  else if subPub s k != x.src then wrongSource k x.ch.toNat s
  else if usable s x s.seam.subs[k] then
    commandAxes k x.aux (modSeam (fun m => { m with subs := m.subs.set k (m.subs[k].take m.time x) }) s)
  else s

/-- The leader's watch of entry `m` meets a sample (R549). -/
def memSample (x : AngleSlot) (m : Fin 8) (s : State) : State :=
  if isLeader s && m != 0 && memOn s m && memChannel s m == x.ch.toNat && memId s m == x.src &&
      usable s x s.seam.mems[m] then
    modSeam (fun t => { t with mems := t.mems.set m (t.mems[m].take t.time x) }) s
  else s

/-- An angle slot of a frame on port `p`: taken, and held for sending on (R528). -/
def takeSlot (p : Fin 4) (s : State) (x : AngleSlot) : State :=
  let s := forEach (List.finRange 4) (subSample x) s
  let s := forEach (List.finRange 8) (memSample x) s
  modSeam (fun m => { m with
    samples := (m.samples.filter fun h => h.1 != x.ch.toNat) ++
      [(x.ch.toNat, { port := some p, slot := x, now := true })] }) s

/-! ### Roll call (15 R534-R537) -/

/-- The peer `d` was reset or its session ended: its items are orphaned (R547). -/
def losePeer (d : DevId) (s : State) : State := setSeamStat 7 (orphanPeer d s)

/-- An EPOCH of device `d` arrives (R547). -/
def noteEpoch (d : DevId) (e : Word) (s : State) : State :=
  match s.seam.epochs.find? fun x => x.1 == d with
  | none => modSeam (fun m => { m with epochs := m.epochs ++ [(d, e)] }) s
  | some x =>
    if x.2 = e then s
    else losePeer d (modSeam (fun m => { m with
      epochs := m.epochs.map fun y => if y.1 = d then (d, e) else y }) s)

/-- The stored entry of a device. -/
def rollOf (s : State) (d : DevId) : Option RollStore := s.seam.roll.find? fun r => r.entry.dev == d

/-- A roll-call entry on port `p` (R535, R537). -/
def takeRoll (p : Fin 4) (e : RollEntry) (s : State) : State :=
  if ownId s = some e.dev then
    if e.serialLo = (serialOf s).extractLsb' 0 16 then s
    else raiseFault 0x7101 [] 0xFFFF 0 (setSeamStat 8 (modSeam (fun m => { m with dupId := true }) s))
  else
    let s := noteEpoch e.dev e.epoch s
    let new : RollStore := { entry := { e with age := satInc e.age }, port := p, fresh := true }
    let keep := match rollOf s e.dev with
      | none => false
      | some r => decide (r.entry.age.toNat ≤ e.age.toNat + 1) && r.port != p
    if keep then s
    else modSeam (fun m => { m with roll := (m.roll.filter fun r => r.entry.dev != e.dev) ++ [new] }) s

/-- The end of a round of 1,024 cycles (R535). -/
def ageRoll (s : State) : State :=
  modSeam (fun m => { m with roll := m.roll.map fun r =>
    { r with entry := { r.entry with age := if r.fresh then r.entry.age else satInc r.entry.age }, fresh := false } }) s

/-- Some axis is in one of these states. -/
def anyAxis (s : State) (f : AxSt → Bool) : Bool := allAxes.any fun n => f (axSt s n)

/-- The own roll-call entry (Table 15.4). -/
def ownRoll (s : State) (id : DevId) : RollEntry where
  dev := id
  epoch := s.boot.epoch
  age := 0
  cls := s.boot.compat
  gang := gangNumber s
  status :=
    putBit (putBit (putBit (putBit (putBit 0 0 (anyAxis s fun a => a == .tripped || a == .latched)) 1
      (anyAxis s AxSt.driving)) 2 (s.flt.stat != 0)) 3 (timeFree s)) 4 s.seam.isRoot
  hops := BitVec.ofNat 8 s.seam.hops
  serialLo := (serialOf s).extractLsb' 0 16

/-- The roll-call slot of the cycle (R534). -/
def rollSlot (s : State) : Option RollEntry :=
  let d : DevId := BitVec.ofNat 10 s.seam.cycle
  if ownId s = some d then (if speaks s then some (ownRoll s d) else none)
  else match rollOf s d with
    | some r => if r.entry.age.toNat < 64 then some r.entry else none
    | none => none

/-- The number of present devices (R536). -/
def rollCount (s : State) : Nat :=
  if anyPort s then (s.seam.roll.filter fun r => decide (r.entry.age.toNat < 64)).length + 1 else 0

/-- The route to a device (R535). -/
def routeTo (s : State) (d : DevId) : Option (Fin 4) :=
  match rollOf s d with
  | some r => if r.entry.age.toNat < 64 then some r.port else none
  | none => none

/-! ### Gangs (15 15.8) -/

/-- A gang axis is TRIPPED, LATCHED or TEST. -/
def gangTrip (s : State) : Bool :=
  (gangAxes s).any fun n => match axSt s n with
    | .tripped | .latched | .test => true
    | _ => false

/-- START, RUN, STOPPING or HOLD. -/
def AxSt.gangRun : AxSt → Bool
  | .start | .run | .stopping | .hold => true
  | _ => false

/-- A gang rule sends an axis to GANGSTOP (10 Table 10.4), out of a motion that ends too. -/
def gangStop (n : Fin 8) (s : State) : State :=
  let l := leaderOf s n
  if (axSt s n).gangRun then
    setState l .gangstop (modDrive l (fun d => { d with stop := .none, wait := .none, offNext := false }) s)
  else s

/-- Every gang axis stops while the gang is not formed (R555); a shared channel that is stale stops it only after 200 us
(log entry 42). -/
def stopUnformed (s : State) : State :=
  if gangNumber s != 0 && !s.seam.gang.formed then forEach (gangAxes s) gangStop s else s

/-- The gang is not formed any more (R554, R555); `kind3` is a cause that a leader reports by alerts of kind 3. -/
def breakGang (kind3 : Bool) (s : State) : State :=
  if s.seam.gang.formed then
    let lead := isLeader s
    let s := modSeam (fun m => { m with gang := { m.gang with
      formed := false, agreeCycles := 0, brokenLeft := if lead && kind3 then 8 else m.gang.brokenLeft } }) s
    stopUnformed (if lead then setSeamStat 6 s else s)
  else modSeam (fun m => { m with gang := { m.gang with agreeCycles := 0 } }) s

/-- The fingerprint in the last four samples, where they hold both halves, is the own one (R549). -/
def sameFprint (s : State) (w : Watch) : Option Bool :=
  match w.info 0, w.info 1 with
  | some a, some b => some (joinWords a b == fprintReg s)
  | _, _ => none

/-- INFO word 2 of the last four samples, where they hold it, shows the own gang number and class (R549). -/
def sameGang (s : State) (w : Watch) : Option Bool :=
  (w.info 2).map fun i => i == (gangNumber s).setWidth 16 <<< 8 ||| s.boot.compat.setWidth 16

/-- The causes for which a watched channel does not agree (R549), in the order of SEAM_AGREE.WHY; what the last four
samples do not hold counts as `unknown`. -/
def causesWith (unknown : Bool) (s : State) (w : Watch) : BitVec 6 :=
  putBit (putBit (putBit (putBit (putBit 0 0 w.stale) 1 (!(sameFprint s w).getD unknown))
    2 (!(sameGang s w).getD unknown)) 3 (decide (16 < w.hops.toNat + 1))) 4 w.trip

/-- The causes that keep a watched channel from agreeing. -/
def watchCauses (s : State) (w : Watch) : BitVec 6 := causesWith false s w

/-- The causes of the own entry. -/
def ownCauses (s : State) : BitVec 6 := putBit (putBit 0 4 (gangTrip s)) 5 (timeFree s)

/-- The causes of entry `m` of the gang list, `unknown` as in `causesWith`; a member knows its leader and itself only. -/
def entryWith (unknown : Bool) (s : State) (m : Fin 8) : BitVec 6 :=
  if gangNumber s = 0 ∨ memOn s m = false then 0
  else if ownId s = some (memId s m) then ownCauses s
  else if isLeader s then causesWith unknown s s.seam.mems[m]
  else if m = 0 then
    match sharedSub s with
    | some k => causesWith unknown s s.seam.subs[k]
    | none => 1
  else 0

/-- The causes of entry `m` of the gang list (Table 15.9). -/
def entryCauses (s : State) (m : Fin 8) : BitVec 6 := entryWith false s m

/-- Entry `m` of the gang list agrees, as far as this module knows. -/
def entryAgrees (s : State) (m : Fin 8) : Bool :=
  gangNumber s != 0 && memOn s m && entryCauses s m == 0 &&
    (isLeader s || m == 0 || ownId s == some (memId s m))

/-- Causes other than a stale channel and the own time: known, they break a formed gang at once (log entry 42). -/
def hardCauses : BitVec 6 := 0x1E

/-- The gang at a cycle (R549, R550, R555). -/
def stepGang (s : State) : State :=
  let causes := Vector.ofFn fun m => entryCauses s m
  let agree : BitVec 8 := (List.finRange 8).foldl (fun v m => putBit v m.val (entryAgrees s m)) 0
  let s := modSeam (fun t => { t with gang := { t.gang with causes := causes, agree := agree } }) s
  if gangNumber s = 0 then modSeam (fun t => { t with gang := { t.gang with formed := false, agreeCycles := 0 } }) s
  else
    let known := (List.finRange 8).map fun m => entryWith true s m
    let hard := known.any fun c => c &&& hardCauses != 0
    let ok :=
      if isLeader s then (List.finRange 8).all fun m => causes[m] == 0
      else match sharedSub s with
        | some k => causes[(0 : Fin 8)] == 0 && s.seam.subs[k].formed
        | none => false
    let shows := isLeader s || (match sharedSub s with
      | some k => s.seam.subs[k].formed
      | none => false)
    let n := if ok then s.seam.gang.agreeCycles + 1 else 0
    let s := modSeam (fun t => { t with gang := { t.gang with agreeCycles := n } }) s
    if s.seam.gang.formed then
      if hard || !shows then
        breakGang (!gangTrip s && s.seam.gang.configLeft == 0 && known.any fun c => c &&& 0x0E != 0) s
      else s
    else if ok && (!isLeader s || 8 ≤ n) then
      setSeamStat 5 (modSeam (fun t => { t with gang := { t.gang with formed := true } }) s)
    else stopUnformed s

/-- GANG_STALE_TIMEOUT (R555): a channel of the gang has been stale for more than 200 us. -/
def gangStale (s : State) : State :=
  let stale :=
    if isLeader s then (List.finRange 8).any fun m => m != 0 && memOn s m && s.seam.mems[m].stale
    else match sharedSub s with
      | some k => s.seam.subs[k].stale
      | none => true
  if awake s && gangNumber s != 0 && stale then breakGang true s else s

/-- See `gangStale`. -/
def execGangStaleTimeout (s : State) : Host.Outcome State Fault Refusal := .next (gangStale s)

/-! ### Alerts (15 R552-R554) -/

/-- A port inserts an alert, or keeps it for a later cycle (R553). -/
def Port.insert (a : BitVec 8 × AlertKind) (q : Port) : Port :=
  if q.alertSent < 2 then { q with alertOut := q.alertOut ++ [a], alertSent := q.alertSent + 1 }
  else { q with alertWait := q.alertWait ++ [a] }

/-- An alert goes out on every parent or active port but `skip`, once per gang, kind and cycle (R553). -/
def sendAlert (a : BitVec 8 × AlertKind) (skip : Option (Fin 4)) (s : State) : State :=
  if s.seam.alertSeen.contains a then s
  else
    let s := modSeam (fun m => { m with alertSeen := m.alertSeen ++ [a] }) s
    forEach (allPorts.filter fun p => (s.seam.ports[p].role == 1 || s.seam.ports[p].role == 2) && skip != some p)
      (fun p => modPort p (Port.insert a)) s

/-- An own alert of kind 1 while a gang axis is down (R552). -/
def alertTrip (s : State) : State :=
  if awake s && gangNumber s != 0 && gangTrip s then sendAlert (gangNumber s, .trip) none s else s

/-- The alerts of a cycle (R552, R553). -/
def stepAlerts (s : State) : State :=
  let s := modSeam (fun m => { m with
    alertSeen := []
    ports := m.ports.map fun q => { q with
      alertOut := q.alertWait.take 2, alertWait := q.alertWait.drop 2, alertSent := (q.alertWait.take 2).length } }) s
  let g := gangNumber s
  let s := alertTrip s
  let s := if 0 < s.seam.gang.configLeft then sendAlert (s.seam.gang.configGang, .config) none s else s
  let s := if 0 < s.seam.gang.brokenLeft then sendAlert (g, .broken) none s else s
  modSeam (fun m => { m with gang := { m.gang with
    configLeft := m.gang.configLeft - 1, brokenLeft := m.gang.brokenLeft - 1 } }) s

/-- SEAM_ALERT_RECEIVED (R553, R554). -/
def alertReceived (p : Fin 4) (g : BitVec 8) (k : AlertKind) (s : State) : State :=
  if !portLive s p || s.seam.ports[p].role == 3 then s
  else
    let s := modPort p (fun q => { q with alerts := q.alerts + 1 }) s
    let s := sendAlert (g, k) (some p) s
    if g = gangNumber s ∧ g ≠ 0 then
      let s := if isLeader s && k == .trip then modSeam (fun m => { m with gang := { m.gang with
          causes := (Vector.ofFn fun i =>
            if i ≠ 0 ∧ memOn s i = true then setBit m.gang.causes[i] 4 else m.gang.causes[i])
          agree := m.gang.agree &&& 1 } }) s
        else s
      breakGang false s
    else s

/-- See `alertReceived`. -/
def execSeamAlertReceived (port : Fin 4) (gang : BitVec 8) (kind : AlertKind) (s : State) :
    Host.Outcome State Fault Refusal := .next (alertReceived port gang kind s)

/-! ### A cycle (15 R519) -/

/-- A watch at a cycle start (R531). -/
def Watch.cycle (w : Watch) : Watch := { w with missed := if w.fresh then 0 else satInc w.missed, fresh := false }

/-- Subscription `k` at a cycle start. -/
def stepSub (k : Fin 4) (s : State) : State :=
  if subOn s k then
    let old := s.seam.subs[k]
    let new := old.cycle
    let s := modSeam (fun m => { m with subs := m.subs.set k new }) s
    if new.stale && (!old.stale || old.missed == 0) then setSeamStat 4 s else s
  else s

/-- The angle slot of publication `q` (15 Table 15.2). -/
def pubSlot (s : State) (q : Fin 2) (id : DevId) : AngleSlot :=
  let p := s.seam.pubs[q]
  let sel := bits (seamWord s (16 * q.val + 3)) 0 4
  let fp := fprintReg s
  { ch := BitVec.ofNat 6 (pubChannel s q), seq := p.seq, free := p.free, hops := 0, src := id
    trip := gangTrip s
    run := (gangAxes s).any fun n => (axSt s n).gangRun
    gstop := (gangAxes s).any fun n => axSt s n == .gangstop
    formed := gangFormed s
    aux := if h : 1 ≤ sel ∧ sel ≤ 8 then satWord (cmdNow s ⟨sel - 1, by omega⟩)
      else liveWord s 0x0A (16 * q.val + 2)
    info := (match p.seq.toNat % 4 with
      | 0 => loWord fp
      | 1 => hiWord fp
      | 2 => (gangNumber s).setWidth 16 <<< 8 ||| s.boot.compat.setWidth 16
      | _ => 0)
    angle := p.angle, speed := BitVec.ofInt 32 p.speed, stamp := p.stamp.extractLsb' 0 32 }

/-- Publication `q` at a cycle start: without a SEAM_PUB action it samples its source (R527). A sample that cannot go
out in this cycle does not go out in a later one (07 R246). -/
def stepPub (q : Fin 2) (s : State) : State :=
  let unsent := modSeam (fun m => { m with pubs := m.pubs.set q { m.pubs[q] with loaded := false } }) s
  match ownId s with
  | none => unsent
  | some id =>
    if !pubOn s q || !speaks s then unsent
    else
      let k : Fin 32 := Fin.ofNat 32 (bits (seamWord s (16 * q.val + 1)) 0 5)
      let s := if s.seam.pubs[q].loaded then s else publish q k s
      let s := modSeam (fun m => { m with pubs := m.pubs.set q { m.pubs[q] with
        loaded := false, seq := m.pubs[q].seq + 1 } }) s
      let ch := pubChannel s q
      let slot := pubSlot s q id
      modSeam (fun m => { m with
        samples := (m.samples.filter fun h => h.1 != ch) ++ [(ch, { port := none, slot := slot, now := true })] }) s

/-- The samples held from the previous cycle become those to send; older ones go. -/
def turnSamples (s : State) : State :=
  modSeam (fun m => { m with samples := (m.samples.filter fun h => h.2.now).map fun h =>
    (h.1, { h.2 with now := false }) }) s

/-- The angle slots of a frame on port `p` (R528). -/
def slotsFor (s : State) (p : Fin 4) : List AngleSlot :=
  ((List.range 64).filterMap fun ch =>
    if bit (seamWord s (0x60 + 8 * p.val + ch / 16)) (ch % 16) then
      match s.seam.samples.find? fun h => h.1 == ch with
      | some h =>
        if h.2.port = some p then none
        else some (if h.2.port.isNone then h.2.slot else { h.2.slot with hops := h.2.slot.hops + 1 })
      | none => none
    else none).take 8

/-- The message at the head of the queue of port `p` has been sent (15 Table 15.9 SEND). -/
def sentMessage (m : Msg) (s : State) : State :=
  if s.seam.send = some m then setSeamStat 10 (modSeam (fun t => { t with send := none }) s) else s

/-- A message of this module waits: TTL is 64 at the sender alone (Table 15.5), and a module that may not speak sends none
(R537, R538; log entry 116). -/
def heldBack (s : State) (m : Msg) : Bool := !speaks s && m.ttl == 64

/-- The message that port `q` sends next. -/
def nextMsg (s : State) (q : Port) : Option Msg := q.queue.find? fun m => !heldBack s m

/-- Port `p` begins a frame (R519, R520); a blocked port, and a module without a root for distance, carry no slots,
roll call or messages (R515, R518). -/
def sendFrame (p : Fin 4) (s : State) : State :=
  if !portLive s p then modPort p (fun q => { q with out := none }) s
  else
    let m := s.seam
    let q := m.ports[p]
    let bare := q.role == 3 || m.tooDeep
    let rx := q.lastRx.getD (0, 0)
    let root := m.root.getD { prio := 0, serial := 0 }
    let f : SeamFrame := {
      format := 1
      sender := (ownId s).getD 0, senderPort := BitVec.ofNat 2 p.val, parent := m.parentPort == some p
      noId := (ownId s).isNone, cycle := BitVec.ofNat 16 m.cycle
      tree := { prio := root.prio, serial := root.serial, hops := BitVec.ofNat 8 m.hops, rseq := m.rseq
                noRoot := m.root.isNone }
      time := { txTime := m.time, rxTime := rx.2, rxCycle := rx.1
                tstate := (match m.tstate with
                  | .free => 0
                  | .slewing => 1
                  | .locked => 2) }
      slots := if bare then [] else slotsFor s p
      roll := if bare then none else rollSlot s
      msg := if bare then none else nextMsg s q }
    let s := modPort p (fun q => { q with
      out := some f
      tx := ((BitVec.ofNat 16 m.cycle, m.time) :: q.tx).take 16
      queue := (match f.msg with
        | some x => q.queue.erase x
        | none => q.queue) }) s
    match f.msg with
    | some x => sentMessage x s
    | none => s

/-- SEAM_CYCLE_START (R519): Seam time has reached a further multiple of 25,000 ns. -/
def seamCycleStart (s : State) : State :=
  let k := s.seam.time.toNat / 25000
  if !awake s || k ≤ s.seam.cycle then s
  else
    let round := k / 1024 != s.seam.cycle / 1024
    let s := modSeam (fun m => { m with cycle := k }) s
    let s := stepTree s
    let s := forEach (List.finRange 4) stepSub s
    let s := modSeam (fun m => { m with mems := m.mems.map Watch.cycle }) s
    let s := stepAlerts (stepGang s)
    let s := forEach [0, 1] stepPub (turnSamples s)
    let s := if round then ageRoll s else s
    let s := forEach allPorts sendFrame s
    let s := modSeam (fun m => { m with samples := m.samples.map fun h => (h.1, { h.2 with now := false }) }) s
    forEach allAxes reselect s

/-- See `seamCycleStart`. -/
def execSeamCycleStart (s : State) : Host.Outcome State Fault Refusal := .next (seamCycleStart s)

/-! ### At a commit -/

/-- What a changed Seam configuration starts and ends (15 R531, R537, R555): ports no longer enabled, newly enabled
subscriptions, a changed SEAM_ID, a gang left. -/
def seamSwapped (old : State) (s : State) : State :=
  let s := forEach allPorts (fun p t => if portOn t p then t else modPort p (fun q => { resetPort with queue := q.queue }) t) s
  let s := forEach (List.finRange 4) (fun k t =>
    let same := subOn old k && subChannel old k == subChannel t k && subPub old k == subPub t k
    if subOn t k && !same then modSeam (fun m => { m with subs := m.subs.set k resetWatch }) t else t) s
  let s := forEach (List.finRange 8) (fun i t =>
    if memOn old i && memId old i == memId t i && memChannel old i == memChannel t i then t
    else modSeam (fun m => { m with mems := m.mems.set i resetWatch }) t) s
  let s := if runReg old 0x022 = runReg s 0x022 then s else modSeam (fun m => { m with dupId := false }) s
  let s := if gangNumber s = 0 then
      let s := if old.seam.gang.formed && isLeader old then setSeamStat 6 s else s
      modSeam (fun m => { m with gang := { m.gang with
        formed := false, agree := 0, causes := Vector.replicate 8 0, agreeCycles := 0 } }) s
    else s
  setPortRoles (stopUnformed s)

end Sys2Proof.Machine
end

