-- ==== Sys2Proof/Machine/Messages.lean ====
section
/-! DEFINITION. Messages of the Seam network (15 15.7): the message slot in words, the queues of the ports, the outbox
and the inbox. -/

namespace Sys2Proof.Machine

/-! ### The message slot (15 Table 15.5) -/

/-- The types of Table 15.5. -/
def msgOpen : BitVec 8 := 1
/-- See `msgOpen`. -/
def msgClose : BitVec 8 := 2
/-- See `msgOpen`. -/
def msgRequest : BitVec 8 := 3
/-- See `msgOpen`. -/
def msgResponse : BitVec 8 := 4
/-- See `msgOpen`. -/
def msgNote : BitVec 8 := 5

/-- The message in the outbox; the module fills SRC, EPOCH and TTL. -/
def outboxMsg (s : State) (id : DevId) : Msg :=
  { wordsMsg s.seam.outbox.get with src := id, rsvSrc := 0, epoch := s.boot.epoch, ttl := 64 }

/-! ### Queues (R540) -/

/-- The queue of port `p` is full. -/
def queueFull (s : State) (p : Fin 4) : Bool := decide (8 ≤ s.seam.ports[p].queue.length)

/-- Port `p` queues a message, or discards it with MSGDROP. -/
def enqueue (p : Fin 4) (m : Msg) (s : State) : State :=
  if queueFull s p then setSeamStat 11 s else modPort p (fun q => { q with queue := q.queue ++ [m] }) s

/-- The ports on which a broadcast NOTE goes on: role parent or active, but not `skip`. -/
def notePorts (s : State) (skip : Option (Fin 4)) : List (Fin 4) :=
  allPorts.filter fun p => (s.seam.ports[p].role == 1 || s.seam.ports[p].role == 2) && skip != some p

/-- The ports that a message of this module leaves on; none for a broadcast of another type than NOTE. -/
def sendPorts (s : State) (m : Msg) : List (Fin 4) :=
  if m.broadcast then (if m.kind = msgNote then notePorts s none else []) else (routeTo s m.dst).toList

/-- SEND of the outbox (Table 15.9). A message that no port takes is discarded with MSGDROP (log entry 27). -/
def sendOutbox (s : State) : State :=
  if s.seam.send.isSome then s
  else match ownId s with
    | none => setSeamStat 11 s
    | some id =>
      let m := outboxMsg s id
      let ps := sendPorts s m
      if !speaks s || ps.all (queueFull s) then setSeamStat 11 s
      else modSeam (fun t => { t with send := some m }) (forEach ps (fun p => enqueue p m) s)

/-- A RESPONSE or a NOTE fills the inbox, or is discarded with MSGDROP. -/
def fillInbox (m : Msg) (s : State) : State :=
  if s.seam.full then setSeamStat 11 s
  else setSeamStat 9 (modSeam (fun t => { t with inbox := WordMem.putList [] 0 (msgWords m), full := true }) s)

/-- Releasing the inbox (Table 15.9 FULL). -/
def releaseInbox (s : State) : State := modSeam (fun m => { m with full := false }) s

end Sys2Proof.Machine
end

