-- ==== Sys2Proof/Machine/Spaces.lean ====
section
/-! DEFINITION. The words of the window spaces (03 Table 3.13): what a read returns and clears, which writes are
refused, and what a write does. -/

namespace Sys2Proof.Machine

/-! ### Space 0x02, the words the hardware writes -/

/-- The best progress of a returning rung, 1/16 turn (06 Table 6.6 REQCNT). -/
def reqCount (l : Ladder) : Word :=
  let best := (List.finRange 5).foldl (fun m i => if l.ret.getLsbD i.val then max m l.reqTravel[i] else m) 0
  BitVec.ofNat 16 (min 65535 (best * 16 / 4294967296))

/-- Word `o` of the block of axis `n` (10 Tables 10.10-10.12, 06 Table 6.6, 11 Table 11.5). -/
def blockWord (s : State) (n : Fin 8) (o : Nat) : Word :=
  let a := s.axes[n]
  let d := a.drv
  let p := a.probe
  let spref := BitVec.ofInt 32 (d.spref.tdiv 40000000000000000)
  match o with
  | 0x10 => satWord (cmdNow s n)
  | 0x11 => d.xNow
  | 0x12 => (match d.lrStart with
    | some t => BitVec.ofNat 16 (min 16383 ((s.now - t) / 200000))
    | none => 0)
  | 0x30 => loWord spref
  | 0x31 => hiWord spref
  | 0x32 => satWord (d.accel.tdiv 2000000000)
  | 0x33 => satWord (d.iref.tdiv 200000)
  | 0x34 => d.duty
  | 0x48 => BitVec.ofNat 16 d.sector ||| flagBit d.hem.isSome 3
  | 0x49 => (match d.hem with
    | some h => h.b
    | none => 0)
  | 0x98 => a.ladder.qual.setWidth 16 ||| (a.ladder.ret.setWidth 16 <<< 5)
  | 0x99 => reqCount a.ladder
  | 0x9A => a.ladder.blendP
  | 0xA4 => p.angle
  | 0xA5 => p.quality.setWidth 16
  | 0xA6 => p.outcome.setWidth 16 ||| (p.attempts.setWidth 16 <<< 3) ||| flagBit p.aligned 6
  | 0xA7 => p.widthUsed.setWidth 16
  | 0xAE => a.inj.err
  | 0xAF => a.inj.resp.setWidth 16
  | 0xB4 => flagBit a.bemf.locked 0 ||| BitVec.ofNat 16 (2 * min 15 a.bemf.counted)
      ||| (a.bemf.cross.setWidth 16 <<< 8)
  | 0xB5 => a.bemf.amp.setWidth 16
  | 0xB6 => loWord (BitVec.ofInt 32 a.bemf.speed)
  | 0xB7 => hiWord (BitVec.ofInt 32 a.bemf.speed)
  | 0xB8 => flagBit a.inj.gate 0 ||| flagBit a.inj.latch 1 ||| flagBit a.inj.seeded 2
      ||| flagBit a.inj.converged 3 ||| (a.inj.convCount.setWidth 16 <<< 8)
  | _ => 0

/-- Word `o` of the tail of block `k`, station source 24 + k (06 Table 6.7). -/
def tailStatus (s : State) (k : Fin 8) (o : Nat) : Word :=
  let src := s.src[(⟨24 + k.val, by omega⟩ : Fin 32)]
  match o with
  | 0xE4 =>
    if h : k.val < 2 then flagBit s.mains[k.val].lock 0 ||| flagBit s.mains[k.val].range 1
    else if h : k.val < 6 then
      let j : Fin 4 := ⟨k.val - 2, by omega⟩
      flagBit (subOn s j && subStale s j) 0 ||| flagBit src.isOver 1
    else flagBit src.isOver 1
  | 0xE5 => if h : k.val < 2 then BitVec.ofNat 16 (s.mains[k.val].freq / 10) else 0
  | 0xE6 => hiWord src.angle
  | _ => 0

/-! ### Space 0x08, the words the hardware writes (09 Tables 9.11, 9.12) -/

/-- The supply of a channel. -/
def chanSupply (k : Fin 48) : Fin 32 :=
  ⟨4 * (k.val / 6) + (if k.val % 2 = 0 then k.val % 6 / 2 else 3), by have := k.isLt; split <;> omega⟩

/-- The Miller clamp of a channel is engaged (09 R311): enabled, the channel off, and its gate below the Kelvin return plus
2 V, which a standing gate fault may show it is not (log entry 115). -/
def clampHolds (s : State) (k : Fin 48) : Bool :=
  let c := s.chan[k]
  !chanDriven s k && !c.soft && (bit (runWord s 8 (16 * k.val + 2)) 9 || s.power.pstate == .standby) &&
    !(c.gateFault && decide (20 ≤ c.vgate.toInt))

/-- Word `w` of the block of channel `k`. -/
def channelWord (s : State) (k : Fin 48) (w : Nat) : Word :=
  let c := s.chan[k]
  let n := chanBridge k
  let on := gateOn s n (chanLeg k) (chanHigh k)
  let fed := gateSide s n
  match w with
  | 0x8 =>
    flagBit (switchOn s n (chanLeg k) (chanHigh k)) 0 ||| flagBit (fed && !c.gateFault) 1 ||| flagBit c.dsActive 2
      ||| flagBit (fed && clampHolds s k) 3
      ||| flagBit (fed && s.supply[chanSupply k].ok) 4 ||| flagBit c.overTemp 5 ||| flagBit c.soft 6
  | 0x9 => c.temp
  | 0xA => c.dsCount
  | 0xB => if !fed then 0 else if c.gateFault then c.vgate else railOf s n on
  | _ => 0

/-- Word `w` of the block of bridge `n`. -/
def bridgeStatus (s : State) (n : Fin 8) (w : Nat) : Word :=
  let t := s.axes[n].trip
  match w with
  | 0x8 => t.dsMap.setWidth 16 ||| (t.extMap.setWidth 16 <<< 8)
  | 0x9 => flagBit t.allOff 0 ||| flagBit t.lowShort 1 ||| flagBit t.forced 2
  | 0xA =>
    if gateSide s n then
      (List.finRange 4).foldl (fun v i =>
        putBit v i.val s.supply[(⟨4 * n.val + i.val, by omega⟩ : Fin 32)].ok) 0
    else 0
  | 0xB => t.trips
  | _ => 0

/-! ### Space 0x0A (15 Table 15.9) -/

/-- Word `w` of subscription `k`. -/
def subWord (s : State) (k : Fin 4) (w : Nat) : Word :=
  let x := s.seam.subs[k]
  match w with
  | 0x8 => x.missed.setWidth 16 ||| flagBit (subOn s k && x.stale) 15
  | 0x9 => if x.held then x.hops.setWidth 16 + 1 else 0
  | 0xB => s.seam.wrongSrc[k]
  | 0xC => flagBit x.trip 10 ||| flagBit x.run 11 ||| flagBit x.gstop 12 ||| flagBit x.formed 13
  | 0xD => x.fpLo.getD 0
  | 0xE => x.fpHi.getD 0
  | 0xF => x.info2.getD 0
  | _ => 0

/-- Word `w` of port `p`. -/
def portWord (s : State) (p : Fin 4) (w : Nat) : Word :=
  let q := s.seam.ports[p]
  match w with
  | 4 => satWord (portDelay q)
  | 5 => q.badFrames
  | 6 => q.alerts
  | 7 => q.neighbour.setWidth 16
  | _ => 0

/-- The ms since the last message of a session's peer (15 Table 15.9). -/
def sessionAge (s : State) (k : Fin 4) : Word :=
  let x := s.seam.sess[k]
  if x.isOpen then BitVec.ofNat 16 (min 65535 ((s.now - x.since) / 200000)) else 0

/-- A word of space 0x0A that the hardware writes. -/
def seamStatus (s : State) (a : Nat) : Word :=
  let m := s.seam
  if h : a < 0x20 then (if a % 16 = 8 then m.pubs[a / 16].seq.setWidth 16 else 0)
  else if h : a < 0x60 then subWord s ⟨(a - 0x20) / 16, by omega⟩ (a % 16)
  else if h : a < 0x80 then portWord s ⟨(a - 0x60) / 8, by omega⟩ (a % 8)
  else if h : 0x90 ≤ a ∧ a < 0x98 then
    let i := a - 0x90
    let w := if i = 0 ∨ !isLeader s then 0 else min 31 (m.mems[i].hops.toNat + 1)
    BitVec.ofNat 16 w ||| (m.gang.causes[i].setWidth 16 <<< 9)
  else if h : 0xA8 ≤ a ∧ a < 0xB0 then
    let k : Fin 4 := ⟨(a - 0xA8) / 2, by omega⟩
    if a % 2 = 1 then sessionAge s k
    else m.sess[k].peer.setWidth 16 ||| flagBit m.sess[k].isOpen 15
  else if 0x800 ≤ a then
    match rollOf s (BitVec.ofNat 10 ((a - 0x800) / 2)) with
    | none => 0
    | some r =>
      if a % 2 = 0 then
        r.entry.age.setWidth 16 ||| flagBit (decide (r.entry.age.toNat < 64)) 8
          ||| ((r.entry.status &&& 0x1F).setWidth 16 <<< 9)
      else r.entry.cls.setWidth 16 ||| (r.entry.gang.setWidth 16 <<< 8)
  else
    let root := m.root.getD { prio := 0, serial := 0 }
    match a with
    | 0xA1 => s.boot.epoch
    | 0xB0 => root.prio.setWidth 16
    | 0xB1 => root.serial.extractLsb' 0 16
    | 0xB2 => root.serial.extractLsb' 16 16
    | 0xB3 => root.serial.extractLsb' 32 16
    | 0xB5 => s.host.timeHi
    | _ => 0

/-- The read-only words of space 0x0A. -/
def seamReadOnly (a : Nat) : Bool :=
  (a < 0x20 && a % 16 == 8) ||
    (0x20 ≤ a && a < 0x60 && (a % 16 == 8 || a % 16 == 9 || 11 ≤ a % 16)) || (0x60 ≤ a && a < 0x80 && 4 ≤ a % 8) ||
    (0x90 ≤ a && a < 0x98) || a == 0xA1 || (0xA8 ≤ a && a < 0xB4) || a == 0xB5 || (0x140 ≤ a && a < 0x160) ||
    0x800 ≤ a

/-- A word of space 0x0A. -/
def seamSpaceWord (s : State) (a : Nat) : Word :=
  if seamCommit a then shadowWord s 0x0A a
  else if 0x140 ≤ a ∧ a < 0x160 then s.seam.inbox.get (a - 0x140)
  else if 0x100 ≤ a ∧ a < 0x120 then s.seam.outbox.get (a - 0x100)
  else if seamReadOnly a then seamStatus s a
  else if a = 0x120 then (liveWord s 0x0A a &&& 0xFFFE) ||| flagBit s.seam.send.isSome 0
  else if a = 0x160 then (liveWord s 0x0A a &&& 0xFFFE) ||| flagBit s.seam.full 0
  else liveWord s 0x0A a

/-! ### Reading a word -/

/-- The reserved bits of the writable words of space 0x12 (12 Table 12.8); every bit of a reserved word. -/
def fbReserved (w : Nat) : Word :=
  match w with
  | 0x04 => 0x00FC
  | 0x06 => 0xFFFC
  | 0x07 => 0xFFFF
  | _ => if 0x12 ≤ w then 0xFFFF else 0

/-- The word of a space as a read returns it now (03 Table 3.13, R97, R112, 00 R9). -/
def spaceRead (s : State) (space a : Nat) : Word :=
  match space with
  | 0x01 => laneRead s (Fin.ofNat 8 (a / 16)) (a % 16)
  | 0x02 =>
    let n : Fin 8 := Fin.ofNat 8 (a / 256)
    let o := a % 256
    if blockHardware o then (if 0xE0 ≤ o then tailStatus s n o else blockWord s n o)
    else if o = 0x6B then
      (liveWord s 2 a &&& 0xF000) ||| s.axes[n].acc.dfine.setWidth 16
    else shadowWord s 2 a
  | 0x06 => resultWord s a
  | 0x07 => readCoef s a
  | 0x08 =>
    if commitWord 8 a then shadowWord s 8 a
    else if h : a < 0x300 then channelWord s ⟨a / 16, by omega⟩ (a % 16)
    else bridgeStatus s (Fin.ofNat 8 ((a - 0x300) / 16)) (a % 16)
  | 0x09 =>
    if commitWord 9 a then shadowWord s 9 a
    else if a < 0x200 then (liveWord s 9 a &&& 0xFFFE) ||| pinSpaceLive s a
    else pinSpaceLive s a
  | 0x0A => seamSpaceWord s a
  | 0x0B => storeWord s (0xA000 + a)
  | 0x0C => storeWord s a
  | 0x0D => otpShown s a
  | 0x0E => fwWord s a
  | 0x0F => setupSpaceWord s a
  | 0x10 => stagedWord s a
  | 0x11 => s.bak.ram.get a
  | 0x12 =>
    let w := a % 32
    fbRead s (Fin.ofNat 8 (a / 32)) w ||| (liveWord s 0x12 a &&& fbReserved w)
  | 0x13 => inspectionWord s a
  | _ => shadowWord s space a

/-- What an accepted read of a word clears (02 R65, R68). -/
def spaceReadEffect (space a : Nat) (s : State) : State :=
  match space with
  | 0x01 => laneClear (Fin.ofNat 8 (a / 16)) (a % 16) s
  | 0x06 => if resultCounter a then putRes a 0 s else s
  | 0x0A =>
    if h : 0x20 ≤ a ∧ a < 0x60 ∧ a % 16 = 11 then
      modSeam (fun m => { m with wrongSrc := m.wrongSrc.set ((a - 0x20) / 16) 0 }) s
    else if h : 0x60 ≤ a ∧ a < 0x80 ∧ a % 8 = 5 then
      modPort ⟨(a - 0x60) / 8, by omega⟩ (fun q => { q with badFrames := 0 }) s
    else s
  | 0x12 => fbClear (Fin.ofNat 8 (a / 32)) (a % 32) s
  | _ => s

/-! ### Writing a word -/

/-- A word of a space cannot be written (02 R90, 03 R110, R111). -/
def readOnlyWord (space a : Nat) : Bool :=
  match space with
  | 0x00 | 0x03 | 0x04 | 0x05 | 0x07 | 0x10 => false
  | 0x02 => blockHardware (a % 256)
  | 0x08 => 8 ≤ a % 16 && a % 16 < 12
  | 0x09 => 0x280 ≤ a && a ≤ 0x284
  | 0x0A => seamReadOnly a
  | 0x11 => 0x14 ≤ a
  | 0x12 => a % 32 == 5 || (8 ≤ a % 32 && a % 32 < 16)
  | 0x13 => a != 0x020 && a != 0x022
  | _ => true

/-- A fit check runs (07 R253). -/
def checking (s : State) : Bool :=
  match s.cfg.state with
  | .checking _ => true
  | _ => false

/-- The commit machinery holds the shadow: a check or a revert runs (03 R98, 07 R259). -/
def shadowHeld (s : State) : Bool :=
  checking s || s.cfg.state == .reverting

/-- The refusals of a write of `d` to a word by `p`, with the GUARDED cause (02 Table 2.13). -/
def spaceRefusals (s : State) (p : Party) (space a : Nat) (d : Word) : List (Status × Nat) :=
  (match dataPin space a with
   | some i => if bit d 0 != s.pin.latch.getLsbD i && !mayWritePin s p i then [(Status.notOwner, 0)] else []
   | none => if mayWriteWord s p space a then [] else [(.notOwner, 0)]) ++
  (if readOnlyWord space a then [(.guarded, 1)] else []) ++
  (if space = 9 ∧ frozenWord s a = true then [(.guarded, 3)] else []) ++
  (if space = 0x12 ∧ a % 32 = 6 ∧ bits d 0 2 = 3 then [(.guarded, 7)] else []) ++
  (if space = 0x10 then
    (match s.store.session with
     | some h => if h.1 = p then [] else [(.notOwner, 0)]
     | none => [(.refusedActive, 0)])
   else []) ++
  (if space = 0x11 then (bakWordRefusal s a d).toList else []) ++
  (if space = 0x13 ∧ a = 0x020 then proofRefusals s d
   else if space = 0x13 ∧ a = 0x022 then markRefusals s else []) ++
  (if commitWord space a && shadowHeld s then [(.busy, 0)] else [])

/-- A Live word of a configuration space is stored. -/
def putLive (space a : Nat) (d : Word) (s : State) : State :=
  { s with cfg := { s.cfg with live := s.cfg.live.put (cfgKey space a) d } }

/-- A Commit-class word or register of the shadow is written (03 R97, 07 R257). -/
def putShadow (space a : Nat) (d : Word) (s : State) : State :=
  { s with cfg := { s.cfg with shadow := s.cfg.shadow.put (cfgKey space a) d, dirty := true } }

/-- DFINE of axis `n` is written (08 Table 8.11): at the next period start, or at once while the carrier is
stopped. -/
def writeFine (n : Fin 8) (d : Word) (s : State) : State :=
  modAxis n (fun a =>
    let f := d.extractLsb' 0 12
    { a with
      acc := { a.acc with dfine := f }
      eff := if liveStopped s n then { a.eff with dfine := f } else a.eff }) s

/-- The data latch of pin `i` is written through its DATA word (14 Table 14.5). -/
def writePinData (i : Nat) (d : Word) (s : State) : State :=
  { s with pin := { s.pin with latch := putBit s.pin.latch i (bit d 0) } }

/-- An accepted write of `d` by `p` to a word of an immediate-class space or of space 0x13. A write of a foreign pin's DATA word that leaves its latch has no effect (04 R149). -/
def spaceWrite (p : Party) (space a : Nat) (d : Word) (s : State) : State :=
  if commitWord space a then putShadow space a d s
  else match space with
  | 0x02 => writeFine (Fin.ofNat 8 (a / 256)) d (putLive 2 a d s)
  | 0x07 => writeCoef a d s
  | 0x09 => if mayWritePin s p (a / 8) then writePinData (a / 8) d (putLive 9 a d s) else s
  | 0x0A =>
    if 0x100 ≤ a ∧ a < 0x120 then modSeam (fun m => { m with outbox := m.outbox.put (a - 0x100) d }) s
    else
      let s := putLive 0x0A a d s
      if a = 0x120 ∧ bit d 0 = true then sendOutbox s
      else if a = 0x160 ∧ bit d 0 = true then releaseInbox s
      else s
  | 0x12 => fbWrite (Fin.ofNat 8 (a / 32)) (a % 32) d (putLive 0x12 a d s)
  | 0x13 => if a = 0x020 then proofRequest d s else if a = 0x022 then inspectionMark d s else s
  | _ => s

end Sys2Proof.Machine
end

