-- ==== Sys2Proof/Machine/Windows.lean ====
section
/-! DEFINITION. The windows (02 2.10): address, count, fetch, the accesses to WINn_DATA. -/

namespace Sys2Proof.Machine

/-! ### Which window -/

/-- The window an access works on. -/
def windowOf (s : State) : WinSel → Window
  | .port n => s.win[n]
  | .session k => s.seam.sess[k].win

/-- Changes a window. -/
def modWindow (sel : WinSel) (f : Window → Window) (s : State) : State :=
  match sel with
  | .port n => { s with win := s.win.set n (f s.win[n]) }
  | .session k => modSeam (fun m => { m with sess := m.sess.set k { m.sess[k] with win := f m.sess[k].win } }) s

/-- The window that party `p` reaches at window `n` of the register map (02 R82, 15 R546). -/
def reachWindow (p : Party) (n : Fin 4) : WinSel :=
  match p with
  | .host => .port n
  | .peer _ k => .session k

/-! ### Address, count, fetch -/

/-- WINn_STAT.ACTIVE. -/
def Window.active (w : Window) : Bool := w.count != 0 && !w.atEnd

/-- WINn_STAT.PENDING. -/
def Window.pending (w : Window) : Bool := w.fetching || w.writing.isSome

/-- The spaces of the store and slow classes (02 Table 2.15). -/
def fetchedSpace (space : Nat) : Bool := [0x0C, 0x0D, 0x10, 0x11, 0x13].contains space

/-- The module fetches the word at the address, if the class and the window call for it (02 R92). -/
def Window.fetch (w : Window) : Window :=
  if fetchedSpace w.space.toNat && w.active && w.writing.isNone then { w with fetching := true } else w

/-- A write of SPACE, ADDRL or ADDRH (02 R87, R88). -/
def Window.relocate (w : Window) : Window :=
  Window.fetch { w with fetching := false, atEnd := decide (spaceSize w.space.toNat ≤ w.addr.toNat) }

/-- A write of WINn_SPACE, ADDRL or ADDRH. -/
def Window.writeAddr (w : Window) (r : WinAddrReg) (d : Word) : Window :=
  match r with
  | .space => Window.relocate { w with space := d.extractLsb' 0 5 }
  | .addrL => Window.relocate { w with addr := w.addr.extractLsb' 16 8 ++ d }
  | .addrH => Window.relocate { w with addr := d.extractLsb' 0 8 ++ w.addr.extractLsb' 0 16 }

/-- A write of WINn_COUNT; a fetch in progress goes on (02 R88, R92). -/
def Window.writeCount (w : Window) (d : Word) : Window :=
  if w.fetching then { w with count := d } else Window.fetch { w with count := d }

/-- A write of WINn_CTRL (02 Table 2.16). -/
def Window.writeCtrl (w : Window) (d : Word) : Window :=
  if bit d 1 then { w with inc := bit d 0, count := 0, fetching := false } else { w with inc := bit d 0 }

/-- One word has moved (02 R84, R86). With INC 0 the address stays, at the last word too, and END is not set: R86 does
not name INC, and the model lets R84 decide (log entry 87). -/
def Window.advance (w : Window) : Window :=
  let a := if w.inc then w.addr + 1 else w.addr
  Window.fetch { w with count := w.count - 1, addr := a, atEnd := decide (spaceSize w.space.toNat ≤ a.toNat) }

/-- WINn_STAT. -/
def Window.stat (w : Window) : Word := flagBit w.active 0 ||| flagBit w.atEnd 1 ||| flagBit w.pending 2

/-- A register of a window but DATA. -/
def Window.read (w : Window) (off : Nat) : Word :=
  match off with
  | 0 => w.space.setWidth 16
  | 1 => w.addr.extractLsb' 0 16
  | 2 => (w.addr.extractLsb' 16 8).setWidth 16
  | 4 => w.count
  | 5 => w.stat
  | 6 => flagBit w.inc 0
  | _ => 0

/-! ### WINn_DATA -/

/-- The statuses that any access to DATA may meet (02 R85, R93). -/
def Window.dataRefusals (w : Window) : List (Status × Nat) :=
  (if w.pending then [(.busy, 0)] else []) ++ (if w.active then [] else [(.length, 0)])

/-- The refusals of a read of DATA by `p` (04 R150). -/
def dataReadRefusals (s : State) (p : Party) (w : Window) : List (Status × Nat) :=
  (if w.active && !mayReadWord s p w.space.toNat w.addr.toNat then [(.notOwner, 0)] else []) ++ w.dataRefusals

/-- The refusals of a write of DATA by `p`; a window that is not active addresses no word (log entry 26). -/
def dataWriteRefusals (s : State) (p : Party) (w : Window) (d : Word) : List (Status × Nat) :=
  (if w.active then spaceRefusals s p w.space.toNat w.addr.toNat d else []) ++ w.dataRefusals

/-- The high word of a pair of space 0x12 (12 R439). -/
def pairHighAt (space a : Nat) : Bool := space == 0x12 && fbPairHigh (a % 32)

/-- The low word of a pair of space 0x12. -/
def pairLowAt (space a : Nat) : Bool := space == 0x12 && fbPairLow (a % 32)

/-- The word a read of DATA returns (02 R84, R92, 12 R439). -/
def dataValue (s : State) (w : Window) : Word :=
  let space := w.space.toNat
  let a := w.addr.toNat
  if fetchedSpace space then w.fetched
  else if pairHighAt space a then w.pairHi.get a
  else spaceRead s space a

/-- An accepted read of DATA: RC words clear, a low word captures its high word, the window moves on. -/
def readData (sel : WinSel) (s : State) : State :=
  let w := windowOf s sel
  let space := w.space.toNat
  let a := w.addr.toNat
  let hi := if pairLowAt space a then w.pairHi.put (a + 1) (spaceRead s space (a + 1)) else w.pairHi
  modWindow sel (fun _ => Window.advance { w with pairHi := hi }) (spaceReadEffect space a s)

/-- An accepted write of DATA by `p`: words of spaces 0x10 and 0x11 land at WINDOW_WRITE_DONE, the others now. -/
def writeData (p : Party) (sel : WinSel) (d : Word) (s : State) : State :=
  let w := windowOf s sel
  let space := w.space.toNat
  let a := w.addr.toNat
  if space = 0x10 ∨ space = 0x11 then
    modWindow sel (fun w => Window.advance { w with writing := some (cfgKey space a, d) }) s
  else modWindow sel Window.advance (spaceWrite p space a d s)

/-- The word of the OTP that is being burned, until its verify ends (05 5.3). -/
def burningWord (t : Otp) : Option Nat :=
  match t.op with
  | some (.word a _) => some a.toNat
  | some (.advance _) => some 0x0C00
  | _ => none

/-- A fetch by window `w` waits for the verify of the word that is being burned (05 5.3). -/
def fetchWaits (s : State) (w : Window) : Bool :=
  w.space == 0x0D && burningWord s.otp == some w.addr.toNat

/-- WINDOW_FETCH_DONE (02 R92). -/
def fetchDone (sel : WinSel) (s : State) : State :=
  let w := windowOf s sel
  if w.fetching && !fetchWaits s w then
    modWindow sel (fun w => { w with
      fetching := false, fetched := spaceRead s w.space.toNat w.addr.toNat }) s
  else s

/-- See `fetchDone`. -/
def execWindowFetchDone (win : WinSel) (s : State) : Host.Outcome State Fault Refusal := .next (fetchDone win s)

/-- WINDOW_WRITE_DONE (02 R91, 17 R608, R615): the word lands, and the next is fetched. A staging word waits for the store
writes that go before it (17 R588). -/
def writeDone (sel : WinSel) (verified : Bool) (s : State) : State :=
  match (windowOf s sel).writing with
  | none => s
  | some (k, d) =>
    if k / 65536 = 0x10 ∧ storeOut s = false ∧ mayStore s 2 = false then s
    else
    let s := if k / 65536 = 0x10 then writeStaged (k % 65536) d verified s else writeBakWord (k % 65536) d s
    modWindow sel (fun w => Window.fetch { w with writing := none }) s

/-- See `writeDone`. -/
def execWindowWriteDone (win : WinSel) (verified : Bool) (s : State) : Host.Outcome State Fault Refusal :=
  .next (writeDone win verified s)

end Sys2Proof.Machine
end

