-- ==== Sys2Proof/Machine/Registers.lean ====
section
/-! DEFINITION. The registers (03 Tables 3.4-3.11): which exist, what a read returns and clears, which writes are
refused, and what a write does. -/

namespace Sys2Proof.Machine

/-! ### Addresses -/

/-- An address holds a register (03 R94). -/
def regExists (a : Nat) : Bool :=
  a ≤ 0x1C || (0x20 ≤ a && a ≤ 0x2C) || (0x40 ≤ a && a ≤ 0x48) || (0x60 ≤ a && a ≤ 0x6E) ||
    (0x80 ≤ a && a < 0xA0 && a % 8 != 7) || a == 0xA0 || a == 0xA1 || (0xC0 ≤ a && a ≤ 0xE0) ||
    (0x100 ≤ a && a < 0x200)

/-- A register of an axis page takes writes (03 Table 3.11). -/
def axisWritable (o : Nat) : Bool := o == 0 || (3 ≤ o && o ≤ 7) || (0x0F ≤ o && o ≤ 0x18) || o == 0x1A

/-- A register takes writes (03 Tables 3.4-3.9). -/
def regWritable (a : Nat) : Bool :=
  if 0x100 ≤ a then axisWritable (a % 32)
  else if 0x80 ≤ a ∧ a < 0xA0 then a % 8 != 5
  else [0x007, 0x009, 0x00E, 0x012, 0x014, 0x01C, 0x020, 0x022, 0x025, 0x043, 0x044, 0x061, 0x063, 0x069, 0x0A0].contains a ||
    (0x0C8 ≤ a && a < 0x0D4) || (0x0D8 ≤ a && a ≤ 0x0DC)

/-- The key class of a write of `d` (02 Table 2.12). -/
def keyClassOf (a : Nat) (d : Word) : Option KeyClass :=
  if 0x100 ≤ a then (if a % 32 = 0x18 ∨ a % 32 = 0x1A then some .output else none)
  else match a with
    | 0x012 | 0x014 | 0x01C | 0x043 => some .output
    | 0x0A0 | 0x069 => some .store
    | 0x063 => if 2 ≤ bits d 0 4 ∧ bits d 0 4 ≤ 5 then some .store else none
    | 0x0DC => some .pinLock
    | _ => none

/-- The class a value of SYS_KEY arms (02 Table 2.12). -/
def keyArmed (d : Word) : Option KeyClass :=
  match d.toNat with
  | 0x4B5A => some .output
  | 0xA55A => some .store
  | 0x3C96 => some .pinLock
  | _ => none

/-- The register group of an address (03 Table 3.12). -/
def regGroup (a : Nat) : Nat :=
  if 0x100 ≤ a then 7 + (a - 0x100) / 32
  else if a < 0x80 then a / 32
  else if a < 0xA0 then 4
  else if a < 0xC0 then 5
  else 6

/-- The axis of an address of an axis page. -/
def pageAxis (a : Nat) : Fin 8 := Fin.ofNat 8 ((a - 0x100) / 32)

/-- The window of a window register. -/
def pageWindow (a : Nat) : Fin 4 := Fin.ofNat 4 ((a - 0x80) / 8)

/-! ### The interrupt summary (02 2.6) -/

/-- SYS_IRQSUM (02 Table 2.9): a live summary at every moment, the close of the boot gate included, where 03 Table 3.4
gives 0x0000 although FLT_STAT and BAK_STAT may hold bits then (log entry 89). -/
def irqSum (s : State) : Word :=
  let ax := allAxes.foldl (fun (w : Word) n => putBit w n.val (s.axes[n].stat &&& s.axes[n].eff.irqEn != 0)) 0
  ax ||| flagBit (pinIrqSum s) 8 ||| flagBit (s.flt.stat != 0) 9 ||| flagBit (s.seam.stat != 0) 10
    ||| flagBit (s.cnv.stat != 0 || s.cnv.witness != 0) 11
    ||| flagBit (s.bak.stat != 0 || s.bak.alarm != 0 || s.store.done) 12 ||| flagBit (s.host.sysStat != 0) 13

/-- HIRQN is asserted (R61, R63). -/
def irqAsserted (s : State) : Bool := running s && s.power.vio && irqSum s &&& s.host.irqEn.setWidth 16 != 0

/-! ### What registers read -/

/-- SYS_GUARD (02 Table 2.13). -/
def guardReg (s : State) : Word :=
  s.host.guardCount.setWidth 16 ||| (s.host.guardCause.setWidth 16 <<< 8) ||| flagBit s.host.guardFlag 15

/-- The code of a commit state (07 Table 7.5). -/
def CommitState.code : CommitState → Nat
  | .idle => 0
  | .checking _ => 1
  | .applying => 2
  | .reverting => 3

/-- SYS_COMMIT as read (07 Table 7.5). -/
def commitReg (s : State) : Word :=
  BitVec.ofNat 16 s.cfg.state.code ||| flagBit s.cfg.dirty 2 ||| flagBit s.cfg.lastPass 3 ||| (s.cfg.seq.setWidth 16 <<< 8)

/-- The device ID of the root (15 Table 15.8): this module's own, or the one of the roll-call entry that shows the root's
serial number (log entry 28). -/
def rootId (s : State) : DevId :=
  if s.seam.isRoot then (ownId s).getD 0
  else match s.seam.root with
    | none => 0
    | some k =>
      match s.seam.roll.find? fun r =>
          r.entry.serialLo == k.serial.extractLsb' 0 16 && bit (r.entry.status.setWidth 16) 4 with
      | some r => r.entry.dev
      | none => 0

/-- The code of a time state (15 Table 15.3). -/
def TState.code : TState → Nat
  | .free => 0
  | .slewing => 1
  | .locked => 2

/-- SEAM_ROOT (15 Table 15.8). -/
def seamRootReg (s : State) : Word :=
  if anyPort s then
    (rootId s).setWidth 16 ||| flagBit s.seam.isRoot 10 ||| flagBit s.seam.root.isNone 11
      ||| BitVec.ofNat 16 (4096 * s.seam.tstate.code)
  else 0

/-- LINK of port `p` (15 Table 15.8). -/
def portLink (s : State) (p : Fin 4) : Nat :=
  if !portOn s p then 0 else if portDead s p then 3 else if s.seam.ports[p].up then 2 else 1

/-- SEAM_PORTS (15 Table 15.8). -/
def seamPortsReg (s : State) : Word :=
  allPorts.foldl (fun (w : Word) p =>
    w ||| BitVec.ofNat 16 ((portLink s p + 4 * s.seam.ports[p].role.toNat) * 16 ^ p.val)) 0

/-- SEAM_AGREE (15 Table 15.8). -/
def seamAgreeReg (s : State) : Word :=
  let why := s.seam.gang.causes.toList.foldl (fun (a b : BitVec 6) => a ||| b) 0
  s.seam.gang.agree.setWidth 16 ||| flagBit (gangFormed s) 8 ||| (why.setWidth 16 <<< 9)

/-- A compare value in effect, in counts, before dither scaling (03 R105, 08 R279): in DIRECT mode the register in force,
the leader's for a member (08 R294), and in any other mode that of the period's plan. -/
def compareReg (s : State) (n : Fin 8) (leg : Fin 3) : Word :=
  let l := leaderOf s n
  let k := s.axes[n].car.legs[leg]
  if isDirect s l then s.axes[l].eff.cmp[leg] else BitVec.ofNat 16 (k.nominal / (65536 * (k.den * prescOf s n)))

/-- AX_GROUP (08 Table 8.10). -/
def groupReg (s : State) (n : Fin 8) : Word :=
  let g := s.axes[n].group
  BitVec.ofNat 16 g.leader.val ||| flagBit g.member 3 ||| flagBit g.leads 4 ||| (g.offs.setWidth 16 <<< 8)

/-- A 32-bit two's complement value of a signed number. -/
def wordPair (v : Int) : DWord := BitVec.ofInt 32 v

/-- The latches of a party (02 R73). -/
def latchesOf (s : State) : Party → Latches
  | .host => s.lat
  | .peer _ _ => s.seam.lat

/-- A register of the page of axis `n`, at offset `o`. -/
def axisRead (s : State) (t : Latches) (n : Fin 8) (o : Nat) : Word :=
  let a := s.axes[n]
  match o with
  | 0x00 => flagBit a.acc.en 0
  | 0x01 => axStateReg s n
  | 0x02 => a.stat.setWidth 16
  | 0x03 => a.acc.irqEn.setWidth 16
  | 0x04 => a.acc.cmd
  | 0x05 => a.acc.cmdSrc.setWidth 16
  | 0x06 => a.acc.preTq
  | 0x08 => loWord (wordPair (ladderSpeed s n))
  | 0x09 => t.speedH[n]
  | 0x0A => loWord (rotorAngle s n)
  | 0x0B => t.angH[n]
  | 0x0C => loWord s.fb[n].count
  | 0x0D => t.posH[n]
  | 0x0E => imeasReg s n
  | 0x0F => a.acc.ilim.setWidth 16
  | 0x10 => s.axes[leaderOf s n].acc.per
  | 0x11 => compareReg s n 0
  | 0x12 => compareReg s n 1
  | 0x13 => compareReg s n 2
  | 0x14 => a.acc.trg[(0 : Fin 4)]
  | 0x15 => a.acc.trg[(1 : Fin 4)]
  | 0x16 => a.acc.trg[(2 : Fin 4)]
  | 0x17 => a.acc.trg[(3 : Fin 4)]
  | 0x18 => a.acc.force.setWidth 16
  | 0x19 => axTripReg s n
  | 0x1B => axFault s n
  | 0x1C => s.fb[n].stat.setWidth 16
  | 0x1D => s.fb[n].hits
  | 0x1E => satWord s.axes[leaderOf s n].drv.advance
  | 0x1F => groupReg s n
  | _ => 0

/-- A register of the system page, 0x000 to 0x01F. -/
def systemRead (s : State) (t : Latches) (a : Nat) : Word :=
  match a with
  | 0x000 => 0x4B39
  | 0x001 => Config.dieRev.setWidth 16
  | 0x002 => Config.romRel
  | 0x003 => s.boot.patch
  | 0x004 => s.boot.life.setWidth 16
  | 0x005 => pstateReg s
  | 0x006 => s.host.sysStat.setWidth 16
  | 0x007 => s.host.irqEn.setWidth 16
  | 0x008 => irqSum s
  | 0x00A => guardReg s
  | 0x00B => s.boot.rstCause.setWidth 16
  | 0x00C => s.boot.bootStat.setWidth 16
  | 0x00D => ownerMapReg s
  | 0x00E => commitReg s
  | 0x00F => s.cfg.fitRes
  | 0x010 => s.cfg.fitDetail
  | 0x011 => s.cfg.fitMargin
  | 0x012 => s.power.pwrReq.setWidth 16
  | 0x013 => stoReg s
  | 0x014 => s.spread.setWidth 16
  | 0x015 => s.supv.temp
  | 0x016 => s.supv.vaux
  | 0x017 => s.supv.vbak
  | 0x018 => s.seam.time.extractLsb' 0 16
  | 0x019 => t.time1
  | 0x01A => t.time2
  | 0x01B => s.host.lastRd
  | _ => 0

/-- A register of the Seam, 0x020 to 0x03F. -/
def seamRead (s : State) (t : Latches) (a : Nat) : Word :=
  match a with
  | 0x020 | 0x022 | 0x025 => shadowWord s 0x1F a
  | 0x021 => s.seam.stat.setWidth 16
  | 0x023 => seamRootReg s
  | 0x024 => seamPortsReg s
  | 0x026 => seamAgreeReg s
  | 0x027 => loWord (fprintReg s)
  | 0x028 => t.fprintH
  | 0x029 => s.boot.compat.setWidth 16
  | 0x02A => satWord s.seam.offset
  | 0x02B => BitVec.ofNat 16 s.seam.hops ||| flagBit s.seam.tooDeep 7
  | 0x02C => BitVec.ofNat 16 (rollCount s)
  | _ => 0

/-- A register of faults, converters, store or backup, 0x040 to 0x07F. -/
def faultRead (s : State) (t : Latches) (a : Nat) : Word :=
  match a with
  | 0x040 => fltTopReg s
  | 0x041 => s.flt.count
  | 0x042 => s.flt.stat.setWidth 16
  | 0x044 => s.flt.stestReq
  | 0x045 => stestResReg s
  | 0x046 => supvStatReg s
  | 0x047 => supvDomainReg s
  | 0x048 => s.flt.trans
  | 0x060 => s.cnv.stat.setWidth 16
  | 0x061 => shadowWord s 0x1F a
  | 0x062 => s.cnv.witness.setWidth 16
  | 0x064 => storeStatReg s
  | 0x065 => loWord s.store.seq
  | 0x066 => t.storeSeqH
  | 0x067 => s.bak.stat
  | 0x068 => bakAlarmReg s
  | 0x06A => loWord (watchCount s.bak)
  | 0x06B => t.bakCountH
  | 0x06C => (rtcNow s).extractLsb' 0 16
  | 0x06D => t.rtc1
  | 0x06E => t.rtc2
  | _ => 0

/-- A register of the pins, 0x0C0 to 0x0FF; a masked-write register reads 0 (02 R81). -/
def pinRead (s : State) (a : Nat) : Word :=
  if a < 0xC4 then pinInReg s (a - 0xC0)
  else if a < 0xC8 then pinOutReg s (a - 0xC4)
  else if a < 0xCC then bankOf s.pin.latch (a - 0xC8)
  else if a < 0xD4 then 0
  else if a < 0xD8 then bankOf s.pin.irq (a - 0xD4)
  else if a < 0xDC then bankOf s.pin.irqEn (a - 0xD8)
  else if 0xDD ≤ a ∧ a ≤ 0xE0 then bankOf (s.pin.locked ||| heldReg s) (a - 0xDD)
  else 0

/-- What a read of a register returns to `p`. -/
def regRead (s : State) (p : Party) (a : Nat) : Word :=
  let t := latchesOf s p
  if 0x100 ≤ a then axisRead s t (pageAxis a) (a % 32)
  else if a < 0x20 then systemRead s t a
  else if a < 0x40 then seamRead s t a
  else if a < 0x80 then faultRead s t a
  else if a < 0xA0 then
    let w := windowOf s (reachWindow p (pageWindow a))
    if a % 8 = 3 then dataValue s w else w.read (a % 8)
  else if a < 0xC0 then (if a = 0xA1 then otpStatReg s else 0)
  else pinRead s a

/-! ### What a read clears and latches -/

/-- Reading an L register latches its partners (02 R70). -/
def Latches.take (s : State) (a : Nat) (t : Latches) : Latches :=
  if 0x100 ≤ a then
    let n := pageAxis a
    match a % 32 with
    | 0x08 => { t with speedH := t.speedH.set n (hiWord (wordPair (ladderSpeed s n))) }
    | 0x0A => { t with angH := t.angH.set n (hiWord (rotorAngle s n)) }
    | 0x0C => { t with posH := t.posH.set n (hiWord s.fb[n].count) }
    | _ => t
  else match a with
    | 0x018 => { t with time1 := s.seam.time.extractLsb' 16 16, time2 := s.seam.time.extractLsb' 32 16 }
    | 0x027 => { t with fprintH := hiWord (fprintReg s) }
    | 0x065 => { t with storeSeqH := hiWord s.store.seq }
    | 0x06A => { t with bakCountH := hiWord (watchCount s.bak) }
    | 0x06C => { t with rtc1 := (rtcNow s).extractLsb' 16 16, rtc2 := (rtcNow s).extractLsb' 32 16 }
    | _ => t

/-- The latches after a read by `p`; the host's read of SYS_TIME0 also latches bits [63:48] (15 Table 15.9). -/
def latchRead (p : Party) (a : Nat) (s : State) : State :=
  match p with
  | .host => { s with
      lat := Latches.take s a s.lat
      host := { s.host with timeHi := if a = 0x018 then s.seam.time.extractLsb' 48 16 else s.host.timeHi } }
  | .peer _ _ => modSeam (fun m => { m with lat := Latches.take s a m.lat }) s

/-- What an accepted read of an RC register clears (02 R65, R68). -/
def clearRead (a : Nat) (s : State) : State :=
  if 0x100 ≤ a then
    let n := pageAxis a
    match a % 32 with
    | 0x02 => modAxis n (fun x => { x with stat := 0 }) s
    | 0x19 => modTrip n (fun t => { t with causes := 0 }) s
    | 0x1C => modFb n (fun f => { f with stat := 0 }) s
    | _ => s
  else if 0xD4 ≤ a ∧ a < 0xD8 then clearPinIrq (a - 0xD4) s
  else match a with
    | 0x006 => { s with host := { s.host with sysStat := 0 } }
    | 0x00A => { s with host := { s.host with guardCount := 0, guardFlag := false } }
    | 0x00B => { s with boot := { s.boot with rstCause := 0 } }
    | 0x021 => modSeam (fun m => { m with stat := 0 }) s
    | 0x042 => { s with flt := { s.flt with stat := 0 } }
    | 0x060 => { s with cnv := { s.cnv with stat := 0 } }
    | 0x062 => { s with cnv := { s.cnv with witness := 0 } }
    | 0x067 => modBak (fun b => { b with stat := 0 }) s
    | 0x068 => readAlarms s
    | _ => s

/-- What an accepted read by `p` does; in SLEEP the RTC has counted on by the time it is read again (17 R614). -/
def regReadEffect (p : Party) (a : Nat) (s : State) : State :=
  if 0x80 ≤ a ∧ a < 0xA0 ∧ a % 8 = 3 then readData (reachWindow p (pageWindow a)) s
  else if a = 0x06C then passClock (latchRead p a s)
  else clearRead a (latchRead p a s)

/-! ### Refusals -/

/-- `p` reaches window `n` to read: the host its own and WIN3, a peer its copy of WIN2 (02 R82, R83, 15 R546). -/
def mayReadWindow (p : Party) (n : Fin 4) : Bool :=
  match p with
  | .host => n != 2
  | .peer _ _ => n == 2

/-- `p` reaches window `n` to write it or its DATA. -/
def mayUseWindow (p : Party) (n : Fin 4) : Bool :=
  match p with
  | .host => n.val < 2
  | .peer _ _ => n == 2

/-- The pins that a register of group 6 stands for (03 R101, R102). -/
def regPins (a : Nat) : List Nat :=
  if 0xCC ≤ a ∧ a < 0xD4 then (List.range 8).map fun i => 8 * (a - 0xCC) + i
  else if a = 0xDC then List.range 64
  else (List.range 16).map fun i => 16 * ((if a < 0xDD then a else a - 1) % 4) + i

/-- A party may read a register of group 6: a peer under REMOTE_RD, or where it owns every pin of the register (log
entry 29). -/
def mayReadPins (s : State) (p : Party) (a : Nat) : Bool :=
  match p with
  | .host => true
  | .peer _ _ => remoteRdGroup s 6 || (regPins a).all fun i => p.isOwner (pinOwner s i)

/-- `p` may read a register (04 R150). -/
def mayReadReg (s : State) (p : Party) (a : Nat) : Bool :=
  match regGroup a with
  | 4 => if a % 8 = 3 then mayUseWindow p (pageWindow a) else mayReadWindow p (pageWindow a)
  | 6 => mayReadPins s p a
  | g => mayReadGroup s p g

/-- The pins and values that a write of group 6 loads, a masked write included. -/
def pinSel (a : Nat) (d : Word) : BitVec 64 × BitVec 64 :=
  if a < 0xCC then bankSel (a - 0xC8) d else byteSel (a - 0xCC) (hiByte d) (loByte d)

/-- `p` may make this write of group 6 (03 R108): no bit of a pin it does not own would change. -/
def mayWritePins (s : State) (p : Party) (a : Nat) (d : Word) : Bool :=
  if 0xC8 ≤ a ∧ a < 0xD4 then latchAllowed s p (pinSel a d).1 (pinSel a d).2
  else if 0xD8 ≤ a ∧ a < 0xDC then
    (List.range 16).all fun i =>
      bit d i == s.pin.irqEn.getLsbD (16 * (a - 0xD8) + i) || mayWritePin s p (16 * (a - 0xD8) + i)
  else if a = 0xDC then p == .host
  else true

/-- `p` may write a register (04 R149, R151, 15 R545). -/
def mayWriteReg (s : State) (p : Party) (a : Nat) (d : Word) : Bool :=
  match regGroup a with
  | 0 => p == .host || a == 0x009
  | 4 => mayUseWindow p (pageWindow a)
  | 5 => p == .host
  | 6 => mayWritePins s p a d
  | g => mayWriteGroup s p g

/-- The refusals of a write to the page of axis `n` at offset `o`, by value and state. AX_PER of a member is discarded
with OK at any time, during a check or a swap too (08 R294 before R275; log entry 86). -/
def axisRefusals (s : State) (n : Fin 8) (o : Nat) (d : Word) : List (Status × Nat) :=
  match o with
  | 0x05 =>
    (if 5 ≤ bits d 0 3 then [(.guarded, 7)] else []) ++
      (match axSt s n with
       | .off | .ready | .tripped | .latched => []
       | _ => [(.stoppedOnly, 0)])
  | 0x07 => (runRefusals s n (bits d 0 4)).map fun x => (x, 0)
  | 0x10 =>
    if isMember s n then []
    else
      (if perRefused s n d then [(.refusedActive, 0)] else []) ++
        (if checking s || s.cfg.axesPending.getLsbD n.val then [(.busy, 0)] else [])
  | 0x18 =>
    (if codesOn d then
      (if axSt s n = .ready then [] else [(.stoppedOnly, 0)]) ++
        (if s.power.pstate != .run || axisTesting s n then [(.busy, 0)] else [])
     else []) ++
      (if forceBad d then [(.refusedActive, 0)] else [])
  | 0x1A => if tripClearRefused s n d then [(.refusedActive, 0)] else []
  | _ => []

/-- The refusals of a write of PIN_LOCK (14 R496). -/
def lockRefusals (s : State) (d : Word) : List (Status × Nat) :=
  (if (lockPins d).any (pinEdited s) then [(.refusedActive, 0)] else []) ++
    (if s.cfg.state = .idle then [] else [(.busy, 0)])

/-- The refusals of a write of a window register. -/
def windowRefusals (s : State) (p : Party) (n : Fin 4) (o : Nat) (d : Word) : List (Status × Nat) :=
  match o with
  | 0 => if 0x14 ≤ bits d 0 5 then [(.badAddr, 0)] else []
  | 3 => dataWriteRefusals s p (windowOf s (reachWindow p n)) d
  | _ => []

/-- The refusals of a write of `d` by the register's own chapter. -/
def blockRefusals (s : State) (p : Party) (a : Nat) (d : Word) : List (Status × Nat) :=
  if 0x100 ≤ a then axisRefusals s (pageAxis a) (a % 32) d
  else if 0x80 ≤ a ∧ a < 0xA0 then windowRefusals s p (pageWindow a) (a % 8) d
  else match a with
    | 0x009 => if (keyArmed d).isNone then [(.guarded, 6)] else []
    | 0x00E => if s.cfg.state = .idle then [] else [(.busy, 0)]
    | 0x012 => powerRefusals s d
    | 0x014 => if bits d 2 2 = 3 then [(.guarded, 7)] else []
    | 0x020 | 0x022 | 0x025 | 0x061 => if shadowHeld s then [(.busy, 0)] else []
    | 0x043 => ackRefusals s d
    | 0x044 => stestRefusals s d
    | 0x063 => (storeCmdRefusals s p (bits d 0 4) (d.extractLsb' 4 12)).map fun x => (x, 0)
    | 0x069 =>
      (if bits d 0 4 = 1 then [] else [(.badAddr, 0)]) ++ (if alarmsReported s then [] else [(.refusedActive, 0)])
    | 0x0A0 => otpRefusals s d
    | 0x0DC => lockRefusals s d
    | _ => []

/-- Every refusal that a write of `d` to a register by `p` meets, with the GUARDED cause. Where two GUARDED reasons apply,
the spec does not say which CAUSE is recorded: the model records that of the missing key (log entry 98). -/
def writeRefusals (s : State) (p : Party) (armed : Option KeyClass) (a : Nat) (d : Word) : List (Status × Nat) :=
  if !regExists a then [(.badAddr, 0)]
  else
    (if mayWriteReg s p a d then [] else [(.notOwner, 0)]) ++
      (if regWritable a then
        (match keyClassOf a d with
         | some k => if armed = some k then [] else [(.guarded, 2)]
         | none => []) ++ blockRefusals s p a d
       else [(.guarded, 1)])

/-- Every refusal that a read of a register by `p` meets. -/
def readRefusals (s : State) (p : Party) (a : Nat) : List (Status × Nat) :=
  if !regExists a then [(.badAddr, 0)]
  else
    (if mayReadReg s p a then [] else [(.notOwner, 0)]) ++
      (if 0x80 ≤ a ∧ a < 0xA0 ∧ a % 8 = 3 then dataReadRefusals s p (windowOf s (reachWindow p (pageWindow a))) else [])

/-- The statuses in the order in which the first that applies is reported (02 R58, 00 R19). -/
def statusOrder : List Status :=
  [.crcBad, .booting, .badAddr, .notOwner, .guarded, .stoppedOnly, .refusedActive, .busy, .length, .cannotClear]

/-- The status and GUARDED cause that a list of refusals reports. -/
def reported (l : List (Status × Nat)) : Status × Nat :=
  match statusOrder.findSome? fun x => l.find? fun r => r.1 == x with
  | some r => r
  | none => (.ok, 0)

/-! ### What writes do -/

/-- A live register of the page of axis `n` is written (00 Table 0.4): in force at the next period start, or at once
while the carrier is stopped (log entry 13). -/
def putLiveReg (n : Fin 8) (f : LiveRegs → LiveRegs) (s : State) : State :=
  modAxis n (fun a => { a with acc := f a.acc, eff := if liveStopped s n then f a.eff else a.eff }) s

/-- AX_CMDSRC is written; a new source in force starts without a loss. -/
def writeCmdSrc (n : Fin 8) (v : BitVec 3) (s : State) : State :=
  let s' := putLiveReg n (fun r => { r with cmdSrc := v }) s
  if s'.axes[n].eff.cmdSrc = s.axes[n].eff.cmdSrc then s'
  else modDrive n (fun d => { d with cmdLost := false, xNow := 0, inAt := s.now }) s'

/-- AX_CMPU, AX_CMPV or AX_CMPW is written (03 R105, 08 R294): discarded outside DIRECT mode and in a member. -/
def writeCompare (n : Fin 8) (leg : Fin 3) (d : Word) (s : State) : State :=
  if isDirect s n && !isMember s n then putLiveReg n (fun r => { r with cmp := r.cmp.set leg d }) s else s

/-- AX_PER is written; discarded in a member (08 R294). A carrier that is stopped draws its first period from it. -/
def writePeriod (n : Fin 8) (d : Word) (s : State) : State :=
  if isMember s n then s
  else
    let s := putLiveReg n (fun r => { r with per := d }) s
    if liveStopped s n then modCar n (fun c => c.draw d.toNat (dithNow s n) c.lfsr) s else s

/-- An accepted write to the page of axis `n` at offset `o`. -/
def axisWrite (n : Fin 8) (o : Nat) (d : Word) (s : State) : State :=
  match o with
  | 0x00 => writeEnable n (bit d 0) s
  | 0x03 => putLiveReg n (fun r => { r with irqEn := d.extractLsb' 0 6 }) s
  | 0x04 => putLiveReg n (fun r => { r with cmd := d }) s
  | 0x05 => writeCmdSrc n (d.extractLsb' 0 3) s
  | 0x06 => putLiveReg n (fun r => { r with preTq := d }) s
  | 0x07 => requestRun n (bits d 0 4) s
  | 0x0F => putLiveReg n (fun r => { r with ilim := d.extractLsb' 0 15 }) s
  | 0x10 => writePeriod n d s
  | 0x11 => writeCompare n 0 d s
  | 0x12 => writeCompare n 1 d s
  | 0x13 => writeCompare n 2 d s
  | 0x14 => putLiveReg n (fun r => { r with trg := r.trg.set (0 : Fin 4) d }) s
  | 0x15 => putLiveReg n (fun r => { r with trg := r.trg.set (1 : Fin 4) d }) s
  | 0x16 => putLiveReg n (fun r => { r with trg := r.trg.set (2 : Fin 4) d }) s
  | 0x17 => putLiveReg n (fun r => { r with trg := r.trg.set (3 : Fin 4) d }) s
  | 0x18 => putLiveReg n (fun r => { r with force := d.extractLsb' 0 12 }) s
  | 0x1A => clearTrip n d s
  | _ => s

/-- The bits of a Commit-class register that exist (02 R80). -/
def commitMask (a : Nat) : Word :=
  match a with
  | 0x020 => 0x0FFF
  | 0x022 => 0x83FF
  | _ => 0xFFFF

/-- REQ of SYS_COMMIT (07 7.5): 1 commit, 2 check, 3 revert. -/
def commitRequest (req : Nat) (s : State) : State :=
  match req with
  | 1 => { s with cfg := { s.cfg with state := .checking true } }
  | 2 => { s with cfg := { s.cfg with state := .checking false } }
  | 3 => { s with cfg := { s.cfg with state := .reverting } }
  | _ => s

/-- PIN_IRQENn is written. -/
def writeIrqEn (b : Nat) (d : Word) (s : State) : State :=
  { s with pin := { s.pin with irqEn := loadLatch s.pin.irqEn (bankSel b d).1 (bankSel b d).2 } }

/-- An accepted write of `d` by `p` to a window register. -/
def windowWrite (p : Party) (n : Fin 4) (o : Nat) (d : Word) (s : State) : State :=
  let sel := reachWindow p n
  match o with
  | 0 => modWindow sel (fun w => w.writeAddr .space d) s
  | 1 => modWindow sel (fun w => w.writeAddr .addrL d) s
  | 2 => modWindow sel (fun w => w.writeAddr .addrH d) s
  | 3 => writeData p sel d s
  | 4 => modWindow sel (fun w => w.writeCount d) s
  | 6 => modWindow sel (fun w => w.writeCtrl d) s
  | _ => s

/-- An accepted write of `d` by `p` to a register. -/
def regWrite (p : Party) (a : Nat) (d : Word) (s : State) : State :=
  if 0x100 ≤ a then axisWrite (pageAxis a) (a % 32) d s
  else if 0x80 ≤ a ∧ a < 0xA0 then windowWrite p (pageWindow a) (a % 8) d s
  else if 0xC8 ≤ a ∧ a < 0xD4 then writeLatch (pinSel a d).1 (pinSel a d).2 s
  else if 0xD8 ≤ a ∧ a < 0xDC then writeIrqEn (a - 0xD8) d s
  else match a with
    | 0x007 => { s with host := { s.host with irqEn := d.extractLsb' 0 14 } }
    | 0x00E => commitRequest (bits d 0 2) s
    | 0x012 => powerRequest d s
    | 0x014 => { s with spread := d.extractLsb' 0 4 }
    | 0x01C => if bit d 0 then hostReset s else s
    | 0x020 | 0x022 | 0x025 | 0x061 => putShadow 0x1F a (d &&& commitMask a) s
    | 0x043 => ackFault d s
    | 0x044 => requestTest d s
    | 0x063 => storeCmd p (bits d 0 4) (d.extractLsb' 4 12) s
    | 0x069 => acknowledgeAlarms s
    | 0x0A0 => otpCmd d s
    | 0x0DC => lockThem d s
    | _ => s

/-! ### An access -/

/-- A guard event with its cause (02 R79). -/
def guardEvent (cause : Nat) (s : State) : State :=
  { s with host := { s.host with
    guardCount := satInc s.host.guardCount, guardCause := BitVec.ofNat 3 cause, guardFlag := true } }

/-- What a refused write leaves (02 R59, R79, 05 R167, R169): a guard event, and an OTP data phase that its key closes. -/
def refusedWrite (armed : Option KeyClass) (a : Nat) (r : Status × Nat) (s : State) : State :=
  let s := if a = 0x0A0 ∧ armed = some .store then otpRefused r.1 s else s
  if r.1 = .guarded then guardEvent r.2 s else s

/-- A write of `d` to a register by `p`, with the class armed as it began: its status and what it leaves. -/
def writeAccess (p : Party) (armed : Option KeyClass) (a : Nat) (d : Word) (s : State) : Status × State :=
  let r := reported (writeRefusals s p armed a d)
  if r.1 = .ok then (.ok, regWrite p a d s) else (r.1, refusedWrite armed a r s)

/-- A read of a register by `p`: its status, the data and what it leaves. -/
def readAccess (p : Party) (a : Nat) (s : State) : Status × Word × State :=
  let r := reported (readRefusals s p a)
  if r.1 = .ok then (.ok, regRead s p a, regReadEffect p a s) else (r.1, 0, s)

end Sys2Proof.Machine
end

