-- ==== Sys2Proof/Machine/FitWords.lean ====
section
/-! DEFINITION. Stage 1 of the fit check (07 Table 7.3): every Commit-class word and register field of the shadow
against the ranges, required values and combinations of its chapter. Each check answers the keys it refuses. -/

namespace Sys2Proof.Machine

/-! ### The configuration under check -/

/-- The state as the shadow configuration would make it, with the groups of the shadow. -/
def fitView (s : State) : State :=
  wordGroups { s with cfg := { s.cfg with running := s.cfg.shadow } }

/-- Key `k` if a condition refuses it. -/
def failIf (c : Bool) (k : Nat) : List Nat := if c then [k] else []

/-- A value that is neither 0 nor inside `lo` .. `hi`. -/
def outside (v lo hi : Nat) : Bool := v != 0 && (decide (v < lo) || decide (hi < v))

/-- The key of word `o` of block `n` of space 0x02. -/
def blockKey (n : Fin 8) (o : Nat) : Nat := cfgKey 2 (256 * n.val + o)

/-- The nominal carrier period of axis `n` in ticks, its leader's for a member. -/
def nominalTicks (v : State) (n : Fin 8) : Nat := perOf v n * prescOf v n

/-- Axis `n` is judged as a lone axis or leader: its bridge is enabled and it is no group member (03 R115, 06 R680). -/
def judged (v : State) (n : Fin 8) : Bool := bridgeOn v n && !isMember v n

/-! ### Reserved bits (00 R9) -/

/-- The defined bits of word `o` of a parameter block, other than its tail (10, 08, 06, 11, 12 tables). -/
def blockMask (o : Nat) : Word :=
  match o with
  | 0x00 => 0x000F
  | 0x01 => 0x007F
  | 0x02 | 0x03 | 0x04 | 0x05 => 0xFFFF
  | 0x06 => 0x03FF
  | 0x07 => 0x3FFF
  | 0x08 => 0x7FFF
  | 0x09 => 0x03FF
  | 0x0A => 0x07FF
  | 0x0B => 0xFFFF
  | 0x0C => 0x7FFF
  | 0x20 | 0x21 | 0x23 | 0x24 | 0x25 | 0x26 | 0x27 => 0xFFFF
  | 0x22 => 0x00FF
  | 0x40 => 0x3FFF
  | 0x41 => 0x0003
  | 0x42 => 0x01FF
  | 0x60 => 0x0003
  | 0x61 | 0x62 | 0x63 | 0x64 | 0x65 | 0x66 => 0x03FF
  | 0x67 => 0x00FF
  | 0x68 => 0x007F
  | 0x69 => 0xFFFF
  | 0x6A => 0xFF0F
  | 0x80 => 0x007F
  | 0x81 | 0x82 | 0x85 | 0x89 | 0x8A | 0x8C => 0xFFFF
  | 0x83 | 0x84 => 0x03FF
  | 0x86 | 0x8B => 0x007F
  | 0x87 | 0x88 => 0x07FF
  | 0x8D => 0x0003
  | 0x90 | 0x91 | 0x92 | 0x93 | 0x94 | 0x95 => 0xFFFF
  | 0xA0 | 0xA9 | 0xAB => 0x00FF
  | 0xA1 | 0xAD => 0x7FFF
  | 0xA2 => 0x1FFF
  | 0xA8 => 0x01FF
  | 0xAA => 0x007F
  | 0xAC => 0x03FF
  | 0xB0 => 0x00F3
  | 0xB1 => 0xFFFF
  | 0xB2 => 0x0FFF
  | 0xB3 => 0x000F
  | 0xC0 => 0x003F
  | 0xC1 | 0xC6 => 0x03FF
  | 0xC2 | 0xC3 | 0xC4 | 0xC5 => 0xFFFF
  | _ => 0

/-- The defined bits of word `o` of the tail of block `k` (06 Table 6.7). -/
def tailMask (k o : Nat) : Word :=
  if k < 2 then
    match o with
    | 0xE0 => 0x03FF
    | 0xE1 => 0xFFFF
    | _ => 0
  else if k < 6 then
    match o with
    | 0xE0 => 0x0001
    | 0xE1 | 0xE2 | 0xE3 => 0xFFFF
    | _ => 0
  else
    match o with
    | 0xE0 => 0x0003
    | 0xE2 | 0xE3 | 0xE8 | 0xE9 => 0xFFFF
    | _ => 0

/-- The defined bits of a word of space 0x05 (13 Table 13.11). -/
def convMask (a : Nat) : Word :=
  if a < 0x600 then (if a % 24 = 0 then 0x03FF else if a % 24 ≤ 16 then 0x0007 else 0)
  else if a < 0x700 then (if a % 16 < 5 then 0x009F else 0)
  else if a < 0x780 then
    (if a % 16 < 4 then 0x00BF else if a % 16 = 4 then 0xFFFF else if a % 16 = 5 then 0x03FF
     else if a % 16 = 6 then 0x0007 else 0)
  else if a % 32 < 12 then 0x0FFF else 0

/-- The defined bits of a word of space 0x08 (09 Tables 9.11, 9.12). -/
def gateMask (a : Nat) : Word :=
  if a < 0x300 then
    match a % 16 with
    | 0 | 1 => 0x1FFF
    | 2 => 0x03FF
    | 3 => 0x00FF
    | _ => 0
  else
    match a % 16 with
    | 0 => 0x007F
    | 1 => 0xFFFF
    | 2 | 3 => 0x0FFF
    | 4 => 0x000F
    | _ => 0

/-- The defined bits of a word of space 0x09 (14 Tables 14.5, 14.7). -/
def pinMask (a : Nat) : Word :=
  if a < 0x200 then
    match a % 8 with
    | 0 => 0x01FF
    | 1 => 0x00FF
    | 2 => 0x0007
    | 3 => 0x0003
    | _ => 0
  else if a < 0x224 then 0x00BF else 0

/-- The defined bits of a Commit-class word of space 0x0A (15 Table 15.9). -/
def seamMask (a : Nat) : Word :=
  if a < 0x20 then (if a % 16 = 0 then 0x803F else if a % 16 = 1 then 0x001F else 0x000F)
  else if a < 0x60 then (if a % 16 = 0 then 0x003F else if a % 16 = 1 then 0x03FF else 0x00FF)
  else if a < 0x80 then 0xFFFF
  else if a < 0x90 then (if a % 2 = 0 then 0x83FF else 0x003F)
  else 0xFFFF

/-- The defined bits of a Commit-class word; space 0x00 is left to stage 2. -/
def commitMask1 (space a : Nat) : Word :=
  match space with
  | 0x02 => if 0xE0 ≤ a % 256 then tailMask (a / 256) (a % 256) else blockMask (a % 256)
  | 0x03 => if a % 4 < 2 then 0xFFFF else if a % 4 = 2 then 0x3FFF else 0
  | 0x05 => convMask a
  | 0x08 => gateMask a
  | 0x09 => pinMask a
  | 0x0A => seamMask a
  | _ => 0xFFFF

/-- Table `t` of space 0x03 is judged: an axis selects it with ADVEN 1 (03 R115). -/
def tableSelected (v : State) (t : Nat) : Bool :=
  allAxes.any fun n => judged v n && bit (axWord v n 0x42) 3 && bits (axWord v n 0x42) 0 3 == t

/-- A word is not judged (03 R115, 06 R680, 11 R384). -/
def unjudged (v : State) (space a : Nat) : Bool :=
  match space with
  | 0x02 =>
    let n : Fin 8 := Fin.ofNat 8 (a / 256)
    let o := a % 256
    decide (o < 0xE0) && o != 0x6A &&
      (!bridgeOn v n || (isMember v n && (o == 0x42 || (decide (0x80 ≤ o ∧ o < 0xC0) && o != 0x94 && o != 0x95))))
  | 0x03 => !tableSelected v (a / 64)
  | 0x05 => decide (0x700 ≤ a ∧ a < 0x780 ∧ a % 16 < 7) && !bridgeOn v (Fin.ofNat 8 ((a - 0x700) / 16))
  | 0x08 =>
    if a < 0x300 then !bridgeOn v (Fin.ofNat 8 (a / 96)) else !bridgeOn v (Fin.ofNat 8 ((a - 0x300) / 16))
  | _ => false

/-- The words with a reserved bit set (00 R9). -/
def failReserved (v : State) : List Nat :=
  (v.cfg.running.filter fun c =>
    let space := c.1 / 65536
    let a := c.1 % 65536
    decide (space < 0x1F) && c.2 &&& ~~~commitMask1 space a != 0 && !unjudged v space a).map (·.1)

/-! ### Groups (08 R291, R296) and changes under way (10 R383) -/

/-- The members that name `l`, ascending. -/
def membersOf (v : State) (l : Fin 8) : List (Fin 8) :=
  allAxes.filter fun n => isMember v n && v.axes[n].group.leader == l

/-- The group word of axis `n` (08 R291). -/
def failGroup (v : State) (n : Fin 8) : List Nat :=
  let l := v.axes[n].group.leader
  failIf (isMember v n &&
    (l == n || isMember v l || !bridgeOn v n || !bridgeOn v l || ((membersOf v l).drop 3).contains n))
    (blockKey n 0x6A)

/-- A word of axis `n` changed under a mask. -/
def edited (s v : State) (n : Fin 8) (o : Nat) (mask : Word) : Bool :=
  axWord s n o &&& mask != axWord v n o &&& mask

/-- PRESC and the group words of an axis that is not at rest (08 R296). -/
def failMoving (s v : State) (n : Fin 8) : List Nat :=
  let busy := [n, leaderOf s n, leaderOf v n].any fun m => !(axSt s m).atRest
  failIf (busy && bridgeOn v n && edited s v n 0x60 0x0003) (blockKey n 0x60) ++
    failIf (busy && edited s v n 0x6A 0xFF0F) (blockKey n 0x6A)

/-- MODE, PWMSTYLE and words 0x01-0x05 of an axis that is not stopped (10 R383). -/
def failMode (s v : State) (n : Fin 8) : List Nat :=
  let st := axSt s n
  if !bridgeOn v n || st.atRest || st == .tripped then []
  else
    failIf (edited s v n 0 (if isMember v n then 0x0004 else 0x0007)) (blockKey n 0) ++
      ([1, 2, 3, 4, 5].filter fun o => edited s v n o 0xFFFF).map (blockKey n)

/-! ### The axis block (10 10.11, 08 8.9, 06 Table 6.6) -/

/-- The command, regulator and commutation words. -/
def failDrive (s v : State) (n : Fin 8) : List Nat :=
  let w := axWord v n
  if !bridgeOn v n then []
  else
    failIf (!isMember v n && modeOf v n == 3) (blockKey n 0) ++
    failIf (decide (1 ≤ s.axes[n].eff.cmdSrc.toNat ∧ s.axes[n].eff.cmdSrc.toNat ≤ 3) && decide ((w 5).toNat ≤ (w 4).toNat))
      (blockKey n 4) ++
    failIf (decide (1000 < (w 6).toNat)) (blockKey n 6) ++
    failIf (outside (w 7).toNat 10 10000) (blockKey n 7) ++
    failIf (decide (1000 < (w 9).toNat)) (blockKey n 9) ++
    failIf (decide (2000 < (w 0xA).toNat)) (blockKey n 0xA) ++
    failIf (!isMember v n && modeOf v n == 0 && w 0x25 == 0) (blockKey n 0x25) ++
    failIf (!isMember v n && modeOf v n == 0 && w 0x26 == 0) (blockKey n 0x26) ++
    failIf (decide (10923 < (w 0x40).toNat)) (blockKey n 0x40) ++
    failIf (!isMember v n && bit (w 0x42) 3 && (bits (w 0x42) 4 5 == 0 || decide (16 < bits (w 0x42) 4 5)))
      (blockKey n 0x42)

/-- The PWM words (08 R273, R274, R283, R289). -/
def failPwm (v : State) (n : Fin 8) : List Nat :=
  let w := axWord v n
  let t := nominalTicks v n
  if !bridgeOn v n then []
  else
    failIf (!isMember v n && (decide (t < 2000) || decide (133333 < t))) (blockKey n 0x60) ++
    ((allLegs.filter fun leg =>
        decide (shortestPeriod v n (perOf v n) < (deadR v n leg + deadF v n leg + 2 * minpOf v n) / 16 + 2)).map
      fun leg => blockKey n (0x61 + 2 * leg.val)) ++
    failIf (decide (100 < (w 0x68).toNat)) (blockKey n 0x68) ++
    failIf (w 0x69 == 0 && bits (w 0x68) 0 7 != 0) (blockKey n 0x69)

/-- The ladder words (06 Table 6.6, R233). -/
def failLadder (v : State) (n : Fin 8) : List Nat :=
  let w := axWord v n
  let rung := bits (w 0x80) 0 7 != 0
  let enc := bit (w 0x80) 0
  if !judged v n then []
  else
    failIf (decide (4 < seamSel v n)) (blockKey n 0x80) ++
    failIf (decide (3000000 < ratedOf v n) || (rung && ratedOf v n == 0)) (blockKey n 0x81) ++
    failIf (decide (1000 < (w 0x83).toNat)) (blockKey n 0x83) ++
    failIf (decide (1000 < (w 0x84).toNat) || (bit (w 0x80) 1 && bit (w 0x80) 2 &&
      decide (orDefault (w 0x83).toNat 50 ≤ orDefault (w 0x84).toNat 30))) (blockKey n 0x84) ++
    failIf (outside (w 0x85).toNat 2731 32768) (blockKey n 0x85) ++
    failIf (decide (64 < (w 0x86).toNat)) (blockKey n 0x86) ++
    failIf (outside (w 0x87).toNat 10 1000) (blockKey n 0x87) ++
    failIf (outside (w 0x88).toNat 10 2000) (blockKey n 0x88) ++
    failIf (outside (axWord32 v n 0x89) 4 (2 ^ 31) || (enc && axWord32 v n 0x89 == 0)) (blockKey n 0x89) ++
    failIf (decide (64 < (w 0x8B).toNat) || (enc && w 0x8B == 0)) (blockKey n 0x8B) ++
    failIf (decide (3000000 < rotorVmax v n) || (rung && rotorVmax v n == 0)) (blockKey n 0x90) ++
    failIf (outside (axWord32 v n 0x92) (rotorVmax v n) 3000000) (blockKey n 0x92) ++
    failIf (enc && !bit (w 0xC0) 0) (blockKey n 0xC0)

/-- The carrier VMAX (06 Table 6.2). -/
def failCarrierVmax (v : State) (n : Fin 8) : List Nat :=
  let r := topRate (perOf v n) (prescOf v n) (dithOf v n)
  let x := axWord32 v n 0x94
  failIf (bridgeOn v n && x != 0 && (decide (x * r.2 < r.1) || decide (110000000 < x))) (blockKey n 0x94)

/-- The feedback words (12 R428). -/
def failFeedback (v : State) (n : Fin 8) : List Nat :=
  let w := axWord v n
  if !bridgeOn v n || !bit (w 0xC0) 0 then []
  else
    failIf (outside (w 0xC1).toNat 10 1000) (blockKey n 0xC1) ++
    failIf (decide (20000000 < axWord32 v n 0xC2)) (blockKey n 0xC2) ++
    failIf (decide (chgHi v n ≤ chgLo v n)) (blockKey n 0xC4) ++
    failIf (decide (1000 < (w 0xC6).toNat)) (blockKey n 0xC6)

/-! ### The six COMMUTE actions (10 R351) -/

/-- The slots from `k` on along its links, at most `fuel` of them. -/
def chainSlots (v : State) : Nat → Nat → List Nat
  | 0, _ => []
  | fuel + 1, k =>
    k :: (if bit (slotWord v k 5) 10 then chainSlots v fuel (bits (slotWord v k 5) 0 10) else [])

/-- The enabled slots, ascending (07 R240). -/
def enabledSlots (v : State) : List Nat := (List.range 1024).filter fun k => bit (slotWord v k 0) 15

/-- The enabled slots of the chain of an enabled head `k`. -/
def headChain (v : State) (k : Nat) : List Nat := (chainSlots v 8 k).filter fun m => bit (slotWord v m 0) 15

/-- Sector `sec` of axis `n` is commuted by a chain bound to its advanced angle in both directions. -/
def commutes (v : State) (n : Fin 8) (chains : List (List Nat)) (sec : Nat) : Bool :=
  chains.any fun c => c.any fun m =>
    bits (slotWord v m 2) 0 8 == 1 && bits (slotWord v m 3) 0 3 == n.val &&
      bits (slotWord v m 4) 0 3 == sec && bits (slotWord v m 4) 4 3 == (sec + 5) % 6

/-- The MODE words of speed and torque axes without their six actions. -/
def failSix (v : State) : List Nat :=
  let axes := allAxes.filter fun n => judged v n && decide (modeOf v n < 2)
  if axes.isEmpty then []
  else
    let heads := (enabledSlots v).filter fun k => isHead v k && bits (slotWord v k 0) 5 2 == 3
    (axes.filter fun n =>
      let chains := (heads.filter fun k => (slotSource v k).val == 8 + n.val).map (headChain v)
      !(List.range 6).all (commutes v n chains)).map fun n => blockKey n 0

/-! ### Sensorless settings (11 Table 11.4) -/

/-- The pulse probe. -/
def failProbe (v : State) (n : Fin 8) : List Nat :=
  let pimax := bits (axWord v n 0xA1) 0 15
  failIf (outside (axWord v n 0xA0).toNat 5 200) (blockKey n 0xA0) ++
    failIf (pimax == 0 || (groupOf v n).any fun m =>
      bit (tripWord v m 0) 0 && decide ((tripWord v m 1).toNat ≤ pimax)) (blockKey n 0xA1) ++
    failIf (outside (axWord v n 0xA2).toNat 10 5000) (blockKey n 0xA2)

/-- The injection estimator. Twice the half period of the injection, in ticks, is the time base. -/
def failInjection (v : State) (n : Fin 8) : List Nat :=
  let w := axWord v n
  let div := bits (w 0xA8) 0 8
  let t := 2 * div * nominalTicks v n
  let bw := (w 0xAA).toNat
  failIf (bits (w 0x80) 0 2 == 0 && !bit (w 0x80) 3 && seamSel v n == 0) (blockKey n 0x80) ++
    failIf (div == 0 || decide (200 < div) || decide (200000000 < 250 * t) || decide (2000 * t < 200000000))
      (blockKey n 0xA8) ++
    failIf (outside (w 0xA9).toNat 10 150) (blockKey n 0xA9) ++
    failIf (outside bw 5 100 || decide (200000000 < 10 * orDefault bw 20 * t)) (blockKey n 0xAA) ++
    failIf (outside (w 0xAB).toNat 4 255) (blockKey n 0xAB) ++
    failIf (decide ((w 0xAC).toNat < 20) || decide (900 < (w 0xAC).toNat)) (blockKey n 0xAC)

/-- The sequence of the back-EMF estimator is bound and holds its four entries (11 R405). -/
def bemfSequence (v : State) (n : Fin 8) : Bool :=
  let w := axWord v n 0xB0
  let t := runWord v 5 (0x700 + 16 * n.val + bits w 0 2)
  let q := bits t 0 6
  let ent := bits w 4 4
  bit t 7 && decide (ent ≤ 12) && (convAxis (Fin.ofNat 16 (bits (seqHeader v q) 5 4))) == n &&
    ((seqInputs v q).drop ent).take 4 == [0, 1, 2, 3]

/-- The key of a word of the advance table of axis `n`. -/
def advKey (v : State) (n : Fin 8) (b w : Nat) : Nat := cfgKey 3 (64 * bits (axWord v n 0x42) 0 3 + 4 * b + w)

/-- The breakpoints in use by axis `n` under ADVEN 1. -/
def advUsed (v : State) (n : Fin 8) : List Nat :=
  if bit (axWord v n 0x42) 3 then List.range (min 16 (bits (axWord v n 0x42) 4 5)) else []

/-- ADV of breakpoint `b` of the table axis `n` selects. -/
def advAt (v : State) (n : Fin 8) (b : Nat) : Nat := bits (v.cfg.running.get (advKey v n b 2)) 0 14

/-- SPEED of breakpoint `b` of the table axis `n` selects. -/
def advSpeed (v : State) (n : Fin 8) (b : Nat) : Nat := (v.cfg.running.get32 (advKey v n b 0)).toNat

/-- The back-EMF estimator. -/
def failBemf (v : State) (n : Fin 8) : List Nat :=
  let w := axWord v n
  failIf (decide (3641 < (w 0x40).toNat)) (blockKey n 0x40) ++
    failIf (decide (1000 * 200000000 < rotorVmax v n * 24 * nominalTicks v n)) (blockKey n 0x90) ++
    failIf (!bemfSequence v n) (blockKey n 0xB0) ++
    failIf (w 0xB1 == 0) (blockKey n 0xB1) ++
    failIf (outside (w 0xB3).toNat 3 15) (blockKey n 0xB3) ++
    ((advUsed v n).filter fun b => decide (3641 < advAt v n b)).map fun b => advKey v n b 2

/-- The enabled estimators of axis `n` (11 R411). -/
def failSensorless (v : State) (n : Fin 8) : List Nat :=
  let w := ladderWord v n
  if !judged v n then []
  else (if bit w 3 then failProbe v n else []) ++ (if bit w 2 then failInjection v n else []) ++
    (if bit w 1 then failBemf v n else [])

/-! ### Tails (06 Table 6.2, 13 Table 13.6) -/

/-- The tail of block `k`. -/
def failTail (v : State) (k : Fin 8) : List Nat :=
  let w := tailWord v k.val
  let x := axWord32 v k 0xE2
  let rate := axWord32 v k 0xE8
  if k.val < 2 then
    failIf (bit (w 0xE0) 0 && !bridgeOn v (convAxis (Fin.ofNat 16 (bits (w 0xE0) 1 4)))) (blockKey k 0xE0)
  else if k.val < 6 then
    failIf ((bit (w 0xE0) 0 && x == 0) || decide (3000000 < x)) (blockKey k 0xE2)
  else
    failIf (x != 0 && (decide (x < rate) || decide (100000000 < x))) (blockKey k 0xE2) ++
      failIf (outside rate 1000 100000000 || (bit (w 0xE0) 0 && rate == 0)) (blockKey k 0xE8)

/-! ### Advance tables and hem profiles (10 R358, R361) -/

/-- The advance table axis `n` selects. -/
def failAdvance (v : State) (n : Fin 8) : List Nat :=
  if !judged v n then []
  else
    ((advUsed v n).filter fun b => decide (0 < b) && decide (advSpeed v n b ≤ advSpeed v n (b - 1))).map
        (fun b => advKey v n b 0) ++
      ((advUsed v n).filter fun b => decide (10923 < advAt v n b)).map fun b => advKey v n b 2

/-- The hem profile axis `n` selects. -/
def failProfile (v : State) (n : Fin 8) : List Nat :=
  let a := 128 * n.val + 32 * bits (axWord v n 0x41) 0 2
  let p := fun i => (runWord v 4 (a + i)).toNat
  if !judged v n || axWord v n 0x40 == 0 then []
  else
    ((List.range 31).filter fun i => decide (p (i + 1) < p i)).map (fun i => cfgKey 4 (a + i + 1)) ++
      failIf (p 31 != 65535) (cfgKey 4 (a + 31))

/-! ### Converters (13 Table 13.6, R456) -/

/-- The route word of input `i` of converter `j`. -/
def routeAddr (j i : Nat) : Nat := 0x600 + 16 * j + i

/-- Sequence `q`. -/
def failSequence (v : State) (q : Nat) : List Nat :=
  let len := bits (seqHeader v q) 0 5
  let j := bits (seqHeader v q) 5 4
  failIf (decide (1 ≤ len ∧ len ≤ 16) && !bridgeOn v (convAxis (Fin.ofNat 16 j))) (cfgKey 5 (24 * q)) ++
    ((List.range (min 16 len)).filter fun e =>
        let i := bits (runWord v 5 (24 * q + 1 + e)) 0 3
        decide (i < 5) && !bit (runWord v 5 (routeAddr j i)) 7).map fun e => cfgKey 5 (24 * q + 1 + e)

/-- The routes of converter `j`. -/
def failRoutes (v : State) (j : Nat) : List Nat :=
  ((List.range 5).filter fun i =>
    let w := runWord v 5 (routeAddr j i)
    bit w 7 && !pinAnalog v (32 + bits w 0 5)).map fun i => cfgKey 5 (routeAddr j i)

/-- The converter words of axis `n`. -/
def failConverter (v : State) (n : Fin 8) : List Nat :=
  let a := 0x700 + 16 * n.val
  let mdec := bits (runWord v 5 (a + 6)) 0 3
  if !bridgeOn v n then []
  else
    ((List.range 4).filter fun m =>
        let w := runWord v 5 (a + m)
        bit w 7 && bits (seqHeader v (bits w 0 6)) 0 5 == 0).map (fun m => cfgKey 5 (a + m)) ++
      failIf (!isMember v n && bit (ladderWord v n) 1 && runWord v 5 (a + 4) == 0) (cfgKey 5 (a + 4)) ++
      failIf (decide (4 < mdec) || decide (192000000 * nominalTicks v n < 11 * 200000000 * 16 * 2 ^ mdec))
        (cfgKey 5 (a + 6))

/-! ### Gate channels and trips (09 R344) -/

/-- The words of gate channel `k`. -/
def failChannel (v : State) (k : Fin 48) : List Nat :=
  let a := 16 * k.val
  let w := runWord v 8 (a + 2)
  if !bridgeOn v (Fin.ofNat 8 (k.val / 6)) then []
  else
    failIf (bits w 0 4 == 15 || decide (11 < bits w 4 4)) (cfgKey 8 (a + 2)) ++
      failIf (outside (runWord v 8 (a + 3)).toNat 100 175) (cfgKey 8 (a + 3))

/-- A sequence converts the DC-link input of axis `n`. -/
def dcSequence (v : State) (n : Fin 8) : Bool :=
  (List.range 64).any fun q =>
    convAxis (Fin.ofNat 16 (bits (seqHeader v q) 5 4)) == n && (seqInputs v q).contains 3

/-- The words of bridge `n`. -/
def failBridge (v : State) (n : Fin 8) : List Nat :=
  let w := tripWord v n
  let key := fun i => cfgKey 8 (0x300 + 16 * n.val + i)
  if !bridgeOn v n then []
  else
    failIf ((bit (w 0) 1 || bit (w 0) 2) && !dcSequence v n) (key 0) ++
      failIf (bit (w 0) 1 && bit (w 0) 2 && decide ((w 2).toNat ≤ (w 3).toNat)) (key 3)

/-! ### Pins (14 Table 14.4) -/

/-- OSEL names a signal of 14 Table 14.2. -/
def oselListed (c : Nat) : Bool := decide (c ≤ 0x2A) || decide (0x40 ≤ c ∧ c ≤ 0x43)

/-- A pin of this owner may drive this signal (14 Table 14.2). -/
def oselFits (c : Nat) (o : Owner) : Bool :=
  if c = 0 then o != .axis && o != .firmware
  else if c ≤ 0x2A then o == .axis
  else o == .firmware

/-- Pin `p` counts as active in SLEEP and BACKUP under the shadow (14 R500). -/
def countsActive (v : State) (p : Nat) : Bool :=
  let w := v.bak.ram.get 0x10
  (decide (p < 16) && bit (padWord v p 3) 0) || (decide (4 ≤ p ∧ p < 8) && (bit w 0 || bit w 12))

/-- The words of pin `p`. -/
def failPin (v : State) (p : Nat) : List Nat :=
  let w := pinWord v p 0
  let osel := bits (pinWord v p 1) 0 8
  let oe := bit w 6
  let diff := bit w 8
  let key := fun i => cfgKey 9 (8 * p + i)
  failIf (bits w 0 2 == 3 || bits w 3 2 == 3 || (bit w 7 && decide (p < 32)) ||
      (diff && (p % 2 == 1 || decide (32 ≤ p))) || (oe && (bit w 7 || pinDiff v p))) (key 0) ++
    failIf (!oselListed osel || (oe && !oselFits osel (pinOwner v p))) (key 1) ++
    failIf (decide (5 ≤ bits (pinWord v p 2) 0 3)) (key 2) ++
    failIf ((bit (pinWord v p 3) 0 && decide (16 ≤ p)) ||
      (bit (padWord v p 3) 0 && decide (8 < ((List.range (p + 1)).filter (countsActive v)).length))) (key 3)

/-- The selector of input signal `i`. -/
def failSelector (v : State) (i : Nat) : List Nat :=
  let w := runWord v 9 (0x200 + i)
  let p := bits w 0 6
  failIf ((bit w 7 && (pinAnalog v p || (pinDiff v p && p % 2 == 1))) ||
      (decide (24 ≤ i ∧ i < 28) && !bit w 7 &&
        allAxes.any fun n => bridgeOn v n && bit (tripWord v n 0) (3 + (i - 24))))
    (cfgKey 9 (0x200 + i))

/-! ### Seam tables (15 Table 15.7) -/

/-- The publications and subscriptions. -/
def failChannels (v : State) : List Nat :=
  let twin := pubOn v 0 && pubOn v 1 && pubChannel v 0 == pubChannel v 1
  failIf twin (cfgKey 0xA 0x10) ++
    ((List.finRange 4).filter fun k =>
        subOn v k && (List.finRange 2).any fun q => pubOn v q && pubChannel v q == subChannel v k).map
      (fun k => cfgKey 0xA (0x20 + 16 * k.val)) ++
    ((List.finRange 2).filter fun q => decide (8 < bits (seamWord v (16 * q.val + 3)) 0 4)).map
      (fun q => cfgKey 0xA (16 * q.val + 3)) ++
    failIf (outside (seamWord v 0xA0).toNat 10 10000) (cfgKey 0xA 0xA0)

/-- CMDAXES of subscription `k`, if enabled. -/
def cmdAxesOf (v : State) (k : Fin 4) : Word :=
  if subOn v k then keepLow (seamWord v (0x22 + 16 * k.val)) 8 else 0

/-- Axes commanded by two subscriptions, or by none (15 Table 15.7). -/
def failCommands (s v : State) : List Nat :=
  ((List.finRange 4).filter fun k => (List.finRange 4).any fun j =>
      decide (j.val < k.val) && cmdAxesOf v j &&& cmdAxesOf v k != 0).map
    (fun k => cfgKey 0xA (0x22 + 16 * k.val)) ++
  (allAxes.filter fun n => s.axes[n].eff.cmdSrc.toNat == 4 &&
      !(List.finRange 4).any fun k => bit (cmdAxesOf v k) n.val).map
    fun n => cfgKey 0x1F (0x105 + 0x20 * n.val)

/-- The identity a Seam part needs. -/
def failIdentity (v : State) : List Nat :=
  failIf ((ownId v).isNone && (gangNumber v != 0 || (List.finRange 2).any (pubOn v) || (List.finRange 4).any (subOn v)))
    (cfgKey 0x1F 0x022)

/-- The enabled entries of the gang list. -/
def gangEntries (v : State) : List (Fin 8) := (List.finRange 8).filter fun m => memOn v m

/-- The gang list of a module whose SEAM_GANG is not 0 (15 Table 15.7, row 3). -/
def failGangList (v : State) : List Nat :=
  let on := gangEntries v
  failIf (!memOn v 0 || decide (on.length < 2) || !(on.any fun m => ownId v == some (memId v m))) (cfgKey 0xA 0x80) ++
    (on.filter fun m => on.any fun j => decide (j.val < m.val) && memId v j == memId v m).map
      (fun m => cfgKey 0xA (0x80 + 2 * m.val))

/-- GAXES with GANG not 0. -/
def failGangAxes (v : State) : List Nat :=
  failIf ((gangAxes v).isEmpty || (gangAxes v).any fun n => isMember v n || !bridgeOn v n) (cfgKey 0x1F 0x025)

/-- A leader publishes the rotor angle of its lowest gang axis on the shared channel. -/
def failGangLeader (v : State) : List Nat :=
  match (gangAxes v).head? with
  | none => []
  | some n =>
    match (List.finRange 2).find? fun q => pubOn v q && pubChannel v q == memChannel v 0 with
    | some q => failIf (bits (seamWord v (16 * q.val + 1)) 0 5 != n.val) (cfgKey 0xA (16 * q.val + 1))
    | none => [cfgKey 0xA 1]

/-- A member publishes its list channel and follows the shared one. -/
def failGangMember (v : State) : List Nat :=
  ((gangEntries v).filter fun m => ownId v == some (memId v m) &&
      !(List.finRange 2).any fun q => pubOn v q && pubChannel v q == memChannel v m).map
    (fun m => cfgKey 0xA (0x81 + 2 * m.val)) ++
  match sharedSub v with
  | none => [cfgKey 0xA 0x81]
  | some k => ((gangAxes v).filter fun n => seamSub v n != some k).map fun n => blockKey n 0x80

/-- The gang settings. -/
def failGang (v : State) : List Nat :=
  (if runReg v 0x025 = 0 then [] else failGangList v) ++
  if gangNumber v = 0 then []
  else failGangAxes v ++ (if isLeader v then failGangLeader v else if memOn v 0 then failGangMember v else [])

/-! ### Stage 1 -/

/-- REARM of the enabled heads (07 Table 7.1). A disabled slot is ignored (R240), and a member has no REARM (R238). -/
def failRearm (v : State) : List Nat :=
  ((enabledSlots v).filter fun k => isHead v k && decide (32768 < (slotWord v k 7).toNat)).map fun k => cfgKey 0 (8 * k + 7)

/-- The keys stage 1 refuses in configuration `v`, in state `s`. -/
def failedWords (s v : State) : List Nat :=
  failReserved v ++ failRearm v ++
    allAxes.flatMap (fun n => failGroup v n ++ failMoving s v n ++ failMode s v n ++ failDrive s v n ++ failPwm v n ++
      failLadder v n ++ failCarrierVmax v n ++ failFeedback v n ++ failSensorless v n ++ failTail v n ++
      failAdvance v n ++ failProfile v n ++ failConverter v n ++ failBridge v n) ++
    failSix v ++ (List.range 64).flatMap (failSequence v) ++ (List.range 16).flatMap (failRoutes v) ++
    (List.finRange 48).flatMap (failChannel v) ++ (List.range 64).flatMap (failPin v) ++
    (List.range 36).flatMap (failSelector v) ++ failChannels v ++ failCommands s v ++ failIdentity v ++ failGang v

/-- The word stage 1 names: spaces, words and registers in ascending order (07 Table 7.3). -/
def firstFailed (s v : State) : Option Nat := (failedWords s v).min?

end Sys2Proof.Machine
end

