-- ==== Sys2Proof/Machine/FitCheck.lean ====
section
/-! DEFINITION. Stages 2 to 4 of the fit check and its result (07 R262-R271). -/

namespace Sys2Proof.Machine

/-- What a fit check answers (07 Table 7.6), with the proven bounds of the lanes (07 R261). -/
structure FitResult where
  code : Nat
  dkind : Nat
  space : Nat
  detail : Nat
  margin : Word
  bounds : Vector LaneBound 8
  deriving DecidableEq, Repr

/-- A failure of stages 1 to 3 (07 R271). -/
def FitResult.fail (code dkind space detail : Nat) : FitResult where
  code := code
  dkind := dkind
  space := space
  detail := detail
  margin := 0x8000
  bounds := Vector.replicate 8 { bound := 0, pdepth := 0, margin := 0 }

/-! ### Stage 2: slots and chains (07 R238-R241) -/

/-- The parameter bits of an action code; none for a reserved code (07 Table 7.2). -/
def actionMasks (code : Nat) : Option (Word × Word) :=
  match code with
  | 0x00 => some (0, 0)
  | 0x01 => some (0x0007, 0x0077)
  | 0x02 => some (0x003F, 0)
  | 0x03 | 0x04 | 0x05 | 0x06 => some (0x000F, 0)
  | 0x07 | 0x08 | 0x09 => some (0x0007, 0)
  | 0x0A => some (0x0001, 0x001F)
  | 0x0B => some (0x0007, 0)
  | 0x0C => some (0x000F, 0)
  | _ => none

/-- The encoding of slot `k` is refused (07 Table 7.4 SLOT). DIR of a member is not used (R238). -/
def slotBad (v : State) (k : Nat) : Bool :=
  let w := slotWord v k
  bits (w 0) 11 4 != 0 || bits (w 2) 8 8 != 0 || bits (w 5) 11 5 != 0 ||
    (match actionMasks (bits (w 2) 0 8) with
     | none => true
     | some m => w 3 &&& ~~~m.1 != 0 || w 4 &&& ~~~m.2 != 0) ||
    (bits (w 2) 0 8 == 1 && (decide (5 < bits (w 4) 0 3) || decide (5 < bits (w 4) 4 3))) ||
    (!bit (w 0) 7 && bits (w 0) 5 2 == 0)

/-- A head and the slots of its chain, the head first. -/
structure HeadChain where
  head : Nat
  slots : List Nat
  deriving DecidableEq, Repr

/-- Walks a chain from slot `k`, with the slots walked before it in reverse and the members of earlier chains. -/
def walkChain (v : State) (claimed : List Nat) : Nat → List Nat → Nat → List Nat ⊕ FitResult
  | 0, done, _ => .inr (FitResult.fail 0x04 1 0 (done.getLastD 0))
  | fuel + 1, done, k =>
    let done := k :: done
    if bit (slotWord v k 5) 10 then
      let m := bits (slotWord v k 5) 0 10
      if !bit (slotWord v m 0) 15 || !bit (slotWord v m 0) 7 || done.contains m || claimed.contains m then
        .inr (FitResult.fail 0x03 1 0 k)
      else walkChain v claimed fuel done m
    else .inl done.reverse

/-- Stage 2 over the slots left, with the chains found: the chains, or the first failure. -/
def walkSlots (v : State) : List Nat → List HeadChain → List HeadChain ⊕ FitResult
  | [], acc => .inl acc
  | k :: r, acc =>
    if slotBad v k then .inr (FitResult.fail 0x02 1 0 k)
    else if bit (slotWord v k 0) 7 then walkSlots v r acc
    else
      match walkChain v (acc.flatMap fun c => c.slots.tail) 8 [] k with
      | .inl l => walkSlots v r (acc ++ [{ head := k, slots := l }])
      | .inr f => .inr f

/-! ### Stage 3: targets (07 R263, R264) -/

/-- A source produces an angle. -/
def produces (v : State) (k : Nat) : Bool :=
  let n : Fin 8 := Fin.ofNat 8 k
  if k < 16 then bridgeOn v n && bridgeOn v (leaderOf v n) && bits (ladderWord v (leaderOf v n)) 0 7 != 0
  else if k < 24 then bridgeOn v n
  else bit (tailWord v (k - 24) 0xE0) 0

/-- Slot `k` fails TARGET. -/
def targetBad (v : State) (k : Nat) : Bool :=
  let w := slotWord v k
  let n : Fin 8 := Fin.ofNat 8 (bits (w 3) 0 3)
  (!bit (w 0) 7 && !produces v (slotSource v k).val) ||
    (match bits (w 2) 0 8 with
     | 0x01 | 0x0B => !judged v n
     | 0x07 | 0x08 => !judged v n || !rungOn v n .inj
     | 0x02 => bits (seqHeader v (bits (w 3) 0 6)) 0 5 == 0
     | 0x09 => !bridgeOn v n || !bit (fbWord v n) 0
     | 0x0A => !pubOn v (Fin.ofNat 2 (bits (w 3) 0 1)) || !produces v (bits (w 4) 0 5)
     | _ => false)

/-- The channels in the mask of port `p`. -/
def angleSlots (v : State) (p : Nat) : Nat :=
  ((List.range 64).filter fun c => bit (seamWord v (0x60 + 8 * p + c / 16)) (c % 16)).length

/-- Stage 3: its first failure. -/
def failedTarget (v : State) (slots : List Nat) : Option FitResult :=
  match slots.find? (targetBad v) with
  | some k => some (FitResult.fail 0x05 1 0 k)
  | none =>
    match (List.range 64).find? fun q => decide (16 < bits (seqHeader v q) 0 5) with
    | some q => some (FitResult.fail 0x06 3 0 q)
    | none =>
      match (List.range 4).find? fun p => decide (8 < angleSlots v p) with
      | some p => some (FitResult.fail 0x07 7 0x0A (0x60 + 8 * p))
      | none => none

/-! ### Stage 4: the timing model (07 R265-R270) -/

/-- The VMAX of a source in mHz, as a fraction (06 Table 6.2). -/
def sourceVmax (v : State) (k : Nat) : Nat × Nat :=
  let n : Fin 8 := Fin.ofNat 8 k
  let l := leaderOf v n
  if k < 8 then (rotorVmax v l, 1)
  else if k < 16 then (orDefault (axWord32 v l 0x92) (rotorVmax v l), 1)
  else if k < 24 then
    (if axWord32 v n 0x94 = 0 then topRate (perOf v n) (prescOf v n) (dithOf v n) else (axWord32 v n 0x94, 1))
  else if k < 26 then (65000, 1)
  else if k < 30 then (axWord32 v n 0xE2, 1)
  else (orDefault (axWord32 v n 0xE2) (axWord32 v n 0xE8), 1)

/-- The default tolerance of an action (07 Table 7.2). -/
def defaultTol (code : Nat) : Nat :=
  match code with
  | 0x00 | 0x06 | 0x0A => 5461
  | 0x01 | 0x02 | 0x07 | 0x08 => 364
  | 0x03 | 0x04 | 0x05 => 728
  | 0x09 => 1820
  | 0x0B => 182
  | _ => 32768

/-- A gap no load reaches, for a source without motion. -/
def farGap : Nat := 2 ^ 40

/-- A head under test: its lane, its chain, its gap in cycles, and the tolerance as a fraction of ns. -/
structure HeadLoad where
  head : Nat
  lane : Nat
  slots : List Nat
  gap : Nat
  tol : Nat × Nat
  deriving DecidableEq, Repr

/-- The axes that an enabled slot resynchronises. -/
def resynced (v : State) (slots : List Nat) : List (Fin 8) :=
  allAxes.filter fun n => slots.any fun k =>
    bits (slotWord v k 2) 0 8 == 0x0B && bits (slotWord v k 3) 0 3 == n.val

/-- The load of a head (07 R265). -/
def headLoad (v : State) (resync : List (Fin 8)) (c : HeadChain) : HeadLoad :=
  let k := (slotSource v c.head).val
  let m := sourceVmax v k
  let n : Fin 8 := Fin.ofNat 8 k
  let travel := if k < 16 ∨ (26 ≤ k ∧ k < 30) then min 65536 (2 * slotRearm v c.head) else 65536
  let gap := if m.1 = 0 then farGap else travel * 10 ^ 10 * m.2 / (65536 * m.1)
  let gap := if 16 ≤ k ∧ k < 24 ∧ resync.contains n then gap / 2 else gap
  let tol := orDefault (slotWord v c.head 6).toNat (defaultTol (bits (slotWord v c.head 2) 0 8))
  { head := c.head
    lane := (slotLane v c.head).val
    slots := c.slots
    gap := gap
    tol := if m.1 = 0 then (farGap, 1) else (tol * 10 ^ 12 * m.2, 65536 * m.1) }

/-- The quotient rounded up. -/
def ceilDiv (a b : Nat) : Nat := (a + b - 1) / b

/-- The busy bound of R266 for loads (cost, gap): none for an infinite one. A step that is not the last raises w,
so `limit` steps are enough. -/
def busyFrom (loads : List (Nat × Nat)) (limit : Nat) : Nat → Nat → Option Nat
  | 0, _ => none
  | fuel + 1, w =>
    let x := (loads.map fun l => l.1 * ceilDiv w l.2).sum
    if limit < x then none
    else if x = w then some w
    else busyFrom loads limit fuel x

/-- The busy bound of a lane or a converter. -/
def busyBound (loads : List (Nat × Nat)) (limit : Nat) : Option Nat :=
  let w := (loads.map (·.1)).sum
  if loads.any (fun l => l.2 == 0) || decide (limit < w) then none else busyFrom loads limit (limit + 1) w

/-- What an item of stage 4 concerns, in the order that breaks ties (07 R270). -/
inductive FitKind where
  | late
  | converter
  | hem
  | rate
  deriving DecidableEq, Repr

/-- The rank, DKIND and code of a kind (07 R270, Tables 7.4, 7.6). -/
def FitKind.codes : FitKind → Nat × Nat × Nat
  | .late => (0, 1, 0x09)
  | .converter => (1, 4, 0x0A)
  | .hem => (2, 5, 0x0B)
  | .rate => (3, 1, 0x0C)

/-- An item with its margin in ns, `num / den`; `none` stands for an unbounded load. -/
structure FitItem where
  kind : FitKind
  index : Nat
  num : Option Int
  den : Nat
  deriving DecidableEq, Repr

/-- The first item is reported before the second (07 R270). -/
def FitItem.before (a b : FitItem) : Bool :=
  let tie := decide (a.kind.codes.1 < b.kind.codes.1) || (a.kind == b.kind && decide (a.index < b.index))
  match a.num, b.num with
  | none, none => tie
  | none, some _ => true
  | some _, none => false
  | some x, some y => decide (x * b.den < y * a.den) || (x * b.den == y * a.den && tie)

/-- A margin in units of 5 ns (07 R270). -/
def FitItem.units (a : FitItem) : Word :=
  match a.num with
  | none => 0x8000
  | some x => satWord (x.fdiv (5 * a.den))

/-- The margin is negative. -/
def FitItem.negative (a : FitItem) : Bool :=
  match a.num with
  | none => true
  | some x => decide (x < 0)

/-- The item that is reported. -/
def worstItem (items : List FitItem) : Option FitItem :=
  items.foldl (fun m a =>
    match m with
    | none => some a
    | some b => if a.before b then some a else some b) none

/-- The margin as SYS_FITMARGIN and MARGIN of a lane show it (07 R270, R271). -/
def marginOf (items : List FitItem) : Word :=
  match worstItem items with
  | none => 0x7FFF
  | some a => a.units

/-- The heads of lane `l`. -/
def laneHeads (heads : List HeadLoad) (l : Nat) : List HeadLoad := heads.filter fun h => h.lane == l

/-- The busy bound of lane `l` in cycles. -/
def laneBusy (heads : List HeadLoad) (l : Nat) : Option Nat :=
  busyBound ((laneHeads heads l).map fun h => (h.slots.length, h.gap)) 65535

/-- The depth of lane `l`; none without a bound. -/
def laneDepth (heads : List HeadLoad) (l : Nat) : Option Nat :=
  (laneBusy heads l).map fun w => ((laneHeads heads l).map fun h => ceilDiv w h.gap).sum

/-- The margins of the heads of lane `l`. -/
def laneItems (heads : List HeadLoad) (l : Nat) : List FitItem :=
  let w := laneBusy heads l
  (laneHeads heads l).map fun h =>
    { kind := .late, index := h.head, num := w.map fun w => (h.tol.1 : Int) - ((w + 1) * 100 * h.tol.2 : Nat), den := h.tol.2 }

/-- What a passing check writes into lane `l` (07 R261). -/
def laneBound (heads : List HeadLoad) (l : Nat) : LaneBound where
  bound := (laneBusy heads l).getD 65535
  pdepth := min 127 ((laneDepth heads l).getD 127)
  margin := marginOf (laneItems heads l)

/-- Lane `l` fails DEPTH (07 R266). -/
def laneDeep (heads : List HeadLoad) (l : Nat) : Bool :=
  match laneDepth heads l with
  | none => true
  | some d => decide (64 < d)

/-- The time of one conversion slot of converter `j` in ns (07 R267). -/
def slotNs (v : State) (j : Nat) : Nat := if bit (runReg v 0x061) j then 4000 else 250

/-- A trigger of a converter: the converter, its cost in ns, and its gap in 1/11 ns. -/
structure ConvLoad where
  conv : Nat
  cost : Nat
  gap : Nat
  deriving DecidableEq, Repr

/-- The trigger of sequence `q` with a gap in 1/11 ns. -/
def seqLoad (v : State) (q gap : Nat) : ConvLoad :=
  let j := bits (seqHeader v q) 5 4
  { conv := j, cost := bits (seqHeader v q) 0 5 * slotNs v j, gap := gap }

/-- The triggers of the converters (07 R267): CNV_START actions, bound compares, mains trackers. -/
def convLoads (v : State) (heads : List HeadLoad) : List ConvLoad :=
  heads.flatMap (fun h => (h.slots.filter fun k => bits (slotWord v k 2) 0 8 == 2).map fun k =>
      seqLoad v (bits (slotWord v k 3) 0 6) (h.gap * 1100)) ++
    (allAxes.filter fun n => bridgeOn v n).flatMap (fun n =>
      ((List.range 4).filter fun m => bit (runWord v 5 (0x700 + 16 * n.val + m)) 7).map fun m =>
        seqLoad v (bits (runWord v 5 (0x700 + 16 * n.val + m)) 0 6) (nominalTicks v n * 50)) ++
    ((List.range 2).filter fun k => bit (tailWord v k 0xE0) 0).map fun k =>
      let j := bits (tailWord v k 0xE0) 1 4
      { conv := j, cost := slotNs v j, gap := 120192 * 11 }

/-- The margin of each converter that is triggered. The busy bound counts as infinite above 65,535 cycles of 100 ns (log
entry 107). -/
def convItems (v : State) (heads : List HeadLoad) : List FitItem :=
  let all := convLoads v heads
  ((List.range 16).filter fun j => all.any fun l => l.conv == j).map fun j =>
    let loads := all.filter fun l => l.conv == j
    let w := busyBound (loads.map fun l => (l.cost * 11, l.gap)) (6553500 * 11)
    let short := ((loads.map (·.gap)).min?).getD 0
    { kind := .converter, index := j, num := w.map fun w => (short : Int) - (w : Nat), den := 11 }

/-- The margins of the hems (07 R268). -/
def hemItems (v : State) : List FitItem :=
  (allAxes.filter fun n => bridgeOn v n && axWord v n 0x40 != 0 && (sourceVmax v (8 + n.val)).1 != 0).map fun n =>
    let m := sourceVmax v (8 + n.val)
    let den := 65536 * m.1
    { kind := .hem, index := n.val, den := den
      num := some (((axWord v n 0x40).toNat * 10 ^ 12 * m.2 : Nat) - (20 * nominalTicks v n * den : Nat) : Int) }

/-- The enabled slots with an action, on a channel for SEAM_PUB. -/
def countActions (v : State) (slots : List Nat) (code : Nat) (chan : Option Nat) : Nat :=
  (slots.filter fun k => bits (slotWord v k 2) 0 8 == code &&
    (match chan with
     | none => true
     | some q => bits (slotWord v k 3) 0 1 == q)).length

/-- The time in ns that the rate budget of slot `k` asks of its head's gap (07 R269). -/
def rateNeed (v : State) (slots : List Nat) (k : Nat) : Option Nat :=
  match bits (slotWord v k 2) 0 8 with
  | 0x0B => some (20 * nominalTicks v (Fin.ofNat 8 (bits (slotWord v k 3) 0 3)))
  | 0x0A => some (25000 * countActions v slots 0x0A (some (bits (slotWord v k 3) 0 1)))
  | 0x0C => some (10000000 * countActions v slots 0x0C none)
  | _ => none

/-- The rate budgets. -/
def rateItems (v : State) (slots : List Nat) (heads : List HeadLoad) : List FitItem :=
  heads.flatMap fun h => h.slots.filterMap fun k =>
    (rateNeed v slots k).map fun t =>
      { kind := .rate, index := k, num := some ((h.gap * 100 : Nat) - (t : Nat) : Int), den := 1 }

/-- Stage 4 (07 R262, R270, R271). -/
def timeCheck (v : State) (slots : List Nat) (chains : List HeadChain) : FitResult :=
  let heads := chains.map (headLoad v (resynced v slots))
  let items := (List.range 8).flatMap (laneItems heads) ++ convItems v heads ++ hemItems v ++ rateItems v slots heads
  let margin := marginOf items
  let bounds := Vector.ofFn fun l : Fin 8 => laneBound heads l.val
  match (List.range 8).find? (laneDeep heads) with
  | some l => { code := 0x08, dkind := 2, space := 0, detail := l, margin := margin, bounds := bounds }
  | none =>
    match worstItem items with
    | none => { code := 0, dkind := 0, space := 0, detail := 0, margin := margin, bounds := bounds }
    | some a =>
      { code := if a.negative then a.kind.codes.2.2 else 0, dkind := a.kind.codes.2.1, space := 0,
        detail := a.index, margin := margin, bounds := bounds }

/-- The fit check over the shadow configuration (07 R262). -/
def fitCheck (s : State) : FitResult :=
  let v := fitView s
  match firstFailed s v with
  | some k => FitResult.fail 0x01 7 (k / 65536) (k % 65536)
  | none =>
    let slots := enabledSlots v
    match walkSlots v slots [] with
    | .inr f => f
    | .inl chains =>
      match failedTarget v slots with
      | some f => f
      | none => timeCheck v slots chains

/-- SYS_FITRES of a result (07 Table 7.6). -/
def FitResult.word (r : FitResult) : Word := BitVec.ofNat 16 (r.code + 256 * r.dkind + 2048 * r.space)

end Sys2Proof.Machine
end

