-- ==== Sys2Proof/Machine/Commit.lean ====
section
/-! DEFINITION. The end of a fit check, a commit taking effect, the end of a revert (07 7.5), and the 100 ns step of
the module. -/

namespace Sys2Proof.Machine

/-! ### The end of the fit check (07 R255, R256, R258) -/

/-- The axes whose committed words a passing commit changes, or whose selected advance table (07 R256). -/
def changedAxes (s : State) : BitVec 8 :=
  let v := fitView s
  let differ := fun (old new : WordMem) (k : Nat) => old.get k != new.get k
  allAxes.foldl (fun b n =>
    let own := (s.cfg.running ++ v.cfg.running).any fun c =>
      keyAxis c.1 == some n.val && differ s.cfg.running v.cfg.running c.1
    let t := 64 * bits (axWord v n 0x42) 0 3
    let tab := bit (axWord v n 0x42) 3 && (List.range 64).any fun i =>
      differ s.cfg.advTab[n] v.cfg.running (cfgKey 3 (t + i))
    putBit b n.val (own || tab)) 0

/-- A passing COMMIT: the shadow becomes the pending configuration. -/
def beginApply (r : FitResult) (s : State) : State :=
  { s with cfg := { s.cfg with
    pending := s.cfg.shadow
    dirty := false
    state := .applying
    tablePending := true
    axesPending := changedAxes s
    bounds := r.bounds } }

/-- FIT_CHECK_DONE (07 R255): the results, and what a pass starts. -/
def fitCheckDone (s : State) : State :=
  match s.cfg.state with
  | .checking apply =>
    let r := fitCheck s
    let s' := setSysStat 3 { s with cfg := { s.cfg with
      fitRes := r.word
      fitDetail := BitVec.ofNat 16 r.detail
      fitMargin := r.margin
      lastPass := r.code == 0
      state := .idle } }
    if apply && r.code == 0 then beginApply r s' else s'
  | _ => s

/-- See `fitCheckDone`. -/
def execFitCheckDone (s : State) : Host.Outcome State Fault Refusal := .next (fitCheckDone s)

/-- REVERT_DONE (07 R259). -/
def revertDone (s : State) : State :=
  if s.cfg.state = .reverting then
    { s with cfg := { s.cfg with shadow := s.cfg.running, dirty := false, state := .idle } }
  else s

/-- See `revertDone`. -/
def execRevertDone (s : State) : Host.Outcome State Fault Refusal := .next (revertDone s)

/-! ### A commit takes effect (07 R256, R260, R261) -/

/-- A slot has the same eight words in two states. -/
def sameSlot (old s : State) (k : Nat) : Bool :=
  (List.range 8).all fun w => slotWord old k w == slotWord s k w

/-- The stitch engine under a new table. -/
def swapTable (old s : State) : State :=
  { s with stitch := { s.stitch with
    disarmed := s.stitch.disarmed.filter fun d => sameSlot old s d.slot
    lanes := Vector.ofFn fun l : Fin 8 =>
      let b := s.cfg.bounds[l]
      { s.stitch.lanes[l] with
        bound := BitVec.ofNat 16 b.bound, pdepth := b.pdepth, margin := b.margin, maxDepth := 0, worstLate := 0 } } }

/-- Station sources that a commit enables (06 R215, R217). -/
def swapStation (old s : State) : State :=
  let newly := fun (k : Nat) => bit (tailWord s k 0xE0) 0 && !bit (tailWord old k 0xE0) 0
  let s := forEach [0, 1] (fun (m : Fin 2) t =>
    if newly m.val then { t with mains := t.mains.set m resetMains } else t) s
  forEach [0, 1] (fun (j : Fin 2) t =>
    if newly (6 + j.val) then
      modSrc ⟨30 + j.val, by omega⟩ (fun r => { r with angle := 0 }) { t with paceFrac := t.paceFrac.set j 0 }
    else t) s

/-- Everything that belongs to no axis takes effect (07 R256, 14 R499, 15 R548). -/
def applyTable (s : State) : State :=
  withTrips (fun s =>
    let s' := { s with
      cfg := { s.cfg with
        running := WordMem.overlay (fun k => keyAxis k == none) s.cfg.running s.cfg.pending
        tablePending := false }
      boot := { s.boot with committed := true } }
    refreshVmax (seamSwapped s (pinsSwapped s (swapStation s (swapTable s s'))))) s

/-- COMMIT_APPLY: the boundary between stitch-engine cycles. Axes whose carrier is stopped take their words at it. -/
def commitApply (s : State) : State :=
  if s.cfg.state = .applying then
    let t := if s.cfg.tablePending then applyTable s else s
    let t := forEach (allAxes.filter fun n => t.cfg.axesPending.getLsbD n.val && !carrierOn t n) takeAxis t
    wordsSwapped s (finishApply (forEach allAxes reselect t))
  else s

/-- See `commitApply`. -/
def execCommitApply (s : State) : Host.Outcome State Fault Refusal := .next (commitApply s)

/-- CARRIER_PERIOD_START (08 R277); where its axis takes its words, the movement watch may change over (17 R621) and the
fingerprint change (15 R552). -/
def execCarrierPeriodStart (ax : Fin 8) (s : State) : Host.Outcome State Fault Refusal :=
  .next (wordsSwapped s (carrierPeriodStart ax s))

/-! ### The 100 ns step -/

/-- Seam time at a step: 100 ns and the correction ordered for it (15 R524). -/
def stepSeamTime (s : State) : State :=
  modSeam (fun m => { m with time := m.time + BitVec.ofInt 64 (100 + m.corr), corr := 0 }) s

/-- ANGLE_ENGINE_STEP (06 R199, 07 R234): the cycle ends with what belongs to it (07 R248), the command inputs are
judged by their age (10 R372), the resyncs of the cycle take place (07 R244), and the next cycle begins. -/
def angleEngineStep (s : State) : State :=
  if awake s then
    let t := forEach allAxes stepInput (continueChains s)
    let t := wordsSwapped s (endCycleResyncs (stepAngles t))
    alertTrip (stepRunTime (stepRtc (stepSeamTime (stepStitch t))))
  else s

/-- See `angleEngineStep`. -/
def execAngleEngineStep (s : State) : Host.Outcome State Fault Refusal := .next (angleEngineStep s)

end Sys2Proof.Machine
end

