-- ==== Sys2Proof/Machine/HostPort.lean ====
section
/-! DEFINITION. The host port (chapter 02): frames, responses, keys, and the commands that are host frames. -/

namespace Sys2Proof.Machine

/-! ### Responses (02 2.3) -/

/-- The code of a status (02 Table 2.8). -/
def Status.code : Status → BitVec 4
  | .ok => 0x0
  | .crcBad => 0x1
  | .badAddr => 0x2
  | .guarded => 0x3
  | .notOwner => 0x4
  | .stoppedOnly => 0x5
  | .refusedActive => 0x6
  | .busy => 0x7
  | .length => 0x8
  | .noPrevious => 0x9
  | .booting => 0xA
  | .cannotClear => 0xB

/-- The summary byte (02 Table 2.6). -/
def summaryByte (s : State) : BitVec 8 :=
  let fault := s.flt.stat != 0 || allAxes.any fun n => axisDown s n
  putBit (putBit (putBit (putBit 0 7 (irqAsserted s)) 6 fault) 5 s.host.key.isSome) 4 (running s)

/-- The response shifted out in a frame that starts now (02 Table 2.5). -/
def responseFrame (s : State) : BitVec 40 :=
  let head : DWord := s.host.resp.tag ++ s.host.resp.status.code ++ s.host.resp.data ++ summaryByte s
  head ++ frameCrc head

/-! ### Frames -/

/-- A request as it was received (02 Table 2.4), and whether its CRC matched. -/
structure HostRequest where
  write : Bool
  addr : BitVec 9
  rsv : BitVec 2
  tag : BitVec 4
  data : Word
  crcGood : Bool
  deriving DecidableEq, Repr

/-- Bits [39:8] of a request. -/
def requestHead (write : Bool) (addr : BitVec 9) (rsv : BitVec 2) (tag : BitVec 4) (data : Word) : DWord :=
  (if write then 1#1 else 0#1) ++ addr ++ rsv ++ tag ++ data

/-- What HSDO shifted out in a frame. -/
def setOut (o : Option (BitVec 40)) (s : State) : State := { s with host := { s.host with hsdo := o } }

/-- The answer to a frame, kept for the next one; a frame that resets the module leaves NO_PREVIOUS (R54). -/
def answer (st : Status) (tag : BitVec 4) (data : Word) (s : State) : State :=
  if running s then { s with host := { s.host with resp := { status := st, tag := tag, data := data } } } else s

/-- The host's arming. -/
def setKey (k : Option KeyClass) (s : State) : State := { s with host := { s.host with key := k } }

/-- A write frame (02 R75-R77): it consumes the arming, then acts. -/
def writeFrame (r : HostRequest) (s : State) : State :=
  let a := r.addr.toNat
  let armed := s.host.key
  let s := setKey none s
  if r.rsv != 0 then answer .badAddr r.tag 0 s
  else
    let x := writeAccess .host armed a r.data s
    let s := if x.1 = .ok ∧ a = 0x009 then setKey (keyArmed r.data) x.2 else x.2
    answer x.1 r.tag 0 s

/-- A read frame (02 R53, R57). SYS_LASTRD follows the reads of the host port; an accepted remote read leaves it, a
choice of the model (log entry 84). -/
def readFrame (r : HostRequest) (s : State) : State :=
  let a := r.addr.toNat
  if r.rsv != 0 then answer .badAddr r.tag 0 s
  else
    let x := readAccess .host a s
    let s := if x.1 = .ok ∧ a ≠ 0x01B then { x.2.2 with host := { x.2.2.host with lastRd := x.2.1 } } else x.2.2
    answer x.1 r.tag x.2.1 s

/-- A frame past the boot gate (R49-R57). -/
def runFrame (r : HostRequest) (s : State) : State :=
  if !r.crcGood then answer .crcBad r.tag 0 (setSysStat 0 (setKey none s))
  else if r.write then writeFrame r s
  else readFrame r s

/-- A frame of 40 rising edges (R45, R60): without supplies HSDO does not drive. A frame stands in the queue where its
HCSN falls (log entry 3): in a reset or in step 0 of boot it is not received (04 R125), in the later steps it is
answered BOOTING. -/
def hostFrame (r : HostRequest) (s : State) : State :=
  match s.power.phase with
  | .run => setOut (some (responseFrame s)) (runFrame r s)
  | .boot =>
    if s.boot.step = 0 then setOut none s
    else setOut (some (responseFrame s)) { s with host := { s.host with
      resp := { status := if r.crcGood then .booting else .crcBad, tag := r.tag, data := 0 } } }
  | _ => setOut none s

/-- A write frame as the host builds it. -/
def hostWrite (tag : BitVec 4) (a : BitVec 9) (d : Word) (s : State) : State :=
  hostFrame { write := true, addr := a, rsv := 0, tag := tag, data := d, crcGood := true } s

/-- A read frame as the host builds it. -/
def hostRead (tag : BitVec 4) (a : BitVec 9) (s : State) : State :=
  hostFrame { write := false, addr := a, rsv := 0, tag := tag, data := 0, crcGood := true } s

/-- HOST_FRAME_ABORTED (R46, R54). No rule gives the bits that HSDO shifts out in such a frame: the model records none
(log entry 83). -/
def frameAborted (s : State) : State :=
  let s' := match s.power.phase with
    | .run => setSysStat 1 (setKey none s)
    | _ => s
  if running s || (s.power.phase == .boot && s.boot.step != 0) then
    { s' with host := { s'.host with hsdo := none, resp := { status := .noPrevious, tag := 0, data := 0 } } }
  else setOut none s'

/-- See `frameAborted`. -/
def execHostFrameAborted (s : State) : Host.Outcome State Fault Refusal := .next (frameAborted s)

/-- REGISTER_WRITE (R51). -/
def execRegisterWrite (tag : BitVec 4) (rsv : BitVec 2) (addr : BitVec 9) (data : Word) (crc : BitVec 8) (s : State) :
    Host.Outcome State Fault Refusal :=
  let good := crc == frameCrc (requestHead true addr rsv tag data)
  .next (hostFrame { write := true, addr := addr, rsv := rsv, tag := tag, data := data, crcGood := good } s)

/-- The request that 40 received bits spell (02 Table 2.4). -/
def receivedRequest (frame : BitVec 40) : HostRequest where
  write := frame.getLsbD 39
  addr := frame.extractLsb' 30 9
  rsv := frame.extractLsb' 28 2
  tag := frame.extractLsb' 24 4
  data := frame.extractLsb' 8 16
  crcGood := frame.extractLsb' 0 8 == frameCrc (frame.extractLsb' 8 32)

/-- REQUEST_CRC_MISMATCH (R49): a frame of 40 bits as received. -/
def execRequestCrcMismatch (frame : BitVec 40) (s : State) : Host.Outcome State Fault Refusal :=
  .next (hostFrame (receivedRequest frame) s)

/-- CLEAR_ON_READ (R65): a read of a register. -/
def execClearOnRead (tag : BitVec 4) (addr : BitVec 9) (s : State) : Host.Outcome State Fault Refusal :=
  .next (hostRead tag addr s)

/-- LATCHED_READ (R70): a read of a register. -/
def execLatchedRead (tag : BitVec 4) (addr : BitVec 9) (s : State) : Host.Outcome State Fault Refusal :=
  .next (hostRead tag addr s)

/-- SYS_KEY_WRITE (R74, R75). -/
def execSysKeyWrite (tag : BitVec 4) (data : Word) (s : State) : Host.Outcome State Fault Refusal :=
  .next (hostWrite tag 0x009 data s)

/-- KEY_EXPIRY (R77): of the host's arming, or of a remote session's (15 R545). -/
def keyExpiry (sess : Option (Fin 4)) (s : State) : State :=
  match sess with
  | none => if s.host.key.isSome then setSysStat 2 (setKey none s) else s
  | some k =>
    if s.seam.sess[k].key.isSome then
      setSysStat 2 (modSeam (fun m => { m with sess := m.sess.set k { m.sess[k] with key := none } }) s)
    else s

/-- See `keyExpiry`. -/
def execKeyExpiry (sess : Option (Fin 4)) (s : State) : Host.Outcome State Fault Refusal := .next (keyExpiry sess s)

/-! ### Windows (02 2.10) -/

/-- The address of register `o` of window `n`. -/
def winAddr (n : Fin 4) (o : Nat) : BitVec 9 := BitVec.ofNat 9 (0x80 + 8 * n.val + o)

/-- The offset of an address register. -/
def WinAddrReg.offset : WinAddrReg → Nat
  | .space => 0
  | .addrL => 1
  | .addrH => 2

/-- WINDOW_ADDRESS_WRITE (R87, R88). -/
def execWindowAddressWrite (tag : BitVec 4) (win : Fin 4) (reg : WinAddrReg) (data : Word) (s : State) :
    Host.Outcome State Fault Refusal :=
  .next (hostWrite tag (winAddr win (WinAddrReg.offset reg)) data s)

/-- WINDOW_COUNT_WRITE (R88, R92). -/
def execWindowCountWrite (tag : BitVec 4) (win : Fin 4) (data : Word) (s : State) : Host.Outcome State Fault Refusal :=
  .next (hostWrite tag (winAddr win 4) data s)

/-- WINDOW_STOP (02 Table 2.16 CTRL.STOP). -/
def execWindowStop (tag : BitVec 4) (win : Fin 4) (inc : Bool) (s : State) : Host.Outcome State Fault Refusal :=
  .next (hostWrite tag (winAddr win 6) (flagBit inc 0 ||| 2) s)

/-- WINDOW_DATA_READ (R84, R92). -/
def execWindowDataRead (tag : BitVec 4) (win : Fin 4) (s : State) : Host.Outcome State Fault Refusal :=
  .next (hostRead tag (winAddr win 3) s)

/-- A write of WINn_DATA. -/
def windowData (tag : BitVec 4) (win : Fin 4) (data : Word) (s : State) : State := hostWrite tag (winAddr win 3) data s

/-- WINDOW_DATA_WRITE (R84, R91). -/
def execWindowDataWrite (tag : BitVec 4) (win : Fin 4) (data : Word) (s : State) : Host.Outcome State Fault Refusal :=
  .next (windowData tag win data s)

/-- PROOF_TEST_REQUEST (19 R668): a DATA write, to word 0x020 of space 0x13 where the window stands there. -/
def execProofTestRequest (tag : BitVec 4) (win : Fin 4) (data : Word) (s : State) : Host.Outcome State Fault Refusal :=
  .next (windowData tag win data s)

/-- INSPECTION_MARK (19 R675): a DATA write, to word 0x022 of space 0x13. -/
def execInspectionMark (tag : BitVec 4) (win : Fin 4) (data : Word) (s : State) : Host.Outcome State Fault Refusal :=
  .next (windowData tag win data s)

/-- FEEDBACK_PRESET (12 R439): a DATA write, to a count, spacing or preset pair of space 0x12. -/
def execFeedbackPreset (tag : BitVec 4) (win : Fin 4) (data : Word) (s : State) : Host.Outcome State Fault Refusal :=
  .next (windowData tag win data s)

/-- COEFFICIENT_PAIR_WRITE (13 R463): a DATA write, to a pair of space 0x07. -/
def execCoefficientPairWrite (tag : BitVec 4) (win : Fin 4) (data : Word) (s : State) :
    Host.Outcome State Fault Refusal := .next (windowData tag win data s)

/-- SEAM_OUTBOX_SEND (15 Table 15.9): a DATA write, to word 0x120 of space 0x0A. -/
def execSeamOutboxSend (tag : BitVec 4) (win : Fin 4) (data : Word) (s : State) : Host.Outcome State Fault Refusal :=
  .next (windowData tag win data s)

/-- SEAM_INBOX_RELEASE (15 Table 15.9): a DATA write, to word 0x160 of space 0x0A. -/
def execSeamInboxRelease (tag : BitVec 4) (win : Fin 4) (data : Word) (s : State) : Host.Outcome State Fault Refusal :=
  .next (windowData tag win data s)

/-! ### Commit, power, reset -/

/-- A write of SYS_COMMIT: REQ in bits [1:0], bits [15:2] ignored (03 R99). -/
def commitWrite (tag : BitVec 4) (upper : BitVec 14) (req : BitVec 2) (s : State) : State :=
  hostWrite tag 0x00E (upper ++ req) s

/-- COMMIT (07 R252). -/
def execCommit (tag : BitVec 4) (upper : BitVec 14) (s : State) : Host.Outcome State Fault Refusal :=
  .next (commitWrite tag upper 1 s)

/-- CHECK (07 R258). -/
def execCheck (tag : BitVec 4) (upper : BitVec 14) (s : State) : Host.Outcome State Fault Refusal :=
  .next (commitWrite tag upper 2 s)

/-- REVERT (07 R259). -/
def execRevert (tag : BitVec 4) (upper : BitVec 14) (s : State) : Host.Outcome State Fault Refusal :=
  .next (commitWrite tag upper 3 s)

/-- POWER_REQUEST_RUN (01 Table 1.8). -/
def execPowerRequestRun (tag : BitVec 4) (s : State) : Host.Outcome State Fault Refusal := .next (hostWrite tag 0x012 1 s)

/-- POWER_REQUEST_STANDBY (01 Table 1.8, R34). -/
def execPowerRequestStandby (tag : BitVec 4) (s : State) : Host.Outcome State Fault Refusal :=
  .next (hostWrite tag 0x012 2 s)

/-- POWER_REQUEST_SLEEP (01 Table 1.8, R34). -/
def execPowerRequestSleep (tag : BitVec 4) (s : State) : Host.Outcome State Fault Refusal :=
  .next (hostWrite tag 0x012 3 s)

/-- HOST_RESET (04 R120). -/
def execHostReset (tag : BitVec 4) (s : State) : Host.Outcome State Fault Refusal := .next (hostWrite tag 0x01C 1 s)

/-! ### Axis pages -/

/-- The address of register `o` of the page of axis `n` (03 R104). -/
def axisAddr (n : Fin 8) (o : Nat) : BitVec 9 := BitVec.ofNat 9 (0x100 + 32 * n.val + o)

/-- AXIS_ENABLE (10 Table 10.6). -/
def execAxisEnable (tag : BitVec 4) (ax : Fin 8) (s : State) : Host.Outcome State Fault Refusal :=
  .next (hostWrite tag (axisAddr ax 0) 1 s)

/-- AXIS_DISABLE (10 Table 10.6). -/
def execAxisDisable (tag : BitVec 4) (ax : Fin 8) (s : State) : Host.Outcome State Fault Refusal :=
  .next (hostWrite tag (axisAddr ax 0) 0 s)

/-- A request to AX_RUN (10 R382). -/
def runWrite (tag : BitVec 4) (ax : Fin 8) (req : Word) (s : State) : State := hostWrite tag (axisAddr ax 7) req s

/-- AX_RUN_START. -/
def execAxRunStart (tag : BitVec 4) (ax : Fin 8) (s : State) : Host.Outcome State Fault Refusal :=
  .next (runWrite tag ax 1 s)

/-- AX_RUN_STOP. -/
def execAxRunStop (tag : BitVec 4) (ax : Fin 8) (s : State) : Host.Outcome State Fault Refusal :=
  .next (runWrite tag ax 2 s)

/-- AX_RUN_HOLD. -/
def execAxRunHold (tag : BitVec 4) (ax : Fin 8) (s : State) : Host.Outcome State Fault Refusal :=
  .next (runWrite tag ax 3 s)

/-- AX_RUN_PROBE. -/
def execAxRunProbe (tag : BitVec 4) (ax : Fin 8) (s : State) : Host.Outcome State Fault Refusal :=
  .next (runWrite tag ax 4 s)

/-- AX_PER_WRITE (08 R273, R274). -/
def execAxPerWrite (tag : BitVec 4) (ax : Fin 8) (data : Word) (s : State) : Host.Outcome State Fault Refusal :=
  .next (hostWrite tag (axisAddr ax 0x10) data s)

/-- AX_CMP_WRITE (03 R105). -/
def execAxCmpWrite (tag : BitVec 4) (ax : Fin 8) (leg : Fin 3) (data : Word) (s : State) :
    Host.Outcome State Fault Refusal := .next (hostWrite tag (axisAddr ax (0x11 + leg.val)) data s)

/-- AX_FORCE_WRITE (08 R297-R300). -/
def execAxForceWrite (tag : BitVec 4) (ax : Fin 8) (data : Word) (s : State) : Host.Outcome State Fault Refusal :=
  .next (hostWrite tag (axisAddr ax 0x18) data s)

/-- TRIP_CLEAR (09 R329, R333). -/
def execTripClear (tag : BitVec 4) (ax : Fin 8) (s : State) : Host.Outcome State Fault Refusal :=
  .next (hostWrite tag (axisAddr ax 0x1A) 1 s)

/-! ### Faults, pins, OTP, store, backup -/

/-- FLT_ACK (16 R573). -/
def execFltAck (tag : BitVec 4) (data : Word) (s : State) : Host.Outcome State Fault Refusal :=
  .next (hostWrite tag 0x043 data s)

/-- STEST_REQ (16 R575). -/
def execStestReq (tag : BitVec 4) (data : Word) (s : State) : Host.Outcome State Fault Refusal :=
  .next (hostWrite tag 0x044 data s)

/-- PIN_DATA_WRITE (14 R483). -/
def execPinDataWrite (tag : BitVec 4) (bank : Fin 4) (data : Word) (s : State) : Host.Outcome State Fault Refusal :=
  .next (hostWrite tag (BitVec.ofNat 9 (0xC8 + bank.val)) data s)

/-- PIN_MASKED_WRITE (03 R102, R103). -/
def execPinMaskedWrite (tag : BitVec 4) (bank : Fin 4) (high : Bool) (mask value : BitVec 8) (s : State) :
    Host.Outcome State Fault Refusal :=
  .next (hostWrite tag (BitVec.ofNat 9 (0xCC + 2 * bank.val + (if high then 1 else 0))) (mask ++ value) s)

/-- PIN_LOCK (14 R495). -/
def execPinLock (tag : BitVec 4) (data : Word) (s : State) : Host.Outcome State Fault Refusal :=
  .next (hostWrite tag 0x0DC data s)

/-- A request written to OTP_CMD: OP in bits [15:13], its argument in bits [12:0] (05 Table 5.13). -/
def otpWrite (tag : BitVec 4) (op : BitVec 3) (arg : BitVec 13) (s : State) : State := hostWrite tag 0x0A0 (op ++ arg) s

/-- OTP_PROGRAM (05 R165). -/
def execOtpProgram (tag : BitVec 4) (addr : BitVec 13) (s : State) : Host.Outcome State Fault Refusal :=
  .next (otpWrite tag 1 addr s)

/-- OTP_DATA_WORD (05 R166). -/
def execOtpDataWord (tag : BitVec 4) (data : Word) (s : State) : Host.Outcome State Fault Refusal :=
  .next (hostWrite tag 0x0A0 data s)

/-- OTP_LOCK_WRITE (05 Table 5.13). -/
def execOtpLockWrite (tag : BitVec 4) (arg : BitVec 13) (s : State) : Host.Outcome State Fault Refusal :=
  .next (otpWrite tag 2 arg s)

/-- OTP_LOCK_READ (05 Table 5.13). -/
def execOtpLockRead (tag : BitVec 4) (arg : BitVec 13) (s : State) : Host.Outcome State Fault Refusal :=
  .next (otpWrite tag 3 arg s)

/-- OTP_ADVANCE (05 R183). -/
def execOtpAdvance (tag : BitVec 4) (arg : BitVec 13) (s : State) : Host.Outcome State Fault Refusal :=
  .next (otpWrite tag 4 arg s)

/-- A command written to STORE_CMD: OP in bits [3:0], ARG in bits [15:4] (17 Table 17.8). -/
def storeWrite (tag : BitVec 4) (op : BitVec 4) (arg : BitVec 12) (s : State) : State := hostWrite tag 0x063 (arg ++ op) s

/-- CALSTORE (17 R593). -/
def execCalstore (tag : BitVec 4) (arg : BitVec 12) (s : State) : Host.Outcome State Fault Refusal :=
  .next (storeWrite tag 1 arg s)

/-- STAGING_BEGIN (17 R607). -/
def execStagingBegin (tag : BitVec 4) (arg : BitVec 12) (s : State) : Host.Outcome State Fault Refusal :=
  .next (storeWrite tag 2 arg s)

/-- STAGING_SEAL (17 R609). -/
def execStagingSeal (tag : BitVec 4) (arg : BitVec 12) (s : State) : Host.Outcome State Fault Refusal :=
  .next (storeWrite tag 3 arg s)

/-- STAGING_WITHDRAW (17 Table 17.8). -/
def execStagingWithdraw (tag : BitVec 4) (arg : BitVec 12) (s : State) : Host.Outcome State Fault Refusal :=
  .next (storeWrite tag 4 arg s)

/-- STAGING_REQUEST (17 R611). -/
def execStagingRequest (tag : BitVec 4) (arg : BitVec 12) (s : State) : Host.Outcome State Fault Refusal :=
  .next (storeWrite tag 5 arg s)

/-- BACKUP_ACKNOWLEDGE (17 R623). -/
def execBackupAcknowledge (tag : BitVec 4) (data : Word) (s : State) : Host.Outcome State Fault Refusal :=
  .next (hostWrite tag 0x069 data s)

end Sys2Proof.Machine
end

