-- ==== Sys2Proof/Machine/Remote.lean ====
section
/-! DEFINITION. Remote access (15 15.7): messages that arrive, sessions and their requests. -/

namespace Sys2Proof.Machine

/-! ### Answers (R541) -/

/-- The message statuses of 15 Table 15.6. -/
inductive MsgStatus where
  | ok
  | length
  | format
  | noSession
  | sessionFull
  | noRoute
  deriving DecidableEq, Repr

/-- The code of a message status. -/
def MsgStatus.code : MsgStatus → BitVec 8
  | .ok => 0
  | .length => 1
  | .format => 2
  | .noSession => 3
  | .sessionFull => 4
  | .noRoute => 5

/-- A RESPONSE to `m` (15 Table 15.5). -/
def responseTo (s : State) (m : Msg) (sess : BitVec 8) (st : MsgStatus) (payload : List (BitVec 8)) : Msg where
  dst := m.src
  broadcast := false
  rsvDst := 0
  rsvSrc := 0
  rsv := 0
  src := (ownId s).getD 0
  kind := msgResponse
  len := BitVec.ofNat 8 payload.length
  sess := sess
  seq := m.seq
  epoch := s.boot.epoch
  status := st.code
  ttl := 64
  payload := payload

/-- A RESPONSE leaves on the route to its destination, or on port `p` where none is known; a module that may not speak
sends none (R537, R538). -/
def sendResponse (p : Fin 4) (r : Msg) (s : State) : State :=
  if speaks s then enqueue ((routeTo s r.dst).getD p) r s else s

/-- A status without a payload. -/
def refuseMsg (p : Fin 4) (m : Msg) (st : MsgStatus) (s : State) : State :=
  sendResponse p (responseTo s m m.sess st []) s

/-! ### Sessions (R542-R546) -/

/-- The sessions. -/
def allSessions : List (Fin 4) := List.finRange 4

/-- Changes session `k`. -/
def modSession (k : Fin 4) (f : Session → Session) (s : State) : State :=
  modSeam (fun m => { m with sess := m.sess.set k (f m.sess[k]) }) s

/-- The session open to device `d`. -/
def sessionOf (s : State) (d : DevId) : Option (Fin 4) :=
  allSessions.find? fun k => s.seam.sess[k].isOpen && s.seam.sess[k].peer == d

/-- Session number `n` is open to device `d`. -/
def openTo (s : State) (n : BitVec 8) (d : DevId) : Option (Fin 4) :=
  allSessions.find? fun k => decide (k.val = n.toNat) && s.seam.sess[k].isOpen && s.seam.sess[k].peer == d

/-- Session `k` ends, and a staging session it holds with it (17 R610). -/
def endSession (k : Fin 4) (s : State) : State :=
  modSession k (fun _ => resetSession) (endStagingOf (.peer s.seam.sess[k].peer k) s)

/-- An OPEN from a device: the session it holds is replaced, else the lowest free one is taken. -/
def openSession (p : Fin 4) (m : Msg) (s : State) : State :=
  match (match sessionOf s m.src with
    | some k => some k
    | none => allSessions.find? fun k => !s.seam.sess[k].isOpen) with
  | none => refuseMsg p m .sessionFull s
  | some k =>
    let s := modSession k (fun _ => { resetSession with isOpen := true, peer := m.src, epoch := m.epoch, since := s.now })
      (endSession k s)
    sendResponse p (responseTo s m (BitVec.ofNat 8 k.val) .ok []) s

/-- A CLOSE ends the session without orphaning (R547). -/
def closeSession (p : Fin 4) (m : Msg) (s : State) : State :=
  match openTo s m.sess m.src with
  | none => refuseMsg p m .noSession s
  | some k => refuseMsg p m .ok (endSession k s)

/-! ### Operations of a REQUEST (R543, R545) -/

/-- The four bytes of operation `i`. -/
def opBytes (l : List (BitVec 8)) (i : Nat) : DWord :=
  l.getD (4 * i) 0 ++ l.getD (4 * i + 1) 0 ++ l.getD (4 * i + 2) 0 ++ l.getD (4 * i + 3) 0

/-- One operation of session `k`: what it leaves and the 32 bits of its result. -/
def runOp (k : Fin 4) (op : DWord) (s : State) : State × DWord :=
  let p : Party := .peer s.seam.sess[k].peer k
  let a := (op.extractLsb' 16 9).toNat
  if op.getLsbD 31 then
    let d := loWord op
    let armed := s.seam.sess[k].key
    let x := writeAccess p armed a d (modSession k (fun x => { x with key := none }) s)
    let t := if x.1 = .ok ∧ a = 0x009 then modSession k (fun y => { y with key := keyArmed d }) x.2 else x.2
    (t, (0 : BitVec 4) ++ x.1.code ++ (0 : BitVec 8) ++ (0 : Word))
  else
    let x := readAccess p a s
    (x.2.2, (0 : BitVec 4) ++ x.1.code ++ (0 : BitVec 8) ++ x.2.1)

/-- Operations in order, and the bytes of their results. -/
def runOps (k : Fin 4) : List DWord → State → State × List (BitVec 8)
  | [], s => (s, [])
  | op :: ops, s =>
    let x := runOp k op s
    let y := runOps k ops x.1
    (y.1, bytes32 x.2 ++ y.2)

/-- The operations of a REQUEST. -/
def requestOps (m : Msg) : List DWord := (List.range (m.len.toNat / 4)).map (opBytes m.payload)

/-- A REQUEST of an open session (R543, R544): a repeated SEQ sends the stored RESPONSE again. -/
def serveRequest (p : Fin 4) (m : Msg) (s : State) : State :=
  match openTo s m.sess m.src with
  | none => refuseMsg p m .noSession s
  | some k =>
    match s.seam.sess[k].stored, s.seam.sess[k].lastSeq == some m.seq with
    | some r, true => sendResponse p r s
    | _, _ =>
      let x := runOps k (requestOps m) s
      let r := responseTo x.1 m m.sess .ok x.2
      sendResponse p r (modSession k (fun y => { y with lastSeq := some m.seq, stored := some r }) x.1)

/-! ### Arrival (R540, R541) -/

/-- A message that arrives on a port (R515, R518): its port carries messages. -/
def takesMessages (s : State) (p : Fin 4) : Bool :=
  portLive s p && s.seam.ports[p].role != 3 && !s.seam.tooDeep

/-- A type that a module answers. -/
def answered (kind : BitVec 8) : Bool := kind != msgResponse && kind != msgNote

/-- A reserved field of the slot is not 0 (Table 15.5). -/
def msgReserved (m : Msg) : Bool := m.rsvDst != 0 || m.rsvSrc != 0 || m.rsv != 0

/-- The status of the slot's own fields (Table 15.6): LEN, then the type, reserved fields and the LEN of a REQUEST. -/
def slotStatus (m : Msg) : MsgStatus :=
  if 48 < m.len.toNat then .length
  else if msgReserved m = true ∨ m.kind = 0 ∨ msgNote.toNat < m.kind.toNat ∨ (m.kind = msgRequest ∧ m.len.toNat % 4 ≠ 0) then .format
  else .ok

/-- A message addressed to this module; nothing is performed where no route to SRC is known (R541). -/
def deliver (p : Fin 4) (m : Msg) (s : State) : State :=
  if !answered m.kind then (if slotStatus m = .ok then fillInbox m s else s)
  else if slotStatus m ≠ .ok then refuseMsg p m (slotStatus m) s
  else if (routeTo s m.src).isNone then refuseMsg p m .noRoute s
  else if m.kind = msgOpen then openSession p m s
  else if m.kind = msgClose then closeSession p m s
  else serveRequest p m s

/-- A broadcast NOTE goes on (R540). -/
def relayNote (p : Fin 4) (m : Msg) (s : State) : State :=
  if m.ttl.toNat ≤ 1 then s
  else forEach (notePorts s (some p)) (fun q => enqueue q { m with ttl := m.ttl - 1 }) s

/-- A message for another device (R540): without a route, OPEN, CLOSE and REQUEST are answered NO_ROUTE (log entry 30). -/
def relayOn (p : Fin 4) (m : Msg) (s : State) : State :=
  if m.ttl.toNat ≤ 1 then s
  else match routeTo s m.dst with
    | some q => enqueue q { m with ttl := m.ttl - 1 } s
    | none => if answered m.kind then refuseMsg p m .noRoute s else s

/-- A message from a device keeps its session alive and carries its EPOCH (R542, R547). -/
def hearPeer (m : Msg) (s : State) : State :=
  let s := noteEpoch m.src m.epoch s
  match sessionOf s m.src with
  | some k => modSession k (fun x => { x with since := s.now }) s
  | none => s

/-- A message arrives on port `p` (R538, R540): its sender is heard, whomever it is for (R547). -/
def arrive (p : Fin 4) (m : Msg) (s : State) : State :=
  if !takesMessages s p then s
  else
    let s := hearPeer m s
    if m.broadcast then
      if m.kind = msgNote then relayNote p m (deliver p m s) else s
    else if ownId s = some m.dst then deliver p m s
    else relayOn p m s

/-- A command for a message of one type; another message is not that command's. -/
def arriveAs (kind : BitVec 8) (p : Fin 4) (m : Msg) (s : State) : State := if m.kind = kind then arrive p m s else s

/-- OPEN (R542). -/
def execOpenMsg (port : Fin 4) (msg : Msg) (s : State) : Host.Outcome State Fault Refusal :=
  .next (arriveAs msgOpen port msg s)

/-- CLOSE (R542, R547). -/
def execCloseMsg (port : Fin 4) (msg : Msg) (s : State) : Host.Outcome State Fault Refusal :=
  .next (arriveAs msgClose port msg s)

/-- REQUEST (R543, R544). -/
def execRequest (port : Fin 4) (msg : Msg) (s : State) : Host.Outcome State Fault Refusal :=
  .next (arriveAs msgRequest port msg s)

/-- RESPONSE (R541). -/
def execResponse (port : Fin 4) (msg : Msg) (s : State) : Host.Outcome State Fault Refusal :=
  .next (arriveAs msgResponse port msg s)

/-- NOTE (R540). -/
def execNote (port : Fin 4) (msg : Msg) (s : State) : Host.Outcome State Fault Refusal :=
  .next (arriveAs msgNote port msg s)

/-- MESSAGE_RELAY (R540): a message of any type arrives, for another device above all. -/
def execMessageRelay (port : Fin 4) (msg : Msg) (s : State) : Host.Outcome State Fault Refusal :=
  .next (arrive port msg s)

/-! ### Frames (R520) -/

/-- The message slot of a frame whose FORMAT is not 1: what this module would answer gets FORMAT (Table 15.6; log entry
117). -/
def refuseFormat (p : Fin 4) (m : Option Msg) (s : State) : State :=
  match m with
  | some m =>
    if takesMessages s p && answered m.kind && !m.broadcast && ownId s == some m.dst then refuseMsg p m .format s else s
  | none => s

/-- SEAM_FRAME_RECEIVED (R520): tree, time, angle slots and roll call; its message slot arrives by the commands of
15.7 (log entry 25). -/
def frameReceived (p : Fin 4) (rx : RxFrame) (s : State) : State :=
  let f := parseFrame rx.bytes
  if !portLive s p then s
  else if !frameCrcGood rx.bytes then badFrame p s
  else if f.format != 1 then refuseFormat p f.msg s
  else
    let s := setPortRoles (takeTimeBlock p f.time rx.arrival (takeTreeBlock p f rx.arrival s))
    if s.seam.ports[p].role == 3 || s.seam.tooDeep then s
    else
      let s := f.slots.foldl (takeSlot p) s
      match f.roll with
      | some e => takeRoll p e s
      | none => s

/-- See `frameReceived`. -/
def execSeamFrameReceived (port : Fin 4) (frame : RxFrame) (s : State) : Host.Outcome State Fault Refusal :=
  .next (frameReceived port frame s)

/-! ### The end of a session -/

/-- SESSION_TIMEOUT (R542, R547): SESSTO passed without a message from the peer. -/
def sessionTimeout (k : Fin 4) (s : State) : State :=
  if s.seam.sess[k].isOpen then losePeer s.seam.sess[k].peer (endSession k s) else s

/-- See `sessionTimeout`. -/
def execSessionTimeout (sess : Fin 4) (s : State) : Host.Outcome State Fault Refusal := .next (sessionTimeout sess s)

end Sys2Proof.Machine
end

