-- ==== Sys2Proof/Machine/Dispatch.lean ====
section
/-! DEFINITION. One arm for each command: the call of its meaning. -/

namespace Sys2Proof.Machine

/-- The effect of a command on everything but the queue. -/
def exec (i : Instr) (s : State) : Host.Outcome State Fault Refusal :=
  match i with
  | .hostFrameAborted => Sys2Proof.Machine.execHostFrameAborted s
  | .registerWrite tag rsv addr data crc => Sys2Proof.Machine.execRegisterWrite tag rsv addr data crc s
  | .clearOnRead tag addr => Sys2Proof.Machine.execClearOnRead tag addr s
  | .latchedRead tag addr => Sys2Proof.Machine.execLatchedRead tag addr s
  | .sysKeyWrite tag data => Sys2Proof.Machine.execSysKeyWrite tag data s
  | .keyExpiry sess => Sys2Proof.Machine.execKeyExpiry sess s
  | .windowAddressWrite tag win reg data => Sys2Proof.Machine.execWindowAddressWrite tag win reg data s
  | .windowCountWrite tag win data => Sys2Proof.Machine.execWindowCountWrite tag win data s
  | .windowStop tag win inc => Sys2Proof.Machine.execWindowStop tag win inc s
  | .windowDataRead tag win => Sys2Proof.Machine.execWindowDataRead tag win s
  | .windowDataWrite tag win data => Sys2Proof.Machine.execWindowDataWrite tag win data s
  | .windowFetchDone win => Sys2Proof.Machine.execWindowFetchDone win s
  | .windowWriteDone win verified => Sys2Proof.Machine.execWindowWriteDone win verified s
  | .commit tag upper => Sys2Proof.Machine.execCommit tag upper s
  | .check tag upper => Sys2Proof.Machine.execCheck tag upper s
  | .revert tag upper => Sys2Proof.Machine.execRevert tag upper s
  | .revertDone => Sys2Proof.Machine.execRevertDone s
  | .fitCheckDone => Sys2Proof.Machine.execFitCheckDone s
  | .commitApply => Sys2Proof.Machine.execCommitApply s
  | .powerRequestRun tag => Sys2Proof.Machine.execPowerRequestRun tag s
  | .powerRequestStandby tag => Sys2Proof.Machine.execPowerRequestStandby tag s
  | .powerRequestSleep tag => Sys2Proof.Machine.execPowerRequestSleep tag s
  | .powerTransitionDone failed => Sys2Proof.Machine.execPowerTransitionDone failed s
  | .supplyLoss rail => Sys2Proof.Machine.execSupplyLoss rail s
  | .powerOnReset rstn => Sys2Proof.Machine.execPowerOnReset rstn s
  | .rstnReset lowNs => Sys2Proof.Machine.execRstnReset lowNs s
  | .hostReset tag => Sys2Proof.Machine.execHostReset tag s
  | .backupEnd => Sys2Proof.Machine.execBackupEnd s
  | .bootStart env => Sys2Proof.Machine.execBootStart env s
  | .bootWatchTimeout => Sys2Proof.Machine.execBootWatchTimeout s
  | .watchdogTimeout => Sys2Proof.Machine.execWatchdogTimeout s
  | .watchdogEarlyService => Sys2Proof.Machine.execWatchdogEarlyService s
  | .coreRailFault => Sys2Proof.Machine.execCoreRailFault s
  | .vauxHighTrip => Sys2Proof.Machine.execVauxHighTrip s
  | .vauxHighRelease => Sys2Proof.Machine.execVauxHighRelease s
  | .temperatureTrip => Sys2Proof.Machine.execTemperatureTrip s
  | .temperatureRelease => Sys2Proof.Machine.execTemperatureRelease s
  | .stoPathCheckFail path => Sys2Proof.Machine.execStoPathCheckFail path s
  | .heartbeatCheck silent => Sys2Proof.Machine.execHeartbeatCheck silent s
  | .axisEnable tag ax => Sys2Proof.Machine.execAxisEnable tag ax s
  | .axisDisable tag ax => Sys2Proof.Machine.execAxisDisable tag ax s
  | .axRunStart tag ax => Sys2Proof.Machine.execAxRunStart tag ax s
  | .axRunStop tag ax => Sys2Proof.Machine.execAxRunStop tag ax s
  | .axRunHold tag ax => Sys2Proof.Machine.execAxRunHold tag ax s
  | .axRunProbe tag ax => Sys2Proof.Machine.execAxRunProbe tag ax s
  | .axPerWrite tag ax data => Sys2Proof.Machine.execAxPerWrite tag ax data s
  | .axCmpWrite tag ax leg data => Sys2Proof.Machine.execAxCmpWrite tag ax leg data s
  | .axForceWrite tag ax data => Sys2Proof.Machine.execAxForceWrite tag ax data s
  | .tripClear tag ax => Sys2Proof.Machine.execTripClear tag ax s
  | .fltAck tag data => Sys2Proof.Machine.execFltAck tag data s
  | .stestReq tag data => Sys2Proof.Machine.execStestReq tag data s
  | .pinDataWrite tag bank data => Sys2Proof.Machine.execPinDataWrite tag bank data s
  | .pinMaskedWrite tag bank high mask value => Sys2Proof.Machine.execPinMaskedWrite tag bank high mask value s
  | .pinLock tag data => Sys2Proof.Machine.execPinLock tag data s
  | .otpProgram tag addr => Sys2Proof.Machine.execOtpProgram tag addr s
  | .otpFetchDone => Sys2Proof.Machine.execOtpFetchDone s
  | .otpDataWord tag data => Sys2Proof.Machine.execOtpDataWord tag data s
  | .otpLockWrite tag arg => Sys2Proof.Machine.execOtpLockWrite tag arg s
  | .otpLockRead tag arg => Sys2Proof.Machine.execOtpLockRead tag arg s
  | .otpAdvance tag arg => Sys2Proof.Machine.execOtpAdvance tag arg s
  | .otpBurnDone verified => Sys2Proof.Machine.execOtpBurnDone verified s
  | .otpRedirectionDone failedSpares => Sys2Proof.Machine.execOtpRedirectionDone failedSpares s
  | .otpDataPhaseExpiry => Sys2Proof.Machine.execOtpDataPhaseExpiry s
  | .calstore tag arg => Sys2Proof.Machine.execCalstore tag arg s
  | .bankWriteDone verified => Sys2Proof.Machine.execBankWriteDone verified s
  | .stagingBegin tag arg => Sys2Proof.Machine.execStagingBegin tag arg s
  | .stagingBeginDone verified => Sys2Proof.Machine.execStagingBeginDone verified s
  | .stagingSeal tag arg => Sys2Proof.Machine.execStagingSeal tag arg s
  | .stagingWithdraw tag arg => Sys2Proof.Machine.execStagingWithdraw tag arg s
  | .stagingRequest tag arg => Sys2Proof.Machine.execStagingRequest tag arg s
  | .headerWriteDone verified => Sys2Proof.Machine.execHeaderWriteDone verified s
  | .stagingSessionTimeout => Sys2Proof.Machine.execStagingSessionTimeout s
  | .backupAcknowledge tag data => Sys2Proof.Machine.execBackupAcknowledge tag data s
  | .proofTestRequest tag win data => Sys2Proof.Machine.execProofTestRequest tag win data s
  | .proofTestUnitPhaseEnd => Sys2Proof.Machine.execProofTestUnitPhaseEnd s
  | .proofTestStoTimeout => Sys2Proof.Machine.execProofTestStoTimeout s
  | .inspectionMark tag win data => Sys2Proof.Machine.execInspectionMark tag win data s
  | .feedbackPreset tag win data => Sys2Proof.Machine.execFeedbackPreset tag win data s
  | .coefficientPairWrite tag win data => Sys2Proof.Machine.execCoefficientPairWrite tag win data s
  | .seamOutboxSend tag win data => Sys2Proof.Machine.execSeamOutboxSend tag win data s
  | .seamInboxRelease tag win data => Sys2Proof.Machine.execSeamInboxRelease tag win data s
  | .stitchDue slot => Sys2Proof.Machine.execStitchDue slot s
  | .stitchRearm slot => Sys2Proof.Machine.execStitchRearm slot s
  | .nop lane => Sys2Proof.Machine.execNop lane s
  | .commute lane => Sys2Proof.Machine.execCommute lane s
  | .cnvStart lane => Sys2Proof.Machine.execCnvStart lane s
  | .sigSet lane => Sys2Proof.Machine.execSigSet lane s
  | .sigClear lane => Sys2Proof.Machine.execSigClear lane s
  | .sigToggle lane => Sys2Proof.Machine.execSigToggle lane s
  | .hostIrq lane => Sys2Proof.Machine.execHostIrq lane s
  | .injOn lane => Sys2Proof.Machine.execInjOn lane s
  | .injOff lane => Sys2Proof.Machine.execInjOff lane s
  | .spacingRearm lane => Sys2Proof.Machine.execSpacingRearm lane s
  | .seamPub lane => Sys2Proof.Machine.execSeamPub lane s
  | .carrierResync lane => Sys2Proof.Machine.execCarrierResync lane s
  | .tally lane => Sys2Proof.Machine.execTally lane s
  | .tallyStoreWrite verified => Sys2Proof.Machine.execTallyStoreWrite verified s
  | .carrierPeriodStart ax => Sys2Proof.Machine.execCarrierPeriodStart ax s
  | .triggerCompare ax m => Sys2Proof.Machine.execTriggerCompare ax m s
  | .sarSlotEnd conv volts devWitness => Sys2Proof.Machine.execSarSlotEnd conv volts devWitness s
  | .sarResultHandover conv => Sys2Proof.Machine.execSarResultHandover conv s
  | .bemfCrossingTimeout ax => Sys2Proof.Machine.execBemfCrossingTimeout ax s
  | .mainPathResult d stream => Sys2Proof.Machine.execMainPathResult d stream s
  | .fastPathResult d stream => Sys2Proof.Machine.execFastPathResult d stream s
  | .streamStuck d => Sys2Proof.Machine.execStreamStuck d s
  | .desatDetect ch => Sys2Proof.Machine.execDesatDetect ch s
  | .softTurnoffEnd ch => Sys2Proof.Machine.execSoftTurnoffEnd ch s
  | .supplyUndervoltage sup offRail => Sys2Proof.Machine.execSupplyUndervoltage sup offRail s
  | .gateVoltageFault ch vgate => Sys2Proof.Machine.execGateVoltageFault ch vgate s
  | .channelTemperatureMeasure ch temp => Sys2Proof.Machine.execChannelTemperatureMeasure ch temp s
  | .externalTripInput k => Sys2Proof.Machine.execExternalTripInput k s
  | .tripSourceQuiet ax => Sys2Proof.Machine.execTripSourceQuiet ax s
  | .stoInputChange which high => Sys2Proof.Machine.execStoInputChange which high s
  | .stoDemand => Sys2Proof.Machine.execStoDemand s
  | .stoSingleInputTimeout which => Sys2Proof.Machine.execStoSingleInputTimeout which s
  | .stoDiscrepancy which => Sys2Proof.Machine.execStoDiscrepancy which s
  | .sourceOverSpeed src => Sys2Proof.Machine.execSourceOverSpeed src s
  | .mainsLock m => Sys2Proof.Machine.execMainsLock m s
  | .mainsOutOfRange m freq => Sys2Proof.Machine.execMainsOutOfRange m freq s
  | .ladderUpgrade ax => Sys2Proof.Machine.execLadderUpgrade ax s
  | .blendComplete ax => Sys2Proof.Machine.execBlendComplete ax s
  | .probeHoldExpiry ax => Sys2Proof.Machine.execProbeHoldExpiry ax s
  | .probePulseTiming ax => Sys2Proof.Machine.execProbePulseTiming ax s
  | .probeAttemptEnd ax => Sys2Proof.Machine.execProbeAttemptEnd ax s
  | .brakeRelease ax => Sys2Proof.Machine.execBrakeRelease ax s
  | .brakeTimeEnd ax => Sys2Proof.Machine.execBrakeTimeEnd ax s
  | .commandInputEdge ax periodTicks highTicks => Sys2Proof.Machine.execCommandInputEdge ax periodTicks highTicks s
  | .commandLoss ax => Sys2Proof.Machine.execCommandLoss ax s
  | .commandRestore ax => Sys2Proof.Machine.execCommandRestore ax s
  | .lockedRotor ax => Sys2Proof.Machine.execLockedRotor ax s
  | .quadEdge itf ab sub => Sys2Proof.Machine.execQuadEdge itf ab sub s
  | .indexEvent sample => Sys2Proof.Machine.execIndexEvent sample s
  | .hitPulseEnd itf => Sys2Proof.Machine.execHitPulseEnd itf s
  | .countWindowEnd itf => Sys2Proof.Machine.execCountWindowEnd itf s
  | .speedZeroTimeout itf => Sys2Proof.Machine.execSpeedZeroTimeout itf s
  | .lineFault rx => Sys2Proof.Machine.execLineFault rx s
  | .pinInputChange bank levels => Sys2Proof.Machine.execPinInputChange bank levels s
  | .wakePin p => Sys2Proof.Machine.execWakePin p s
  | .seamCycleStart => Sys2Proof.Machine.execSeamCycleStart s
  | .gangStaleTimeout => Sys2Proof.Machine.execGangStaleTimeout s
  | .seamLinkUp port => Sys2Proof.Machine.execSeamLinkUp port s
  | .seamLinkDown port => Sys2Proof.Machine.execSeamLinkDown port s
  | .seamFrameReceived port frame => Sys2Proof.Machine.execSeamFrameReceived port frame s
  | .seamAlertReceived port gang kind => Sys2Proof.Machine.execSeamAlertReceived port gang kind s
  | .openMsg port msg => Sys2Proof.Machine.execOpenMsg port msg s
  | .closeMsg port msg => Sys2Proof.Machine.execCloseMsg port msg s
  | .request port msg => Sys2Proof.Machine.execRequest port msg s
  | .response port msg => Sys2Proof.Machine.execResponse port msg s
  | .note port msg => Sys2Proof.Machine.execNote port msg s
  | .messageRelay port msg => Sys2Proof.Machine.execMessageRelay port msg s
  | .sessionTimeout sess => Sys2Proof.Machine.execSessionTimeout sess s
  | .testComplete unit run firstFail => Sys2Proof.Machine.execTestComplete unit run firstFail s
  | .faultLogWrite verified => Sys2Proof.Machine.execFaultLogWrite verified s
  | .watchStrobe ab => Sys2Proof.Machine.execWatchStrobe ab s
  | .vbakLowAlarm => Sys2Proof.Machine.execVbakLowAlarm s
  | .coverAlarm => Sys2Proof.Machine.execCoverAlarm s
  | .rtcWake => Sys2Proof.Machine.execRtcWake s
  | .backupDomainRestart => Sys2Proof.Machine.execBackupDomainRestart s
  | .requestCrcMismatch frame => Sys2Proof.Machine.execRequestCrcMismatch frame s
  | .angleEngineStep => Sys2Proof.Machine.execAngleEngineStep s
  | .mainsTrackerSample m => Sys2Proof.Machine.execMainsTrackerSample m s
  | .supervisorMonitorConversion temp vaux vbak => Sys2Proof.Machine.execSupervisorMonitorConversion temp vaux vbak s
  | .supervisorDomainCheck ok => Sys2Proof.Machine.execSupervisorDomainCheck ok s
  | .vbakLoss => Sys2Proof.Machine.execVbakLoss s
  | .watchCarryApply => Sys2Proof.Machine.execWatchCarryApply s
  | .runTimeIncrement ax => Sys2Proof.Machine.execRunTimeIncrement ax s
  | .firmwareSignalUpdate => Sys2Proof.Machine.execFirmwareSignalUpdate s
  | .stoHardwarePathAct which => Sys2Proof.Machine.execStoHardwarePathAct which s
  | .proofTestStoSample => Sys2Proof.Machine.execProofTestStoSample s
  | .externalTripInputInactive k => Sys2Proof.Machine.execExternalTripInputInactive k s
  | .gateSupplyRecovery sup => Sys2Proof.Machine.execGateSupplyRecovery sup s
  | .gateVoltageMismatchEnd ch => Sys2Proof.Machine.execGateVoltageMismatchEnd ch s
  | .lineFaultClear rx => Sys2Proof.Machine.execLineFaultClear rx s

end Sys2Proof.Machine
end

