-- ==== Sys2Proof/Safety.lean ====
section
/-! DEFINITION. The terms the statements use: the canonical form of the module's memories, fuses that stay burned,
and the state an accepted host frame leaves. -/

namespace Sys2Proof.Machine

/-- The configuration memories are in canonical form. -/
abbrev ConfigMem.wf (m : ConfigMem) : Prop :=
  m.shadow.wf ∧ m.running.wf ∧ m.pending.wf ∧ m.live.wf ∧ ∀ k : Fin 8, m.advTab[k].wf

/-- The fuse array and its spare rows are in canonical form. -/
abbrev Otp.wf (t : Otp) : Prop := t.cells.wf ∧ t.spares.wf

/-- Every memory of the module is in canonical form, addresses strictly rising and no listed word 0: configuration,
fuses, record store, backup registers, protection set-up, converter results and coefficients, outbox and inbox, and
the captured pairs of the windows. -/
abbrev memoriesWf (s : State) : Prop :=
  s.cfg.wf ∧ s.otp.wf ∧ s.store.mem.wf ∧ s.bak.ram.wf ∧ s.boot.setup.wf ∧ s.cnv.res.wf ∧ s.cnv.coef.wf ∧
  s.cnv.heldOfs.wf ∧ s.seam.outbox.wf ∧ s.seam.inbox.wf ∧
  ∀ i : Fin 4, s.win[i].pairHi.wf ∧ s.seam.sess[i].win.pairHi.wf

/-- No axis follows a leader that is itself a member (08 Table 8.10). -/
abbrev groupsFlat (s : State) : Prop := ∀ n : Fin 8, isMember s (leaderOf s n) = false

/-- Every fuse burned in `a` is burned in `b`: the main rows, the lock fuses and the three copies of every
redirection entry (05 R158, R160, R161, R177). -/
def fusesKept (a b : Otp) : Prop :=
  (∀ k, a.cells.get k &&& ~~~(b.cells.get k) = 0) ∧
  a.wlock &&& ~~~b.wlock = 0 ∧ a.rlock &&& ~~~b.rlock = 0 ∧
  ∀ i : Fin 16, ∀ j : Fin 3, a.redir[i][j] &&& ~~~b.redir[i][j] = 0

/-- `u` with the answer of a frame that ended: the previous answer shifted out in it (02 R53), the new one kept. -/
def withAnswer (st : Status) (tag : BitVec 4) (data : Word) (s u : State) : State :=
  { u with host := { u.host with
    resp := { status := st, tag := tag, data := data }, hsdo := some (responseFrame s) } }

/-- `u` as an accepted host write leaves it: answered OK, the arming spent (02 R75). -/
def written (tag : BitVec 4) (s u : State) : State :=
  withAnswer .ok tag 0 s { u with host := { u.host with key := none } }

/-- `s` as a refused host write leaves it (02 R59, R75): the status answered, the arming spent, nothing else. -/
def turnedAway (st : Status) (tag : BitVec 4) (s : State) : State :=
  withAnswer st tag 0 s { s with host := { s.host with key := none } }

/-- `s` as a host write refused with GUARDED leaves it (02 R79): the guard event counted, with its cause. -/
def guardedAway (cause : BitVec 3) (tag : BitVec 4) (s : State) : State :=
  withAnswer .guarded tag 0 s { s with host := { s.host with
    key := none, guardCount := satInc s.host.guardCount, guardCause := cause, guardFlag := true } }

/-- The record store has no write under way or due: of the command in progress, of a settled log entry, of a counter; or
it is out of service (17 R586, R629). -/
abbrev storeQuiet (s : State) : Prop :=
  storeOut s = true ∨ s.store.op = none ∧ s.store.waiting = [] ∧ logDue s = false

/-- `t` is `s` in a reset with these causes recorded (04 R116, R119): in boot, no gate driven, the register state at
its reset values; fuses and store kept where no burn and no write was under way. -/
def resetBy (s t : State) (causes : BitVec 5) : Prop :=
  t.power.phase = .boot ∧ t.power.causes = causes ∧ t.pending = s.pending ∧
  t.host = { resetHost with hsdo := t.host.hsdo } ∧ t.lat = resetLatches ∧ t.win = State.reset.win ∧ t.cfg = resetConfig ∧
  t.axes = State.reset.axes ∧ t.stitch = resetStitch ∧ t.seam = resetSeam ∧ t.flt = resetFaults ∧
  (s.otp.op = none → t.otp.cells = s.otp.cells ∧ t.otp.spares = s.otp.spares) ∧
  (storeQuiet s → (∀ w ∈ allWindows s, w.writing = none) → t.store.mem = s.store.mem) ∧
  ∀ n leg high, gateOn t n leg high = false

/-- The backup domain of `t` is `b`, but for the AB state from which the movement watch goes on (17 R621). -/
abbrev backupKept (b : Backup) (t : State) : Prop := t.bak = { b with ab := t.bak.ab, abKnown := t.bak.abKnown }

/-- `t` follows `s` by a start of sequence `q` that arrives at `a` (13 R446, R447, R467): an idle converter that is not
under test begins with the first entry, two ticks after the start; a busy one, whose slot did not begin by a later start
of the same tick, keeps up to four starts waiting in order of arrival. -/
def sequenceStarts (s t : State) (q : Nat) (a : Arrival) : Prop :=
  let j : Fin 16 := Fin.ofNat 16 (bits (seqHeader s q) 5 4)
  convOn s j = true → seqInputs s q ≠ [] → isTesting s ⟨2, j.val⟩ = false → isLasting s ⟨2, j.val⟩ = false →
    (s.cnv.sar[j].run = none →
      ∃ r, t.cnv.sar[j].run = some r ∧ r.seq = q ∧ r.entry = 0 ∧ r.start = a.time + 2 ∧
        (seqInputs s q).head? = some r.input) ∧
    (∀ r, s.cnv.sar[j].run = some r → (∀ b, r.lead = some b → a.before b = false) → s.cnv.sar[j].pend.length < 4 →
      t.cnv.sar[j] = { s.cnv.sar[j] with pend := insertStart { seq := q, arrival := a } s.cnv.sar[j].pend })

/-- `s` with axis `n` changed and nothing else. -/
abbrev withAxis (n : Fin 8) (a : Axis) (s : State) : State := { s with axes := s.axes.set n a }

end Sys2Proof.Machine
end

