-- ==== Sys2Proof/Certificates/Slice0/Obligations.lean ====
section
/-! DEFINITION. The statements for the provers. Each docstring names the rule it formalises, or the model's own
choice it rests on. -/

open Sys2Proof Sys2Proof.Machine

/-! ### The queue and the whole machine -/

/-- A step takes the command at the front of the queue and runs it with the rest of the queue; on an empty queue the
block idles (the model's choice, log entry 2). -/
def Obligations.StepRunsFrontCommand : Prop :=
  (∀ (c : Instr) (q : List Instr) (s : State),
    step { s with pending := c :: q } = exec c { s with pending := q }) ∧
  ∀ s : State, s.pending = [] → step s = .next s

/-- Every command answers a next state and leaves the queue of waiting commands as it is: the module has no command
that stops it, and none that commands another (the commands of spec/opcode_table.json). -/
def Obligations.EveryCommandAnswersAndKeepsQueue : Prop :=
  ∀ (c : Instr) (s : State), ∃ t, exec c s = .next t ∧ t.pending = s.pending

/-- The memories of the module stay in canonical form over every step. -/
def Obligations.StepsKeepMemoriesCanonical : Prop :=
  ∀ s t : State, memoriesWf s → step s = .next t → memoriesWf t

/-- Groups stay flat over every step: no axis ever follows a leader that is itself a member (08 8.6). -/
def Obligations.StepsKeepGroupsFlat : Prop := ∀ s t : State, groupsFlat s → step s = .next t → groupsFlat t

/-- The reset state has what every step keeps: canonical memories and flat groups. -/
def Obligations.ResetMeetsTheInvariants : Prop := memoriesWf State.reset ∧ groupsFlat State.reset

/-- 05 R167: no step clears a fuse, of the OTP rows, the lock fuses or the redirection entries. -/
def Obligations.FusesNeverClear : Prop :=
  ∀ s t : State, s.otp.wf → step s = .next t → fusesKept s.otp t.otp

/-- What the registers read after reset (03 Tables 3.4 to 3.11; a module as shipped, log entry 7). -/
def Obligations.ResetRegisterValues : Prop :=
  (∀ e ∈ [((0x000 : Nat), (0x4B39 : Word)), (0x004, 2), (0x005, 1), (0x006, 0), (0x007, 0), (0x00A, 0), (0x00B, 1),
      (0x00E, 0), (0x00F, 0), (0x010, 0), (0x012, 0), (0x014, 3), (0x018, 0), (0x020, 0), (0x022, 0x8000),
      (0x025, 0), (0x041, 0), (0x042, 0), (0x044, 0), (0x060, 0), (0x062, 0)],
    regRead State.reset .host e.1 = e.2) ∧
  ∀ n : Fin 8, regRead State.reset .host (0x100 + 32 * n.val) = 0 ∧
    regRead State.reset .host (0x110 + 32 * n.val) = 0x30D4 ∧
    regRead State.reset .host (0x11F + 32 * n.val) = BitVec.ofNat 16 n.val

/-! ### The host port (chapter 02) -/

/-- 02 R46, R54: an aborted frame only disarms the key, sets ABORT and makes the next answer NO_PREVIOUS. That nothing is
recorded of what HSDO shifts out in it is the model's choice (log entry 83). -/
def Obligations.AbortedFrameDisarmsOnly : Prop :=
  ∀ s : State, running s = true →
    exec .hostFrameAborted s = .next { s with host := { s.host with
      key := none, sysStat := setBit s.host.sysStat 1, hsdo := none
      resp := { status := .noPrevious, tag := 0, data := 0 } } }

/-- 02 R49: a frame whose CRC does not match has no effect but CRCERR and the lost key, and is answered CRC_BAD. -/
def Obligations.BadCrcHasNoEffect : Prop :=
  (∀ (frame : BitVec 40) (s : State), running s = true →
    frame.extractLsb' 0 8 ≠ frameCrc (frame.extractLsb' 8 32) →
    exec (.requestCrcMismatch frame) s = .next (withAnswer .crcBad (frame.extractLsb' 24 4) 0 s
      { s with host := { s.host with key := none, sysStat := setBit s.host.sysStat 0 } })) ∧
  ∀ (tag : BitVec 4) (rsv : BitVec 2) (a : BitVec 9) (d : Word) (crc : BitVec 8) (s : State), running s = true →
    crc ≠ frameCrc (requestHead true a rsv tag d) →
    exec (.registerWrite tag rsv a d crc) s = .next (withAnswer .crcBad tag 0 s
      { s with host := { s.host with key := none, sysStat := setBit s.host.sysStat 0 } })

/-- 02 R50, R51, R59, R79, 09 Table 9.10: a write with its CRC right: SYS_IRQEN takes its 14 bits, SYS_SPREAD its 4 with
the output key and a depth that exists, GUARDED otherwise; a set reserved bit or an address without a register is
BAD_ADDR; a read-only register is GUARDED with cause 1 - each with no other effect. -/
def Obligations.RegisterWriteActsOrIsRefused : Prop :=
  ∀ (tag : BitVec 4) (rsv : BitVec 2) (a : BitVec 9) (d : Word) (s : State), running s = true →
    let send := fun (rsv : BitVec 2) (a : BitVec 9) =>
      exec (.registerWrite tag rsv a d (frameCrc (requestHead true a rsv tag d))) s
    send 0 0x007 = .next (written tag s { s with host := { s.host with irqEn := d.extractLsb' 0 14 } }) ∧
    (s.host.key = some .output → bits d 2 2 ≠ 3 →
      send 0 0x014 = .next (written tag s { s with spread := d.extractLsb' 0 4 })) ∧
    (s.host.key = some .output → bits d 2 2 = 3 → send 0 0x014 = .next (guardedAway 7 tag s)) ∧
    (s.host.key ≠ some .output → send 0 0x014 = .next (guardedAway 2 tag s)) ∧
    (rsv ≠ 0 → send rsv a = .next (turnedAway .badAddr tag s)) ∧
    (a ∈ [0x01D, 0x03F, 0x04A, 0x087, (0x0FF : BitVec 9)] → send 0 a = .next (turnedAway .badAddr tag s)) ∧
    (a ∈ [0x000, 0x006, 0x00A, (0x01B : BitVec 9)] → send 0 a = .next (guardedAway 1 tag s))

/-- 02 R65, R53: a read of a clear-on-read register answers its bits and clears them, and nothing else. -/
def Obligations.ClearOnReadClearsItsRegister : Prop :=
  ∀ (tag : BitVec 4) (s : State), running s = true →
    (let v := s.host.sysStat.setWidth 16
     exec (.clearOnRead tag 0x006) s = .next (withAnswer .ok tag v s
       { s with host := { s.host with sysStat := 0, lastRd := v } })) ∧
    (let v := s.boot.rstCause.setWidth 16
     exec (.clearOnRead tag 0x00B) s = .next (withAnswer .ok tag v s
       { s with boot := { s.boot with rstCause := 0 }, host := { s.host with lastRd := v } })) ∧
    (let v := s.flt.stat.setWidth 16
     exec (.clearOnRead tag 0x042) s = .next (withAnswer .ok tag v s
       { s with flt := { s.flt with stat := 0 }, host := { s.host with lastRd := v } })) ∧
    (let v := s.seam.stat.setWidth 16
     exec (.clearOnRead tag 0x021) s = .next (withAnswer .ok tag v s
       { s with seam := { s.seam with stat := 0 }, host := { s.host with lastRd := v } })) ∧
    ∀ n : Fin 8, let v := s.axes[n].stat.setWidth 16
      exec (.clearOnRead tag (BitVec.ofNat 9 (0x102 + 32 * n.val))) s = .next (withAnswer .ok tag v s
        (withAxis n { s.axes[n] with stat := 0 } { s with host := { s.host with lastRd := v } }))

/-- 02 R70, R71: a read of an L register latches its partners, which later reads of H return. -/
def Obligations.LatchedReadKeepsPartners : Prop :=
  ∀ (tag : BitVec 4) (s : State), running s = true →
    (let v := s.seam.time.extractLsb' 0 16
     let t := withAnswer .ok tag v s { s with
       lat := { s.lat with time1 := s.seam.time.extractLsb' 16 16, time2 := s.seam.time.extractLsb' 32 16 }
       host := { s.host with lastRd := v, timeHi := s.seam.time.extractLsb' 48 16 } }
     exec (.latchedRead tag 0x018) s = .next t ∧
     ∀ r : BitVec 64, regRead { t with seam := { t.seam with time := r } } .host 0x019 = s.seam.time.extractLsb' 16 16 ∧
       regRead { t with seam := { t.seam with time := r } } .host 0x01A = s.seam.time.extractLsb' 32 16) ∧
    ∀ n : Fin 8, let v := s.fb[n].count.extractLsb' 0 16
      exec (.latchedRead tag (BitVec.ofNat 9 (0x10C + 32 * n.val))) s = .next (withAnswer .ok tag v s { s with
        lat := { s.lat with posH := s.lat.posH.set n (s.fb[n].count.extractLsb' 16 16) }
        host := { s.host with lastRd := v } })

/-- 02 R75, R76, Table 2.12: a value of SYS_KEY arms its class; any other value is GUARDED with cause 6 and disarms. -/
def Obligations.KeyWriteArmsItsClass : Prop :=
  ∀ (tag : BitVec 4) (s : State), running s = true →
    (∀ k d, (d, k) ∈ [((0x4B5A : Word), KeyClass.output), (0xA55A, .store), (0x3C96, .pinLock)] →
      exec (.sysKeyWrite tag d) s = .next (withAnswer .ok tag 0 s { s with host := { s.host with key := some k } })) ∧
    ∀ d : Word, d ∉ [(0x4B5A : Word), 0xA55A, 0x3C96] → exec (.sysKeyWrite tag d) s = .next (guardedAway 6 tag s)

/-- 02 R77: an arming that expires is lost, and KEYEXP set: the host's, or that of a remote session. -/
def Obligations.KeyExpiryDisarms : Prop :=
  (∀ (s : State) (k : KeyClass), s.host.key = some k →
    exec (.keyExpiry none) s = .next { s with host := { s.host with
      key := none, sysStat := setBit s.host.sysStat 2 } }) ∧
  ∀ (s : State) (i : Fin 4) (k : KeyClass), s.seam.sess[i].key = some k →
    exec (.keyExpiry (some i)) s = .next { s with
      host := { s.host with sysStat := setBit s.host.sysStat 2 }
      seam := { s.seam with sess := s.seam.sess.set i { s.seam.sess[i] with key := none } } }

/-- 02 R53, R59, R79: a host write that is refused leaves everything but the answer, the spent arming, the guard
count of SYS_GUARD and, at OTP_CMD, the data phase (05 R169). -/
def Obligations.RefusedWriteHasNoEffect : Prop :=
  ∀ (tag : BitVec 4) (a : BitVec 9) (d : Word) (s : State), running s = true →
    (reported (writeRefusals s .host s.host.key a.toNat d)).1 ≠ .ok →
    ∃ (h : HostPort) (o : Otp),
      exec (.registerWrite tag 0 a d (frameCrc (requestHead true a 0 tag d))) s = .next { s with host := h, otp := o } ∧
      h.resp.status ≠ .ok ∧ h.resp.tag = tag ∧ h.resp.data = 0 ∧ h.key = none ∧ h.irqEn = s.host.irqEn ∧
      h.sysStat = s.host.sysStat ∧ h.lastRd = s.host.lastRd ∧ h.hsdo = some (responseFrame s) ∧
      (h.resp.status = .guarded → h.guardCount = satInc s.host.guardCount ∧ h.guardFlag = true) ∧
      (h.resp.status ≠ .guarded → h.guardCount = s.host.guardCount ∧ h.guardFlag = s.host.guardFlag) ∧
      (a ≠ 0x0A0 → o = s.otp) ∧ o.cells = s.otp.cells

/-! ### The windows (02 2.10) -/

/-- 02 R82, R87, R88, R92: the registers of WIN0 and WIN1 take address, count and STOP; those of WIN2 and WIN3 are
not the host's. -/
def Obligations.WindowRegistersTakeWrites : Prop :=
  ∀ (tag : BitVec 4) (n : Fin 4) (d : Word) (s : State), running s = true →
    (n.val < 2 → d.extractLsb' 0 5 < 0x14 → ∃ w : Window,
      exec (.windowAddressWrite tag n .space d) s = .next (written tag s { s with win := s.win.set n w }) ∧
      w.space = d.extractLsb' 0 5 ∧ w.addr = s.win[n].addr ∧ w.count = s.win[n].count ∧ w.inc = s.win[n].inc) ∧
    (n.val < 2 → 0x14 ≤ d.extractLsb' 0 5 →
      exec (.windowAddressWrite tag n .space d) s = .next (turnedAway .badAddr tag s)) ∧
    (n.val < 2 → ∃ w : Window,
      exec (.windowAddressWrite tag n .addrL d) s = .next (written tag s { s with win := s.win.set n w }) ∧
      w.addr = s.win[n].addr.extractLsb' 16 8 ++ d ∧ w.space = s.win[n].space ∧ w.count = s.win[n].count ∧
      w.atEnd = decide (spaceSize w.space.toNat ≤ w.addr.toNat)) ∧
    (n.val < 2 → ∃ w : Window,
      exec (.windowAddressWrite tag n .addrH d) s = .next (written tag s { s with win := s.win.set n w }) ∧
      w.addr = d.extractLsb' 0 8 ++ s.win[n].addr.extractLsb' 0 16 ∧ w.space = s.win[n].space ∧
      w.count = s.win[n].count) ∧
    (n.val < 2 → ∃ w : Window,
      exec (.windowCountWrite tag n d) s = .next (written tag s { s with win := s.win.set n w }) ∧
      w.count = d ∧ w.space = s.win[n].space ∧ w.addr = s.win[n].addr ∧ w.atEnd = s.win[n].atEnd) ∧
    (n.val < 2 → ∀ inc : Bool, exec (.windowStop tag n inc) s = .next (written tag s { s with
      win := s.win.set n { s.win[n] with inc := inc, count := 0, fetching := false } })) ∧
    (2 ≤ n.val → exec (.windowCountWrite tag n d) s = .next (turnedAway .notOwner tag s) ∧
      (∀ inc, exec (.windowStop tag n inc) s = .next (turnedAway .notOwner tag s)) ∧
      exec (.windowDataWrite tag n d) s = .next (turnedAway .notOwner tag s) ∧
      exec (.windowDataRead tag n) s = .next (withAnswer .notOwner tag 0 s s))

/-- 02 R84, R86: an accepted access to WINn_DATA of a configuration word (spaces 0x03 to 0x05) moves one word and
steps the window: a write goes to the shadow, a read answers the shadow's word. That with INC 0 the last word leaves
address and END as they are is the model's choice (log entry 87). -/
def Obligations.WindowDataMovesOneWord : Prop :=
  ∀ (tag : BitVec 4) (n : Fin 4) (d : Word) (s : State), running s = true → n.val < 2 →
    s.win[n].space ∈ [0x03, 0x04, (0x05 : BitVec 5)] → s.win[n].count ≠ 0 → s.win[n].atEnd = false →
    s.win[n].fetching = false → s.win[n].writing = none →
    s.win[n].addr.toNat < spaceSize s.win[n].space.toNat →
    let a := s.win[n].addr.toNat
    let k := 65536 * s.win[n].space.toNat + a
    let next := { s.win[n] with
      count := s.win[n].count - 1
      addr := if s.win[n].inc then s.win[n].addr + 1 else s.win[n].addr
      atEnd := decide (spaceSize s.win[n].space.toNat ≤
        (if s.win[n].inc then s.win[n].addr + 1 else s.win[n].addr).toNat) }
    (exec (.windowDataRead tag n) s = .next (withAnswer .ok tag (s.cfg.shadow.get k) s
      { s with win := s.win.set n next, host := { s.host with lastRd := s.cfg.shadow.get k } })) ∧
    (mayWriteWord s .host s.win[n].space.toNat a = true → s.cfg.state = .idle →
      exec (.windowDataWrite tag n d) s = .next (written tag s { s with
        win := s.win.set n next, cfg := { s.cfg with shadow := s.cfg.shadow.put k d, dirty := true } }))

/-- 02 R85, R93: a DATA access is LENGTH while the window is idle, its count used up or END set, and BUSY while a word is
on its way in either direction, with no other effect. That LENGTH is judged before the owner of a word that the window no
longer addresses is the model's choice (log entry 26). -/
def Obligations.WindowDataRefusedWithoutEffect : Prop :=
  ∀ (tag : BitVec 4) (n : Fin 4) (d : Word) (s : State), running s = true → n.val < 2 →
    let w := s.win[n]
    let idle := w.count = 0 ∨ w.atEnd = true
    (idle → w.fetching = false → w.writing = none →
      exec (.windowDataWrite tag n d) s = .next (turnedAway .length tag s) ∧
      exec (.windowDataRead tag n) s = .next (withAnswer .length tag 0 s s)) ∧
    (w.fetching = true ∨ w.writing.isSome = true →
      exec (.windowDataRead tag n) s = .next (withAnswer .busy tag 0 s s) ∧
      (idle ∨ spaceRefusals s .host w.space.toNat w.addr.toNat d = [] →
        exec (.windowDataWrite tag n d) s = .next (turnedAway .busy tag s)))

/-- 02 R92, R91, 05 R174, 17 R588, R608, R615, R629: a fetch ends with the word of the space, but waits for the verify
of the OTP word that is being burned; a write on its way lands in the staging area of the record store, after the store
writes that go before it, or in the backup registers. The store that is out of service takes none. -/
def Obligations.WindowTransfersComplete : Prop :=
  (∀ (n : Fin 4) (s : State), s.win[n].fetching = true → fetchWaits s s.win[n] = false →
    exec (.windowFetchDone (.port n)) s = .next { s with win := s.win.set n { s.win[n] with
      fetching := false, fetched := spaceRead s s.win[n].space.toNat s.win[n].addr.toNat } }) ∧
  (∀ (w : WinSel) (s : State), (windowOf s w).fetching = false ∨ fetchWaits s (windowOf s w) = true →
    exec (.windowFetchDone w) s = .next s) ∧
  (∀ (k : Fin 4) (s : State), s.seam.sess[k].win.fetching = true → fetchWaits s s.seam.sess[k].win = false →
    exec (.windowFetchDone (.session k)) s = .next { s with seam := { s.seam with
      sess := (s.seam.sess.set k { s.seam.sess[k] with win := { s.seam.sess[k].win with
        fetching := false
        fetched := spaceRead s s.seam.sess[k].win.space.toNat s.seam.sess[k].win.addr.toNat } }) } }) ∧
  (∀ (n : Fin 4) (a : Nat) (d : Word) (holder : Party) (copy : Bool) (s : State), a < 65536 →
    s.win[n].writing = some (0x100000 + a, d) → s.store.session = some (holder, copy) →
    (mayStore s 2 = true →
      ∃ w : Window, w.writing = none ∧ w.addr = s.win[n].addr ∧ w.count = s.win[n].count ∧
        exec (.windowWriteDone (.port n) true) s = .next { s with
          win := s.win.set n w, store := { s.store with mem := s.store.mem.put (slotBase copy + a) d } }) ∧
    (storeOut s = false → mayStore s 2 = false → exec (.windowWriteDone (.port n) true) s = .next s) ∧
    (storeOut s = true → ∃ w : Window, w.writing = none ∧
      exec (.windowWriteDone (.port n) true) s = .next { s with win := s.win.set n w })) ∧
  ∀ (n : Fin 4) (a : Nat) (d : Word) (ok : Bool) (s : State), bakAlive s = true → a < 0x100 →
    s.win[n].writing = some (0x110000 + a, d) →
    ∃ w : Window, w.writing = none ∧
      exec (.windowWriteDone (.port n) ok) s = .next { s with
        win := s.win.set n w, bak := { s.bak with ram := s.bak.ram.put a d } }

/-! ### Commit (07 7.5) -/

/-- 07 R253, R254, 03 R99: a COMMIT or CHECK starts the fit check, a REVERT the copy back; while one runs, each is
BUSY. Bits [15:2] do not matter. -/
def Obligations.CommitCommandsStart : Prop :=
  ∀ (tag : BitVec 4) (u : BitVec 14) (s : State), running s = true →
    (s.cfg.state = .idle →
      exec (.commit tag u) s = .next (written tag s { s with cfg := { s.cfg with state := .checking true } }) ∧
      exec (.check tag u) s = .next (written tag s { s with cfg := { s.cfg with state := .checking false } }) ∧
      exec (.revert tag u) s = .next (written tag s { s with cfg := { s.cfg with state := .reverting } })) ∧
    (s.cfg.state ≠ .idle →
      exec (.commit tag u) s = .next (turnedAway .busy tag s) ∧ exec (.check tag u) s = .next (turnedAway .busy tag s) ∧
      exec (.revert tag u) s = .next (turnedAway .busy tag s))

/-- 07 R255, R256, R258, R259: the end of a fit check shows its result and sets COMMITDONE; only a passed COMMIT goes
on, with the shadow as the pending configuration; a REVERT ends with the running configuration in the shadow. -/
def Obligations.FitCheckAndRevertEnd : Prop :=
  (∀ (apply : Bool) (s : State), s.cfg.state = .checking apply → ∃ c : ConfigMem,
    exec .fitCheckDone s = .next { s with
      cfg := c, host := { s.host with sysStat := setBit s.host.sysStat 3 } } ∧
    c.fitRes = (fitCheck s).word ∧ c.fitDetail = BitVec.ofNat 16 (fitCheck s).detail ∧
    c.fitMargin = (fitCheck s).margin ∧ c.lastPass = ((fitCheck s).code == 0) ∧
    c.shadow = s.cfg.shadow ∧ c.running = s.cfg.running ∧ c.live = s.cfg.live ∧ c.seq = s.cfg.seq ∧
    (apply = true → (fitCheck s).code = 0 →
      c.state = .applying ∧ c.pending = s.cfg.shadow ∧ c.dirty = false ∧ c.tablePending = true) ∧
    (apply = false ∨ (fitCheck s).code ≠ 0 →
      c.state = .idle ∧ c.pending = s.cfg.pending ∧ c.dirty = s.cfg.dirty ∧ c.tablePending = s.cfg.tablePending)) ∧
  ∀ s : State, s.cfg.state = .reverting → exec .revertDone s = .next { s with
    cfg := { s.cfg with shadow := s.cfg.running, dirty := false, state := .idle } }

/-- 07 R256, R257, 19 R666: COMMIT_APPLY completes in every state. While STATE is APPLYING the pending configuration
comes to run for everything that belongs to no axis, and for every waiting axis whose carrier is stopped, with its
advance table; an axis whose carrier runs goes on waiting; the shadow, the live words, the fuses and the gate side stay.
With no axis left to wait for, STATE is IDLE, SEQ counts and CFGCRC is that of the new configuration. Outside APPLYING
nothing happens. -/
def Obligations.CommitAppliesTheTable : Prop :=
  (∀ s : State, s.cfg.state = .applying → s.cfg.running.wf → s.cfg.pending.wf →
    ∃ t, exec .commitApply s = .next t ∧
      t = { s with
        cfg := t.cfg, boot := t.boot, stitch := t.stitch, src := t.src, paceFrac := t.paceFrac, mains := t.mains
        axes := t.axes, fb := t.fb, cnv := t.cnv, pin := t.pin, seam := t.seam, flt := t.flt, store := t.store
        bak := t.bak } ∧
      t.boot = { s.boot with committed := s.boot.committed || s.cfg.tablePending } ∧
      t.cfg.tablePending = false ∧ t.cfg.shadow = s.cfg.shadow ∧ t.cfg.pending = s.cfg.pending ∧
      t.cfg.live = s.cfg.live ∧ t.pin.latch = s.pin.latch ∧
      (∀ k, keyAxis k = none →
        t.cfg.running.get k = (if s.cfg.tablePending then s.cfg.pending else s.cfg.running).get k) ∧
      (∀ n : Fin 8, t.cfg.axesPending.getLsbD n.val = (s.cfg.axesPending.getLsbD n.val && carrierOn s n)) ∧
      (∀ n : Fin 8, s.cfg.axesPending.getLsbD n.val = true → carrierOn s n = false →
        t.cfg.advTab[n] = s.cfg.pending.filter (fun c => c.1 / 65536 == 3) ∧
        ∀ k, keyAxis k = some n.val → t.cfg.running.get k = s.cfg.pending.get k) ∧
      (∀ n : Fin 8, s.cfg.axesPending.getLsbD n.val = false ∨ carrierOn s n = true →
        t.cfg.advTab[n] = s.cfg.advTab[n] ∧
        ∀ k, keyAxis k = some n.val → t.cfg.running.get k = s.cfg.running.get k) ∧
      ((∀ n : Fin 8, s.cfg.axesPending.getLsbD n.val = true → carrierOn s n = false) →
        t.cfg.state = .idle ∧ t.cfg.seq = s.cfg.seq + 1 ∧ t.cfg.cfgCrc = cfgCrcOf t.cfg.running) ∧
      ((∃ n : Fin 8, s.cfg.axesPending.getLsbD n.val = true ∧ carrierOn s n = true) →
        t.cfg.state = .applying ∧ t.cfg.seq = s.cfg.seq)) ∧
  ∀ s : State, s.cfg.state ≠ .applying → exec .commitApply s = .next s

/-- Only a commit's boundary, an axis at its period start or at the resync that takes place as a cycle ends, a probe, or a
power-state change alters the running configuration of a module that runs on (07 R248, R256; the words the
hardware itself writes, 06 R221). -/
def Obligations.RunningConfigurationChangesOnlyAtCommits : Prop :=
  ∀ (c : Instr) (s t : State), exec c s = .next t → running s = true → running t = true →
    (∀ n, c ≠ .carrierPeriodStart n) → (∀ n, c ≠ .probeAttemptEnd n) → (∀ l, c ≠ .powerTransitionDone l) →
    c ≠ .commitApply →
    (c = .angleEngineStep → (∀ n : Fin 8, s.axes[n].car.resyncDue = false) ∧
      ∀ l x a, laneAction s l = some (x, a) → x.fresh = false → a.code ≠ 0x0B) →
    t.cfg.running = s.cfg.running

/-! ### Power, reset, boot (01 1.6, 04 4.1) -/

/-- 01 R34, R35, 02 R76: an accepted request of a power state makes it the target; it is STOPPED_ONLY while an axis is
not at rest, BUSY during a transition, GUARDED without the armed key. -/
def Obligations.PowerRequestsSetTarget : Prop :=
  ∀ (tag : BitVec 4) (s : State), running s = true →
    let sent := [(1, PState.run, exec (.powerRequestRun tag) s), (2, .standby, exec (.powerRequestStandby tag) s),
      (3, .sleep, exec (.powerRequestSleep tag) s)]
    (s.host.key = some .output → s.power.target = none →
      ∀ x ∈ sent, (x.2.1 = .run ∨ ∀ n, (axSt s n).atRest = true) → x.2.2 = .next (written tag s { s with
        power := { s.power with
          pwrReq := x.1, target := if x.2.1 = s.power.pstate then none else some x.2.1 } })) ∧
    (s.host.key = some .output → (∃ n, (axSt s n).atRest = false) →
      ∀ x ∈ sent, x.2.1 ≠ .run → x.2.2 = .next (turnedAway .stoppedOnly tag s)) ∧
    (s.host.key = some .output → s.power.target.isSome = true → (∀ n, (axSt s n).atRest = true) →
      ∀ x ∈ sent, x.2.2 = .next (turnedAway .busy tag s)) ∧
    (s.host.key ≠ some .output → ∀ x ∈ sent, x.2.2 = .next (guardedAway 2 tag s))

/-- 01 R35-R37, 02 Table 2.10, 08 R276, 09 R318, 13 R466, 14 R501, R503, 16 R577, 17 R621, R625: POWER_TRANSITION_DONE
completes in every state: a transition in progress ends in its target with PSTATEDONE set. The entry of STANDBY changes
nothing else; that of SLEEP stops the Seam ports, the converters and the gate supplies, holds the pads that are not
active and starts the movement watch; that of RUN releases the pads, lets the carriers run and reports the alarms of
SLEEP; leaving SLEEP runs the self-tests, and a unit that fails is lasting. -/
def Obligations.PowerTransitionReachesItsTarget : Prop :=
  (∀ (tests : List SelfTest) (s : State) (p : PState), running s = true → s.power.target = some p →
    let at_ := { s with
      power := { s.power with pstate := p, target := none }
      host := { s.host with sysStat := setBit s.host.sysStat 5 } }
    (∃ t, exec (.powerTransitionDone tests) s = .next t ∧ t = { at_ with
        free := t.free, cfg := t.cfg, src := t.src, axes := t.axes, supply := t.supply, fb := t.fb, cnv := t.cnv
        pin := t.pin, seam := t.seam, flt := t.flt, store := t.store, bak := t.bak } ∧
      t.pin.latch = s.pin.latch ∧ t.store.mem = s.store.mem ∧
      (p ≠ .sleep → t.supply = s.supply ∧ t.seam = { s.seam with gang := t.seam.gang }) ∧
      (s.power.pstate = .sleep → p ≠ .sleep → ∀ x ∈ tests, x.unit ∈ selfTestUnits s →
        testPasses s x.unit (testCode x.unit) x.run = false → isLasting t x.unit = true) ∧
      (p = .run → t.bak.toLog = (if bakAlive s then 0 else s.bak.toLog) ∧
        t.pin = if backupHold s then s.pin else { s.pin with held := 0 })) ∧
    (p = .standby → s.power.pstate ≠ .sleep → exec (.powerTransitionDone tests) s = .next at_) ∧
    (p = .sleep → s.power.pstate ≠ .sleep → ∃ t, exec (.powerTransitionDone tests) s = .next t ∧
      t = { at_ with seam := t.seam, pin := t.pin, bak := t.bak, cnv := t.cnv, supply := State.reset.supply } ∧
      (∀ k : Fin 4, t.seam.ports[k].up = false) ∧
      t.cnv = { s.cnv with sar := Vector.replicate 16 resetSar } ∧
      (∀ i < 64, t.pin.held.getLsbD i = !activePin s i) ∧
      backupKept { s.bak with ref := if bakAlive s then watchCount s.bak else s.bak.ref } t)) ∧
  ∀ (tests : List SelfTest) (s : State), running s = false ∨ s.power.target = none →
    exec (.powerTransitionDone tests) s = .next s

/-- 04 Table 4.1, R116, R118-R121: each reset event starts a boot, with its cause; gates lose their drive, registers
and configuration hold reset values, and OTP, store and backup domain stay. RSTN low for 1 us or more resets, for less
than 100 ns never; in between either may happen, and without supplies RSTN does nothing. -/
def Obligations.ResetsEnterBoot : Prop :=
  ∀ s : State,
    let kept := fun (t : State) => (∀ w ∈ allWindows s, w.writing = none) → backupKept s.bak t
    (∀ x ∈ [(exec .coreRailFault s, (4 : BitVec 4)), (exec (.supervisorDomainCheck false) s, 6)],
      running s = true ∨ s.power.phase = .boot →
        ∃ t, x.1 = .next t ∧ resetBy s t (s.power.causes ||| 4) ∧ kept t ∧ t.power.reason = x.2) ∧
    (∀ x ∈ [(exec .watchdogTimeout s, (1 : BitVec 4)), (exec .watchdogEarlyService s, 2)], awake s = true →
      ∃ t, x.1 = .next t ∧ resetBy s t (s.power.causes ||| 4) ∧ kept t ∧ t.power.reason = x.2) ∧
    (s.power.phase = .boot →
      ∃ t, exec .bootWatchTimeout s = .next t ∧ resetBy s t (s.power.causes ||| 4) ∧ kept t ∧ t.power.reason = 3) ∧
    (∀ tag : BitVec 4, running s = true → s.host.key = some .output → ∃ t, exec (.hostReset tag) s = .next t ∧
      resetBy s t (s.power.causes ||| 8) ∧ kept t ∧ t.power.reason = s.power.reason) ∧
    (∀ low : Bool, s.power.phase = .off →
      ∃ t, exec (.powerOnReset low) s = .next t ∧ resetBy s t (s.power.causes ||| if low then 3 else 1) ∧
        t.power.vaux = true ∧ t.power.vio = true ∧
        ((∀ w ∈ allWindows s, w.writing = none) →
          if s.power.vbak then backupKept { s.bak with rtc := t.bak.rtc } t else t.bak = resetBackup)) ∧
    (s.power.phase = .backup →
      ∃ t, exec .backupEnd s = .next t ∧ resetBy s t (s.power.causes ||| 16) ∧ t.power.vaux = true ∧
        t.power.vio = true ∧
        ((∀ w ∈ allWindows s, w.writing = none) → backupKept { s.bak with rtc := t.bak.rtc } t)) ∧
    ∀ low : Nat,
      (low < 100 ∨ s.power.phase = .off ∨ s.power.phase = .backup → exec (.rstnReset low) s = .next s) ∧
      (running s = true ∨ s.power.phase = .boot →
        (1000 ≤ low → ∃ t, exec (.rstnReset low) s = .next t ∧ resetBy s t (s.power.causes ||| 2) ∧ kept t ∧
          t.power.reason = s.power.reason) ∧
        (100 ≤ low → low < 1000 → exec (.rstnReset low) s = .next { s with free := s.free + 1 } ∨
          ∃ t, exec (.rstnReset low) s = .next t ∧ resetBy s t (s.power.causes ||| 2)))

/-- 01 R39, 04 R121, 14 R501, 17 R594, R613: SUPPLY_LOSS takes the module to BACKUP where VBAK is present, its pads held,
and powers it down where it is not; no gate is driven, and the work of the OTP block and of the record store is
dropped. Without VBAK the backup domain is gone, with the reset causes and the held pads it alone kept, and starts
again with VBAK. -/
def Obligations.SupplyLossEntersBackup : Prop :=
  (∀ (r : Rail) (s : State), running s = true →
    let power := { s.power with vaux := s.power.vaux && r != Rail.vaux, vio := s.power.vio && r != Rail.vio, target := none }
    ∃ t, exec (.supplyLoss r) s = .next t ∧
      (∀ n leg high, gateOn t n leg high = false) ∧
      t.otp.op = none ∧ t.otp.dataPhase = none ∧ t.otp.fetching = false ∧
      (s.otp.op = none → t.otp.cells = s.otp.cells ∧ t.otp.spares = s.otp.spares ∧ t.otp.redir = s.otp.redir) ∧
      (storeQuiet s → t.store.mem = s.store.mem ∧ (s.otp.op = none → t.free = s.free)) ∧
      (s.power.vbak = true →
        t = { s with
          free := t.free, pin := t.pin, otp := t.otp
          power := { power with phase := .backup }
          store := { s.store with op := none, waiting := [], session := none, mem := t.store.mem }
          flt := { s.flt with cache := [] }, bak := t.bak } ∧
        backupKept { s.bak with ref := watchCount s.bak } t ∧ t.pin.latch = s.pin.latch ∧ ∀ i < 64, t.pin.held.getLsbD i = !activePin s i) ∧
      (s.power.vbak = false →
        t = { s with
          free := t.free, otp := t.otp
          power := { power with phase := .off, causes := 0 }
          store := { s.store with op := none, waiting := [], session := none, mem := t.store.mem }
          flt := { s.flt with cache := [] }, pin := { s.pin with held := 0 }, boot := { s.boot with rstCause := 0 } })) ∧
  (∀ (r : Rail) (s : State), s.power.phase = .backup ∨ s.power.phase = .off →
    exec (.supplyLoss r) s = .next { s with power := { s.power with
      vaux := s.power.vaux && r != Rail.vaux, vio := s.power.vio && r != Rail.vio } }) ∧
  (∀ s : State, s.power.phase = .run ∨ s.power.phase = .boot →
    exec .vbakLoss s = .next { s with power := { s.power with vbak := false } }) ∧
  (∀ s : State, s.power.phase = .backup ∨ s.power.phase = .off → exec .vbakLoss s = .next { s with
    power := { s.power with vbak := false, phase := .off, causes := 0 }, boot := { s.boot with rstCause := 0 }
    pin := { s.pin with held := 0 } }) ∧
  (∀ s : State, s.power.vbak = false → exec .backupDomainRestart s = .next { s with
    power := { s.power with vbak := true }, bak := resetBackup }) ∧
  ∀ s : State, s.power.vbak = true → exec .backupDomainRestart s = .next s

/-- 04 R121, R123, R135, R136, R139, 05 R682, 13 R464, R592: BOOT_START completes in every state. In boot it runs the
steps: to the end it closes the boot gate, with the module in RUN, its reset causes in SYS_RSTCAUSE, the rows that
failed and have no redirection found, the life cycle of the fuses in SYS_LIFE, the protection set-up of its base where
nothing is staged and, where the store holds no record, the pairs of OTP region 1; fuses, windows and backup
registers stay. Standing in a step, it is still in boot. Outside boot nothing happens. How far it runs, and that an
unreadable row leaves every pair of region 1 blank, are the model's choices (log entries 82 and 81). -/
def Obligations.BootClosesTheGate : Prop :=
  (∀ (env : BootEnv) (s : State), s.power.phase = .boot → s.boot.step = 0 → 8 ≤ env.stopAt →
    let bad := (List.range 256).filter fun row => env.badRows.contains row && (spareOf s.otp row).isNone
    let region := fun (r : Nat) => bad.any fun row => row / 16 == r
    ∃ t, exec (.bootStart env) s = .next t ∧
      t = { s with
        free := t.free, power := t.power, host := { s.host with sysStat := 0 }, cfg := t.cfg, boot := t.boot
        src := t.src, axes := t.axes, supv := t.supv, fb := t.fb, flt := t.flt, store := t.store, bak := t.bak
        proof := t.proof, cnv := t.cnv } ∧
      t.power = { s.power with phase := .run, pstate := .run, causes := 0, reason := 0 } ∧
      t.boot.rstCause = s.boot.rstCause ||| s.power.causes ∧ t.boot.step = 0 ∧ t.bak.ram = s.bak.ram ∧
      t.boot.badRows = bad ∧ t.boot.lifeLost = region 6 ∧
      (region 6 = true → t.boot.life = 0xC) ∧
      (region 6 = false → t.boot.life.extractLsb' 0 3 = BitVec.ofNat 3 (lifeOf (otpRaw s.otp 0x0C00))) ∧
      (region 7 = true ∨ stagedCopy s = none →
        t.boot.setup = (setupBase { s with boot := { s.boot with badRows := bad } }).1) ∧
      (bankWinner s.store.mem = none →
        t.cnv.coef = if region 1 then blankCoef else otpCoef s.otp)) ∧
  (∀ (env : BootEnv) (s : State), s.power.phase = .boot → s.boot.step ≤ env.stopAt → env.stopAt < 8 →
    ∃ t, exec (.bootStart env) s = .next t ∧ t.power.phase = .boot ∧ t.boot.step = env.stopAt ∧ t.otp = s.otp ∧
      ∀ n leg high, gateOn t n leg high = false) ∧
  ∀ (env : BootEnv) (s : State), s.power.phase ≠ .boot → exec (.bootStart env) s = .next s

/-- 16 R578-R580, 13 R472: supervisor trips come and go by their measured value, in boot too, readings take what was
measured, silent domains that are expected to beat are named, and one the whole module needs trips at once; each writes
nothing but its own parts. That this decision shows REASON 5 is the model's choice (log entry 65). -/
def Obligations.SupervisorDecisions : Prop :=
  (∀ s : State, supplied s = true → s.supv.vauxTrip = false → ∃ t, exec .vauxHighTrip s = .next t ∧
    t = { s with supv := t.supv, flt := t.flt, axes := t.axes, store := t.store } ∧
    t.supv = { s.supv with vauxTrip := true, reason := 7 } ∧ t.flt.stat.getLsbD 6 = true ∧ supvTrip t = true) ∧
  (∀ s : State, exec .vauxHighRelease s = .next { s with supv := { s.supv with vauxTrip := false } }) ∧
  (∀ s : State, supplied s = true → s.supv.tempTrip = false → 1250 < s.supv.temp.toInt →
    ∃ t, exec .temperatureTrip s = .next t ∧
      t = { s with supv := t.supv, flt := t.flt, axes := t.axes, store := t.store } ∧
      t.supv = { s.supv with tempTrip := true, reason := 8 } ∧ t.flt.stat.getLsbD 6 = true ∧ supvTrip t = true) ∧
  (∀ s : State, s.supv.temp.toInt < 1150 →
    exec .temperatureRelease s = .next { s with supv := { s.supv with tempTrip := false } }) ∧
  (∀ s : State, s.supv.temp.toInt ≤ 1250 → exec .temperatureTrip s = .next s) ∧
  (∀ s : State, 1150 ≤ s.supv.temp.toInt → exec .temperatureRelease s = .next s) ∧
  (∀ (a b c : Word) (s : State), supplied s = true → c.toNat ≤ 2400 →
    exec (.supervisorMonitorConversion a b c) s = .next { s with
      supv := { s.supv with temp := a, vaux := b, vbak := c } }) ∧
  (∀ s : State, exec (.supervisorDomainCheck true) s = .next s) ∧
  (∀ (p : Fin 2) (s : State), supplied s = true → (if p = 0 then s.sto.hw1 else s.sto.hw2) = s.sto.input p →
    isLasting s stoUnit = false → ∃ t, exec (.stoPathCheckFail p) s = .next t ∧
      t = { s with supv := t.supv, flt := t.flt, axes := t.axes } ∧ t.supv = { s.supv with reason := 9 } ∧
      isLasting t stoUnit = true ∧ ∀ n : Fin 8, axSt t n = .off ∨ axSt t n = .latched) ∧
  (∀ s : State, exec (.heartbeatCheck []) s = .next s) ∧
  (∀ (i : Nat) (s : State), supplied s = true → i < 216 → domainExpected s i = false ∨ isLasting s ⟨11, i⟩ = true →
    exec (.heartbeatCheck [i]) s = .next s) ∧
  ∀ (i : Nat) (s : State), supplied s = true → i < 216 → domainExpected s i = true → isLasting s ⟨11, i⟩ = false →
    ∃ t, exec (.heartbeatCheck [i]) s = .next t ∧
      t = { s with supv := t.supv, flt := t.flt, axes := t.axes, store := t.store } ∧
      t.supv.domain = BitVec.ofNat 8 i ∧ t.supv.domDead = false ∧ t.supv.domValid = true ∧
      (systemDomain i = false → t.axes = s.axes ∧ t.store = s.store ∧ t.supv.domTrip = s.supv.domTrip) ∧
      (systemDomain i = true → t.supv.domTrip = true ∧ (s.supv.domTrip = false → t.supv.reason = 5))

/-! ### Axis control (chapters 08, 09, 10) -/

/-- 10 Table 10.6, R378, 11 R396, 00 R18: EN written waits for the next period start while the carrier runs, but EN 0
clears the brake release and ends a probe at once; with the carrier stopped an axis in OFF whose bridge is enabled and
sound becomes READY; a page of another owner is NOT_OWNER. That a live register takes effect at once with the carrier
stopped, and which EN a period start acts on, are the model's choices (log entries 13 and 36). -/
def Obligations.AxisEnableAndDisable : Prop :=
  ∀ (tag : BitVec 4) (n : Fin 8) (s : State), running s = true →
    let a := s.axes[n]
    (mayWriteGroup s .host (7 + n.val) = true → carrierOn s n = true →
      exec (.axisEnable tag n) s = .next (written tag s (withAxis n
        { a with acc := { a.acc with en := true }, enWritten := true } s)) ∧
      (isMember s n = false → a.st ≠ .probe → exec (.axisDisable tag n) s = .next (written tag s (withAxis n
        { a with
          acc := { a.acc with en := false }, enWritten := true, brake := false
          stat := if a.brake then setBit a.stat 5 else a.stat } s))) ∧
      (isMember s n = false → a.st = .probe → ∃ t, exec (.axisDisable tag n) s = .next (written tag s t) ∧
        t = { s with axes := t.axes } ∧ t.axes[n].st = .off ∧ t.axes[n].acc.en = false ∧ t.axes[n].brake = false ∧
        t.axes[n].probe.running = false ∧ (a.probe.running = true → t.axes[n].probe.outcome = 5) ∧
        ∀ leg high, gateOn t n leg high = false)) ∧
    (mayWriteGroup s .host (7 + n.val) = true → carrierOn s n = false → isMember s n = false → a.st = .off →
      a.brake = false →
      exec (.axisDisable tag n) s = .next (written tag s (withAxis n
        { a with acc := { a.acc with en := false }, eff := { a.eff with en := false } } s)) ∧
      (bridgeOn s n = true → (∀ m, axFault s m = 0) → (∀ m c, sourceActive s m c = false) →
        ∃ t, exec (.axisEnable tag n) s = .next (written tag s t) ∧ t = { s with axes := t.axes } ∧
          t.axes[n].st = .ready ∧ t.axes[n].acc.en = true ∧ t.axes[n].eff.en = true)) ∧
    (mayWriteGroup s .host (7 + n.val) = false →
      exec (.axisEnable tag n) s = .next (turnedAway .notOwner tag s) ∧
      exec (.axisDisable tag n) s = .next (turnedAway .notOwner tag s))

/-- 10 Table 10.4, R382, 08 R294: the requests of AX_RUN take an axis along its state machine: START and PROBE from
READY, START from a STOPPING that is not forced, from HOLD and from the GANGSTOP of a formed gang, STOP and HOLD from
RUN, STOP from HOLD and GANGSTOP; a member's page discards them (in STANDBY and SLEEP too, the model's reading, log entry
86). -/
def Obligations.RunRequestsMoveTheAxis : Prop :=
  ∀ (tag : BitVec 4) (n : Fin 8) (s : State), running s = true → mayWriteGroup s .host (7 + n.val) = true →
    (isMember s n = true → ∀ c ∈ [Instr.axRunStart tag n, .axRunStop tag n, .axRunHold tag n, .axRunProbe tag n],
      exec c s = .next (written tag s s)) ∧
    (isMember s n = false → bridgeOn s n = false →
      exec (.axRunStart tag n) s = .next (turnedAway .stoppedOnly tag s) ∧
      exec (.axRunProbe tag n) s = .next (turnedAway .stoppedOnly tag s)) ∧
    (isMember s n = false → bridgeOn s n = true → s.power.pstate = .run → axisTesting s n = false →
      s.axes[n].st = .ready → s.axes[n].drv.ending = false → (∀ m c, sourceActive s m c = false) →
      (runBlocked s n true = false → s.axes[n].drv.cmdLost = false →
        ∃ t, exec (.axRunStart tag n) s = .next (written tag s t) ∧ t = { s with axes := t.axes, store := t.store } ∧
          (isDirect s n = true → t.axes[n].st = .run) ∧
          (isDirect s n = false → t.axes[n].st = .start ∨ t.axes[n].st = .probe)) ∧
      (runBlocked s n false = false →
        ∃ t, exec (.axRunProbe tag n) s = .next (written tag s t) ∧ t = { s with axes := t.axes } ∧
          t.axes[n].st = .probe ∧ t.axes[n].probe.running = true ∧ t.axes[n].probe.attempt = 1 ∧
          t.axes[n].probe.thenStart = false)) ∧
    (isMember s n = false → bridgeOn s n = true → s.power.pstate = .run → axisTesting s n = false →
      (s.axes[n].st = .stopping ∧ s.axes[n].forced = false) ∨ s.axes[n].st = .hold ∨
        (s.axes[n].st = .gangstop ∧ gangFormed s = true) → runBlocked s n true = false →
      ∃ t, exec (.axRunStart tag n) s = .next (written tag s t) ∧ t = { s with axes := t.axes, store := t.store } ∧
        t.axes[n].st = .run ∧ t.axes[n].drv.stop = .none ∧ t.axes[n].drv.ending = false) ∧
    (isMember s n = false → ∀ stop : StopKind, ∀ c : Instr,
      (stop = .stop ∧ c = .axRunStop tag n ∧
        (s.axes[n].st = .run ∧ isDirect s n = false ∨ s.axes[n].st = .hold ∨ s.axes[n].st = .gangstop)) ∨
      (stop = .hold ∧ c = .axRunHold tag n ∧ s.axes[n].st = .run) →
      ∃ t, exec c s = .next (written tag s t) ∧ t = { s with axes := t.axes } ∧ t.axes[n].st = .stopping ∧
        (s.axes[n].drv.ending = false → t.axes[n].drv.stop = stop))

/-- 00 R18, 08 R273-R275, R283, R294, R297, R299, 03 R105: AX_IRQEN, AX_CMD, AX_PRETQ, AX_ILIM, AX_PER, a compare of a
DIRECT axis and AX_FORCE take their value, in effect from the next period; a period that breaks the rules is
REFUSED_ACTIVE, one while a check runs or the axis has words waiting BUSY, a compare outside DIRECT discarded. That a
member's AX_PER is discarded during a check too is the model's reading (log entry 86). -/
def Obligations.CarrierRegistersTakeWrites : Prop :=
  ∀ (tag : BitVec 4) (n : Fin 8) (leg : Fin 3) (d : Word) (s : State), running s = true →
    mayWriteGroup s .host (7 + n.val) = true → carrierOn s n = true →
    let a := s.axes[n]
    let put := fun o : Nat =>
      let x := BitVec.ofNat 9 (0x100 + 32 * n.val + o)
      exec (.registerWrite tag 0 x d (frameCrc (requestHead true x 0 tag d))) s
    let live := fun r : LiveRegs => Host.Outcome.next (written tag s (withAxis n { a with acc := r } s))
    put 0x03 = live { a.acc with irqEn := d.extractLsb' 0 6 } ∧ put 0x04 = live { a.acc with cmd := d } ∧
    put 0x06 = live { a.acc with preTq := d } ∧ put 0x0F = live { a.acc with ilim := d.extractLsb' 0 15 } ∧
    (isMember s n = false → (∀ b, s.cfg.state ≠ .checking b) → s.cfg.axesPending.getLsbD n.val = false →
      (perRefused s n d = false → exec (.axPerWrite tag n d) s = .next (written tag s (withAxis n
        { a with acc := { a.acc with per := d } } s))) ∧
      (perRefused s n d = true → exec (.axPerWrite tag n d) s = .next (turnedAway .refusedActive tag s))) ∧
    (isMember s n = false → perRefused s n d = false →
      (∃ b, s.cfg.state = .checking b) ∨ s.cfg.axesPending.getLsbD n.val = true →
      exec (.axPerWrite tag n d) s = .next (turnedAway .busy tag s)) ∧
    (isMember s n = true → exec (.axPerWrite tag n d) s = .next (written tag s s)) ∧
    (isMember s n = false → isDirect s n = true → exec (.axCmpWrite tag n leg d) s = .next (written tag s (withAxis n
      { a with acc := { a.acc with cmp := a.acc.cmp.set leg d } } s))) ∧
    (isMember s n = true ∨ isDirect s n = false → exec (.axCmpWrite tag n leg d) s = .next (written tag s s)) ∧
    (s.host.key = some .output → forceBad d = false →
      (codesOn d = true → axSt s n = .ready ∧ s.power.pstate = .run ∧ axisTesting s n = false) →
      exec (.axForceWrite tag n d) s = .next (written tag s (withAxis n
        { a with acc := { a.acc with force := d.extractLsb' 0 12 } } s))) ∧
    (s.host.key = some .output → forceBad d = true → codesOn d = false →
      exec (.axForceWrite tag n d) s = .next (turnedAway .refusedActive tag s)) ∧
    (s.host.key ≠ some .output → exec (.axForceWrite tag n d) s = .next (guardedAway 2 tag s))

/-- 09 R329, R331, R333, Table 9.12: a trip is cleared from the next period start once its sources have been quiet for
10 us, DSMAP and EXTMAP of the group with its acceptance, and AX_TRIPCLR is REFUSED_ACTIVE before that; without a running
carrier it is cleared at once (the model's choice, log entry 13). At the period start every bridge of the group leaves its
trip action and the axis is READY, OFF with EN 0. Quiet sources leave the group's bridges inactive. -/
def Obligations.TripsClearWhenQuiet : Prop :=
  (∀ (tag : BitVec 4) (n : Fin 8) (s : State), running s = true → mayWriteGroup s .host (7 + n.val) = true →
    s.host.key = some .output →
    (isMember s n = true → exec (.tripClear tag n) s = .next (written tag s s)) ∧
    (isMember s n = false →
    (s.axes[n].st = .tripped → tripBusy s n = false → carrierOn s n = true → ∃ t,
      exec (.tripClear tag n) s = .next (written tag s t) ∧ t = { s with axes := t.axes } ∧
      ∀ m : Fin 8, t.axes[m] = if m ∈ groupOf s n then { s.axes[m] with trip := { s.axes[m].trip with
        dsMap := 0, extMap := 0, clearing := m == n || s.axes[m].trip.clearing } } else s.axes[m]) ∧
    (s.axes[n].st = .tripped → tripBusy s n = false → carrierOn s n = false → ∃ t,
      exec (.tripClear tag n) s = .next (written tag s t) ∧ t = { s with axes := t.axes } ∧
      t.axes[n].trip.held = false ∧ t.axes[n].st = if s.axes[n].eff.en then .ready else .off) ∧
    (s.axes[n].st = .tripped → tripBusy s n = true →
      exec (.tripClear tag n) s = .next (turnedAway .refusedActive tag s)) ∧
    (s.axes[n].st = .latched → exec (.tripClear tag n) s = .next (turnedAway .refusedActive tag s)) ∧
    (s.axes[n].st ≠ .tripped → s.axes[n].st ≠ .latched → exec (.tripClear tag n) s = .next (written tag s s)))) ∧
  (∀ (n : Fin 8) (s : State), carrierOn s n = true → isMember s n = false → s.cfg.axesPending.getLsbD n.val = false →
    s.axes[n].car.resync = false → s.axes[n].st = .tripped → s.axes[n].trip.clearing = true →
    s.axes[n].enWritten = false → (∀ m ∈ groupOf s n, anySource s m = false) →
    ∃ t, exec (.carrierPeriodStart n) s = .next t ∧ t = { s with axes := t.axes, store := t.store } ∧
      t.axes[n].st = (if s.axes[n].eff.en then .ready else .off) ∧
      ∀ m ∈ groupOf s n, t.axes[m].trip.held = false ∧ t.axes[m].trip.first = 0 ∧ t.axes[m].trip.clearing = false) ∧
  ∀ (n : Fin 8) (s : State),
    ((∃ m ∈ groupOf s n, anySource s m = true) → exec (.tripSourceQuiet n) s = .next s) ∧
    ((∀ m ∈ groupOf s n, anySource s m = false) → ∃ t, exec (.tripSourceQuiet n) s = .next t ∧
      t = { s with axes := t.axes } ∧ ∀ m : Fin 8, t.axes[m] =
        if m ∈ groupOf s n then { s.axes[m] with trip := { s.axes[m].trip with active := false } } else s.axes[m])

/-! ### Faults and tests (chapter 16) -/

/-- 16 R573-R576: FLT_ACK and STEST_REQ complete: an acknowledgement queues the re-test of a lasting unit, a request the
test of a unit that may be tested at any time or whose bridges are enabled and at rest, and takes its axis from READY to
TEST; bit 15 at 0 asks for nothing. A unit that does not exist is BAD_ADDR, one that is not lasting REFUSED_ACTIVE, one
of an axis in motion STOPPED_ONLY, one already queued BUSY. -/
def Obligations.TestRequestsQueueTheirUnit : Prop :=
  ∀ (tag : BitVec 4) (d : Word) (s : State), running s = true → mayWriteGroup s .host 2 = true →
    let u := namedUnit d
    let q := queueOf u
    let still := ∀ n ∈ unitAxes u, bridgeOn s n = true ∧ (axSt s n).atRest = true
    (s.host.key = some .output →
      (bit d 15 = false → exec (.fltAck tag d) s = .next (written tag s s)) ∧
      (bit d 15 = true → u.wf = true → isLasting s u = true → isQueued s u = false →
        ∃ t, exec (.fltAck tag d) s = .next (written tag s t) ∧
          t = { s with flt := t.flt, fb := t.fb, cnv := t.cnv } ∧
          t.flt = { s.flt with queues := t.flt.queues } ∧
          t.flt.queues[q] = s.flt.queues[q] ++
            [{ unit := u, code := testCode u, origin := .ack, proof := false, after := none }] ∧
          ∀ k : Fin 10, k ≠ q → t.flt.queues[k] = s.flt.queues[k]) ∧
      (bit d 15 = true → u.wf = false → exec (.fltAck tag d) s = .next (turnedAway .badAddr tag s)) ∧
      (bit d 15 = true → u.wf = true → isLasting s u = false →
        exec (.fltAck tag d) s = .next (turnedAway .refusedActive tag s)) ∧
      (bit d 15 = true → u.wf = true → isLasting s u = true → isQueued s u = true →
        exec (.fltAck tag d) s = .next (turnedAway .busy tag s))) ∧
    (bit d 15 = false → exec (.stestReq tag d) s = .next (written tag s s)) ∧
    (bit d 15 = true → u.wf = true → testAnytime u = true ∨ still → isQueued s u = false →
      ∃ t, exec (.stestReq tag d) s = .next (written tag s t) ∧
        t = { s with flt := t.flt, axes := t.axes, store := t.store, fb := t.fb, cnv := t.cnv } ∧
        t.flt = { s.flt with
          queues := t.flt.queues, stestReq := d &&& 0x8FFF, stestRes := stestResult u 0 } ∧
        t.flt.queues[q] = s.flt.queues[q] ++
          [{ unit := u, code := testCode u, origin := .host, proof := false, after := none }] ∧
        (∀ k : Fin 10, k ≠ q → t.flt.queues[k] = s.flt.queues[k]) ∧
        ∀ n, testAxis u = some n → axSt s n = .ready → (∀ m c, sourceActive s m c = false) → axSt t n = .test) ∧
    (bit d 15 = true → u.wf = false → exec (.stestReq tag d) s = .next (turnedAway .badAddr tag s)) ∧
    (bit d 15 = true → u.wf = true → testAnytime u = false → ¬ still →
      exec (.stestReq tag d) s = .next (turnedAway .stoppedOnly tag s)) ∧
    (bit d 15 = true → u.wf = true → testAnytime u = true ∨ still → isQueued s u = true →
      exec (.stestReq tag d) s = .next (turnedAway .busy tag s))

/-- 16 R560, R562, R567, R571, R574, 13 R466-R468: TEST_COMPLETE completes: the end of a running test takes it from its
queue; a unit that fails is lasting, and one that is lasting is cleared by a passed re-test alone, one that the host or an
acknowledgement asked for; a SAR or witness converter passes when four conversions at each of the three levels lie
within 12 LSB. A test that does not run, or of another unit, is not ended. -/
def Obligations.TestCompletionLeavesTheQueue : Prop :=
  (∀ (x : Test) (rest : List Test) (run : TestRun) (firstFail : Word) (s : State), x.unit.kind ≤ 10 → mayRun s x.unit = true →
    s.flt.queues[queueOf x.unit] = x :: rest →
    let pass := testPasses s x.unit x.code run
    ∃ t, exec (.testComplete x.unit run firstFail) s = .next t ∧
      t = { s with
        flt := t.flt, axes := t.axes, fb := t.fb, cnv := t.cnv, proof := t.proof, store := t.store
        seam := t.seam } ∧
      (x.unit.kind ≠ 9 → t.seam = s.seam) ∧
      t.flt.queues[queueOf x.unit] = rest ∧ (x.unit, s.now) ∈ t.flt.recent ∧
      (isLasting s x.unit = false → pass = false → isLasting t x.unit = true ∧ t.flt.stat.getLsbD 2 = true) ∧
      (isLasting s x.unit = true → pass = false → isLasting t x.unit = true) ∧
      (isLasting s x.unit = true → pass = true → isLasting t x.unit = !(x.origin == .host || x.origin == .ack))) ∧
  (∀ (u : TestUnit) (run : TestRun) (firstFail : Word) (s : State), isTesting s u = false →
    exec (.testComplete u run firstFail) s = .next s) ∧
  ∀ (j : Fin 16) (code : Word) (run : TestRun) (s : State), testPasses s ⟨2, j.val⟩ code run = true →
    let p := pairAt s (16 * j.val + 10)
    ∃ l, run = .converter l ∧ (∀ i : Fin 3, (l.filter fun r => r.level == i).length = 4) ∧
      ∀ r ∈ l, ((correctCode p (rawCode (dacVoltsAt s (convAxis j) (testLevel r.level.val) + 1024 * r.dev))).1.toNat -
        4 * (testLevel r.level.val).toNat : Int).natAbs ≤ 12

/-! ### Pins (chapter 14) -/

/-- 14 R483, R485, 03 R102, R103, R108: PIN_DATAn loads the latches of its bank, a masked write those of its byte whose
mask bit is 1; a write that would change a latch of another owner is NOT_OWNER and changes none, one that leaves those
latches as they are loads the others. -/
def Obligations.PinWritesLoadLatches : Prop :=
  ∀ (tag : BitVec 4) (b : Fin 4) (hi : Bool) (d : Word) (mask value : BitVec 8) (s : State), running s = true →
    let base := 16 * b.val + if hi then 8 else 0
    let refused := fun (i : Nat) (v : Bool) => mayWritePin s .host i = false ∧ v ≠ s.pin.latch.getLsbD i
    ((∀ i < 16, ¬ refused (16 * b.val + i) (d.getLsbD i)) →
      ∃ l : BitVec 64, exec (.pinDataWrite tag b d) s = .next (written tag s { s with pin := { s.pin with latch := l } }) ∧
        ∀ i < 64, l.getLsbD i = if i / 16 = b.val then d.getLsbD (i % 16) else s.pin.latch.getLsbD i) ∧
    ((∃ i < 16, refused (16 * b.val + i) (d.getLsbD i)) →
      exec (.pinDataWrite tag b d) s = .next (turnedAway .notOwner tag s)) ∧
    ((∀ i < 8, mask.getLsbD i = true → ¬ refused (base + i) (value.getLsbD i)) →
      ∃ l : BitVec 64, exec (.pinMaskedWrite tag b hi mask value) s =
          .next (written tag s { s with pin := { s.pin with latch := l } }) ∧
        ∀ i < 64, l.getLsbD i =
          if i / 8 = base / 8 ∧ mask.getLsbD (i % 8) = true then value.getLsbD (i % 8) else s.pin.latch.getLsbD i) ∧
    ((∃ i < 8, mask.getLsbD i = true ∧ refused (base + i) (value.getLsbD i)) →
      exec (.pinMaskedWrite tag b hi mask value) s = .next (turnedAway .notOwner tag s))

/-- 14 R495, R496: PIN_LOCK locks the pins it names for good; it is REFUSED_ACTIVE while a shadow word of one differs. -/
def Obligations.PinLockLocksItsPins : Prop :=
  ∀ (tag : BitVec 4) (d : Word) (s : State), running s = true → s.host.key = some .pinLock →
    (s.cfg.state = .idle → (∀ p ∈ lockPins d, pinEdited s p = false) → ∃ l : BitVec 64,
      exec (.pinLock tag d) s = .next (written tag s { s with pin := { s.pin with locked := l } }) ∧
      ∀ i < 64, l.getLsbD i = (s.pin.locked.getLsbD i || (i / 8 == bits d 8 3 && d.getLsbD (i % 8)))) ∧
    ((∃ p ∈ lockPins d, pinEdited s p = true) → exec (.pinLock tag d) s = .next (turnedAway .refusedActive tag s))

/-- 14 R480, R489-R492, R502, Table 14.6, 12 R434: levels are sampled and set PIN_IRQ bits as IMODE says, firmware
signals follow the module, a wake pin at its level ends SLEEP, or is recorded in BACKUP, a line fault is shown as long
as it lasts; nothing else of the module changes with them. -/
def Obligations.PinEventsAreSampled : Prop :=
  (∀ (b : Fin 4) (d : Word) (s : State), running s = true → ∃ p : Pins,
    exec (.pinInputChange b d) s = .next { s with pin := p } ∧ p.latch = s.pin.latch ∧ p.locked = s.pin.locked ∧
    p.held = s.pin.held ∧ p.irqEn = s.pin.irqEn ∧
    ∀ i < 64, p.level.getLsbD i = (if i / 16 = b.val then d.getLsbD (i % 16) else s.pin.level.getLsbD i) ∧
      let new := inputLevel { s with pin := { s.pin with level := p.level } } i
      let old := s.pin.sampled.getLsbD i
      let seen := fun m : Nat => if m = 3 then new else if m = 4 then !new else !s.pin.fresh.getLsbD i &&
        (if m = 0 then !old && new else if m = 1 then old && !new else if m = 2 then old != new else false)
      (domainDead s (203 + i / 16) = false → p.sampled.getLsbD i = new ∧ p.fresh.getLsbD i = false ∧
        p.irq.getLsbD i = (s.pin.irq.getLsbD i || (irqCapable s i && seen (imodeOf s i)))) ∧
      (domainDead s (203 + i / 16) = true → p.sampled.getLsbD i = old ∧
        p.fresh.getLsbD i = s.pin.fresh.getLsbD i ∧ p.irq.getLsbD i = s.pin.irq.getLsbD i)) ∧
  (∀ s : State, awake s = true → ∃ v : BitVec 4,
    exec .firmwareSignalUpdate s = .next { s with pin := { s.pin with fw := v } } ∧
    v.getLsbD 0 = (s.flt.stat == 0 && allAxes.all fun n => !axisDown s n) ∧
    v.getLsbD 1 = (s.now / 10000000 % 2 == 1) ∧ v.getLsbD 2 = gangFormed s ∧ v.getLsbD 3 = !timeFree s) ∧
  (∀ (p : Fin 16) (s : State), s.boot.committed = true → bit (padWord s p.val 3) 0 = true →
    inputLevel s p.val = bit (padWord s p.val 3) 1 →
    (running s = true → s.power.pstate = .sleep → s.power.target = none →
      ∃ t, exec (.wakePin p) s = .next t ∧ t = { s with power := t.power, bak := t.bak, free := t.free } ∧
        t.power = { s.power with target := some .run } ∧ t.bak = { s.bak with rtc := t.bak.rtc }) ∧
    (s.power.phase = .backup → s.power.vbak = true →
      ∃ t, exec (.wakePin p) s = .next t ∧ t = { s with bak := t.bak, free := t.free } ∧
        t.bak.stat.getLsbD 1 = true ∧ (p.val < 8 → t.bak.stat.getLsbD (8 + p.val) = true) ∧
        t.bak = { s.bak with rtc := t.bak.rtc, stat := t.bak.stat })) ∧
  (∀ (p : Fin 16) (s : State),
    s.boot.committed = false ∨ bit (padWord s p.val 3) 0 = false ∨ inputLevel s p.val ≠ bit (padWord s p.val 3) 1 →
    exec (.wakePin p) s = .next s) ∧
  (∀ (rx : Fin 16) (s : State), pinDiff s (2 * rx.val) = true → ∃ t, exec (.lineFault rx) s = .next t ∧
    t = { s with
      pin := { s.pin with rxFault := setBit s.pin.rxFault rx.val }
      fb := t.fb, axes := t.axes, flt := t.flt, store := t.store, cnv := t.cnv } ∧
    (∀ n : Fin 8, fbOn s n = true → bit (fbWord s n) 5 = true → usesReceiver s n rx = true →
      t.fb[n].lfCnt = satInc s.fb[n].lfCnt ∧ t.fb[n].stat.getLsbD 1 = true)) ∧
  (∀ (rx : Fin 16) (s : State), pinDiff s (2 * rx.val) = false → exec (.lineFault rx) s = .next s) ∧
  ∀ (rx : Fin 16) (s : State), exec (.lineFaultClear rx) s = .next { s with
    pin := { s.pin with rxFault := clearBit s.pin.rxFault rx.val } }

/-! ### OTP (chapter 05) -/

/-- 05 R165, R166, R168, R169, Table 5.13: the requests of OTP_CMD, with the store key armed and the block idle: PROGRAM
opens a data phase, a data word starts a burn (or none, when nothing changes; CANNOT_CLEAR closes the phase), lock
and advance requests start theirs; every write before the fetch has ended, and every request while a burn runs (PROG 1),
is BUSY (R170); a phase that expires is closed. That a lock request starts a burn where its fuse is burned already is the
model's choice (log entry 61). -/
def Obligations.OtpRequestsStartTheirWork : Prop :=
  (∀ (tag : BitVec 4) (a : BitVec 13) (d : Word) (s : State), running s = true → s.host.key = some .store →
    s.otp.fetching = false → s.otp.op = none → s.otp.dead = false →
    (s.otp.dataPhase = none →
      (wordOpen s a.toNat = true → exec (.otpProgram tag a) s = .next (written tag s { s with
        otp := { s.otp with dataPhase := some a, fetching := true } })) ∧
      (wordOpen s a.toNat = false → exec (.otpProgram tag a) s = .next (guardedAway 5 tag s)) ∧
      (regionOpen s (a.toNat % 16) = true →
        exec (.otpLockWrite tag a) s = .next (written tag s { s with
          otp := { s.otp with op := some (.lockWrite (a.extractLsb' 0 4)) } }) ∧
        exec (.otpLockRead tag a) s = .next (written tag s { s with
          otp := { s.otp with op := some (.lockRead (a.extractLsb' 0 4)) } })) ∧
      (a.toNat % 8 ≤ 4 → lifeNow s < 4 → (a.toNat % 8 = 4 → ∀ n, (axSt s n).atRest = true) →
        (lifeNow s < a.toNat % 8 → exec (.otpAdvance tag a) s = .next (written tag s { s with
          otp := { s.otp with op := some (.advance (a.extractLsb' 0 3)) } })) ∧
        (lifeNow s = a.toNat % 8 → exec (.otpAdvance tag a) s = .next (written tag s { s with
          otp := { s.otp with result := 4 } })) ∧
        (a.toNat % 8 < lifeNow s → exec (.otpAdvance tag a) s = .next (turnedAway .cannotClear tag s)))) ∧
    (s.otp.dataPhase = some a → wordOpen s a.toNat = true →
      (otpRaw s.otp a.toNat = d → exec (.otpDataWord tag d) s = .next (written tag s { s with
        otp := { s.otp with dataPhase := none, result := 4 } })) ∧
      (otpRaw s.otp a.toNat ≠ d → otpRaw s.otp a.toNat &&& ~~~d = 0 →
        exec (.otpDataWord tag d) s = .next (written tag s { s with
          otp := { s.otp with dataPhase := none, op := some (.word a d) } })) ∧
      (otpRaw s.otp a.toNat &&& ~~~d ≠ 0 → exec (.otpDataWord tag d) s = .next (turnedAway .cannotClear tag { s with
        otp := { s.otp with dataPhase := none } })))) ∧
  (∀ (tag : BitVec 4) (a b : BitVec 13) (d : Word) (s : State), running s = true → s.host.key = some .store →
    s.otp.dataPhase = some a → s.otp.fetching = true → wordOpen s a.toNat = true →
    exec (.otpDataWord tag d) s = .next (turnedAway .busy tag s) ∧
    exec (.otpProgram tag b) s = .next (turnedAway .busy tag s)) ∧
  (∀ (tag : BitVec 4) (a : BitVec 13) (s : State), running s = true → s.host.key = some .store →
    s.otp.dataPhase = none → s.otp.op.isSome = true ∨ s.otp.dead = true →
    (wordOpen s a.toNat = true → exec (.otpProgram tag a) s = .next (turnedAway .busy tag s)) ∧
    (regionOpen s (a.toNat % 16) = true → exec (.otpLockWrite tag a) s = .next (turnedAway .busy tag s) ∧
      exec (.otpLockRead tag a) s = .next (turnedAway .busy tag s)) ∧
    (a.toNat % 8 ≤ 4 → lifeNow s < 4 → lifeNow s ≤ a.toNat % 8 → (a.toNat % 8 = 4 → ∀ n, (axSt s n).atRest = true) →
      exec (.otpAdvance tag a) s = .next (turnedAway .busy tag s))) ∧
  (∀ s : State, exec .otpFetchDone s = .next { s with otp := { s.otp with fetching := false } }) ∧
  (∀ (a : BitVec 13) (s : State), s.otp.dataPhase = some a → s.otp.fetching = false →
    exec .otpDataPhaseExpiry s = .next { s with otp := { s.otp with dataPhase := none, result := 5 } }) ∧
  ∀ s : State, s.otp.dataPhase = none → exec .otpDataPhaseExpiry s = .next s

/-- 05 R167, R175, R177, R178, R180, R181, R184, R186, R187: a verified burn ends with its fuses set and RESULT 1, an
unverified one of a word goes on as a redirection; that copies the row, with the word, into the lowest eligible spare
that verifies and burns its entry in three copies (RESULT 2), or ends with RESULT 3; an advance gives the bridges the
permission of the state that the fuses then show, and one to RETIRED resets the module. -/
def Obligations.OtpBurnsEnd : Prop :=
  (∀ (a : BitVec 13) (d : Word) (s : State), s.otp.op = some (.word a d) →
    (spareOf s.otp (a.toNat / 32) = none → exec (.otpBurnDone true) s = .next { s with otp := { s.otp with
      cells := s.otp.cells.put a.toNat (s.otp.cells.get a.toNat ||| d), op := none, result := 1 } }) ∧
    ∃ o : Otp, exec (.otpBurnDone false) s = .next { s with otp := o, free := s.free + 1 } ∧
      o.op = some (.redirect a d) ∧ o.wlock = s.otp.wlock ∧ o.rlock = s.otp.rlock ∧ o.redir = s.otp.redir) ∧
  (∀ (r : BitVec 4) (s : State), s.otp.op = some (.lockWrite r) →
    exec (.otpBurnDone true) s = .next { s with otp := { s.otp with
      wlock := setBit s.otp.wlock r.toNat, op := none, result := 1 } }) ∧
  (∀ (r : BitVec 4) (s : State), s.otp.op = some (.lockRead r) →
    exec (.otpBurnDone true) s = .next { s with otp := { s.otp with
      rlock := setBit s.otp.rlock r.toNat, op := none, result := 1 } }) ∧
  (∀ s : State, s.otp.op = some (.advance 4) → ∃ t, exec (.otpBurnDone true) s = .next t ∧
    t.power.phase = .boot ∧ t.power.causes = s.power.causes ||| 8 ∧ t.otp.op = none) ∧
  (∀ (k : BitVec 3) (s : State), s.otp.op = some (.advance k) → k ≠ 4 → spareOf s.otp 96 = none →
    ∃ t, exec (.otpBurnDone true) s = .next t ∧ t = { s with otp := t.otp, boot := t.boot } ∧
      t.otp = { s.otp with
        op := none, result := 1
        cells := s.otp.cells.put 0xC00 (s.otp.cells.get 0xC00 ||| lifeWord (s.otp.cells.get 0xC00) k.toNat) } ∧
      t.boot = { s.boot with
        bridgeOff := if lifeNow t = 0 ∨ lifeNow t = 4 then BitVec.allOnes 8 else s.boot.dieOff }) ∧
  (∀ (k : BitVec 3) (s : State), s.otp.op = some (.advance k) → ∃ t, exec (.otpBurnDone false) s = .next t ∧
    t = { s with otp := t.otp, boot := t.boot, free := s.free + 1 } ∧
    t.otp.op = some (.redirect 0x0C00 (lifeWord (otpRaw s.otp 0x0C00) k.toNat)) ∧
    t.boot = { s.boot with
      bridgeOff := if lifeNow t = 0 ∨ lifeNow t = 4 then BitVec.allOnes 8 else s.boot.dieOff }) ∧
  (∀ (d : Word) (bad : List Nat) (s : State), s.otp.op = some (.redirect 0x0C00 d) → lifeOf d ≠ 4 →
    ∃ t, exec (.otpRedirectionDone bad) s = .next t ∧ t = { s with otp := t.otp, boot := t.boot, flt := t.flt } ∧
      t.otp.op = none ∧ t.boot = { s.boot with
        bridgeOff := if lifeNow t = 0 ∨ lifeNow t = 4 then BitVec.allOnes 8 else s.boot.dieOff }) ∧
  (∀ (a : BitVec 13) (d : Word) (i : Fin 16) (bad : List Nat) (s : State), s.otp.op = some (.redirect a d) →
    a ≠ 0x0C00 → (eligibleSpares s.otp).find? (fun k => !bad.contains k.val) = some i →
    ∃ o : Otp, exec (.otpRedirectionDone bad) s = .next { s with otp := o } ∧ o.op = none ∧ o.result = 2 ∧
      (∀ j : Fin 16, ∀ c : Fin 3, o.redir[j][c] =
        if j = i then s.otp.redir[j][c] ||| BitVec.ofNat 9 (256 + a.toNat / 32) else s.otp.redir[j][c]) ∧
      (s.otp.spares.wf → ∀ j : Fin 16, ∀ c < 32, o.spares.get (32 * j.val + c) =
        if j = i ∨ (j ∈ eligibleSpares s.otp ∧ j.val < i.val) then
          (if c = a.toNat % 32 then d else otpRaw s.otp (32 * (a.toNat / 32) + c))
        else s.otp.spares.get (32 * j.val + c)) ∧
      o.cells = s.otp.cells ∧
      o.wlock = s.otp.wlock ∧ o.rlock = s.otp.rlock) ∧
  ∀ (a : BitVec 13) (d : Word) (bad : List Nat) (s : State), s.otp.op = some (.redirect a d) → a ≠ 0x0C00 →
    (eligibleSpares s.otp).find? (fun k => !bad.contains k.val) = none →
    ∃ (o : Otp) (f : Faults), exec (.otpRedirectionDone bad) s = .next { s with otp := o, flt := f } ∧ o.op = none ∧
      o.result = 3 ∧ o.redir = s.otp.redir ∧ o.cells = s.otp.cells

/-! ### The record store (chapter 17) -/

/-- 17 R593, R594, R607-R611, Table 17.8: the commands of STORE_CMD start their write and clear DONE; one that runs is
BUSY, a SEAL without a session, a request to erase in FIELD or RETIRED or a command of a store out of service
REFUSED_ACTIVE, one without its key GUARDED. That a SEAL without a session is REFUSED_ACTIVE, and that the first words
of a bank, STATE 0x0001, FORMAT and SEQ, stand from the acceptance on, are the model's choices (log entries 57
and 60). -/
def Obligations.StoreCommandsStart : Prop :=
  ∀ (tag : BitVec 4) (arg : BitVec 12) (s : State), running s = true → mayWriteGroup s .host 3 = true →
    (storeOut s = false → s.store.op = none →
      (∃ t, exec (.calstore tag arg) s = .next (written tag s t) ∧ t = { s with store := t.store } ∧
        t.store = { s.store with mem := t.store.mem, op := t.store.op, done := false } ∧ t.store.op.isSome = true ∧
        (let base := if !s.store.norec && !s.store.bank then 0x4000 else 0
         s.store.mem.wf → t.store.mem.get base = 1 ∧ t.store.mem.get (base + 1) = 1 ∧
           t.store.mem.get32 (base + 2) = (if s.store.norec then 1 else s.store.seq + 1) ∧
           ∀ k, k < base ∨ base + 4 ≤ k → t.store.mem.get k = s.store.mem.get k)) ∧
      (s.host.key = some .store →
        exec (.stagingBegin tag arg) s = .next (written tag s { s with store := { s.store with
          done := false, session := some (.host, workingSlot s.store.mem), op := some (.begin (arg.getLsbD 0)) } }) ∧
        (∀ b, s.store.session = some (.host, b) → slotGood s.store.mem b = true →
          exec (.stagingSeal tag arg) s = .next (written tag s { s with store := { s.store with
            done := false
            op := some (.header (headerWords { headerOf s.store.mem with sealed := if b then 2 else 1 }) true) } })) ∧
        (∀ b, s.store.session = some (.host, b) → slotGood s.store.mem b = false →
          exec (.stagingSeal tag arg) s = .next (written tag s { s with store := { s.store with
            done := true, result := 2 } })) ∧
        (s.store.session = none → exec (.stagingSeal tag arg) s = .next (turnedAway .refusedActive tag s)) ∧
        exec (.stagingWithdraw tag arg) s = .next (written tag s { s with store := { s.store with
          done := false, op := some (.header (headerWords { headerOf s.store.mem with sealed := 0 }) false) } }) ∧
        ((arg.getLsbD 0 = true → (s.boot.life.extractLsb' 0 3).toNat < 3) →
          exec (.stagingRequest tag arg) s = .next (written tag s { s with store := { s.store with
            done := false, op := some (.header (headerWords { headerOf s.store.mem with
              req := if arg.getLsbD 0 then 1 else 0 }) false) } })) ∧
        (arg.getLsbD 0 = true → 3 ≤ (s.boot.life.extractLsb' 0 3).toNat →
          exec (.stagingRequest tag arg) s = .next (turnedAway .refusedActive tag s)))) ∧
    (s.store.op.isSome = true → storeOut s = false →
      exec (.calstore tag arg) s = .next (turnedAway .busy tag s) ∧
      (s.host.key = some .store → exec (.stagingBegin tag arg) s = .next (turnedAway .busy tag s))) ∧
    (storeOut s = true → exec (.calstore tag arg) s = .next (turnedAway .refusedActive tag s)) ∧
    (s.host.key ≠ some .store → (∀ h, s.store.session = some h → h.1 = .host) → ∀ c ∈ [Instr.stagingBegin tag arg,
      .stagingSeal tag arg, .stagingWithdraw tag arg, .stagingRequest tag arg], exec c s = .next (guardedAway 2 tag s))

/-- 16 R582, 17 R587, R588, R593, R594, R606, R607, R609-R611, R629: the writes of the store complete, with their RESULT
and DONE, once no write that goes before them is due: a verified bank is the current one and is counted, the staging
slot is copied or cleared, the header is written; one that fails its verify is RESULT 3. Each changes only its own area
of the store. That a bank keeps the words which CALSTORE put, and what a failed write leaves in its area, are the
model's choices (log entries 60 and 21). -/
def Obligations.StoreWritesEnd : Prop :=
  let failed := fun (s t : State) (lo len : Nat) => t = { s with
      store := t.store, flt := t.flt, free := s.free + 1, fb := t.fb, cnv := t.cnv } ∧
    t.store = { s.store with op := none, result := 3, done := true, mem := t.store.mem } ∧
    (s.store.mem.wf → ∀ k, k < lo ∨ lo + len ≤ k → t.store.mem.get k = s.store.mem.get k)
  (∀ (target : Bool) (img : List Word) (seq : DWord) (s : State), s.store.op = some (.bank target img seq) →
    img.length = 0x300 →
    let b := bankBase target
    (mayStore s 3 = true →
      (∃ m : WordMem, exec (.bankWriteDone true) s = .next { s with store := { s.store with
          op := none, result := 1, done := true, bank := target, norec := false, seq := seq, mem := m
          waiting := [(0xC2, 1)] } } ∧
        (s.store.mem.wf → m.wf ∧ m.get (b + 1) = 2 ∧
          (∀ k, 4 ≤ k → k < 0x300 → m.get (b + k) = img.getD k 0) ∧
          ∀ k, k ≤ b ∨ k = b + 2 ∨ k = b + 3 ∨ b + 0x300 ≤ k → m.get k = s.store.mem.get k)) ∧
      ∃ t, exec (.bankWriteDone false) s = .next t ∧ failed s t (b + 1) 0x2FF ∧
        (s.store.mem.wf → t.store.mem.get32 (b + 2) = s.store.mem.get32 (b + 2))) ∧
    (mayStore s 3 = false → ∀ v, exec (.bankWriteDone v) s = .next s)) ∧
  (∀ (copy b : Bool) (holder : Party) (s : State), s.store.op = some (.begin copy) →
    s.store.session = some (holder, b) →
    (mayStore s 2 = true →
      (∃ m : WordMem, exec (.stagingBeginDone true) s = .next { s with store := { s.store with
          op := none, result := 1, done := true, mem := m } } ∧
        (s.store.mem.wf → m.wf ∧
          (∀ i < 512, m.get (slotBase b + i) = match copy, sealedSlot s.store.mem with
            | true, some c => s.store.mem.get (slotBase c + i)
            | _, _ => 0) ∧
          ∀ k, k < slotBase b ∨ slotBase b + 512 ≤ k → m.get k = s.store.mem.get k)) ∧
      ∃ t, exec (.stagingBeginDone false) s = .next t ∧ failed s t (slotBase b) 512) ∧
    (mayStore s 2 = false → ∀ v, exec (.stagingBeginDone v) s = .next s)) ∧
  (∀ (words : List Word) (seals : Bool) (s : State), s.store.op = some (.header words seals) →
    (mayStore s 2 = true →
      (∃ m : WordMem, exec (.headerWriteDone true) s = .next { s with store := { s.store with
          op := none, result := 1, done := true, mem := m
          session := if seals then none else s.store.session } } ∧
        (s.store.mem.wf → m.wf ∧ ∀ k, k < 0xE000 ∨ 0xE020 ≤ k → m.get k = s.store.mem.get k)) ∧
      ∃ t, exec (.headerWriteDone false) s = .next t ∧ failed s t 0xE000 32) ∧
    (mayStore s 2 = false → ∀ v, exec (.headerWriteDone v) s = .next s)) ∧
  (∀ s : State, s.store.session.isSome = true → exec .stagingSessionTimeout s = .next { s with
    store := { s.store with session := none, result := 4 } }) ∧
  ∀ s : State, s.store.session = none → exec .stagingSessionTimeout s = .next s

/-- 16 R582, R583, 17 R587, R588, R598, R600, R602, R603, R629: a counter that waits is written to the next of its own
cells, after any log entry that is due, the oldest settled entry of the cache to the next entry of the log, with its
words, after LOGSEQ; neither happens while the store is out of service. One that fails its verify stays within its
words, and what they then hold is the model's choice (log entry 21). -/
def Obligations.CountersAndLogEntriesAreWritten : Prop :=
  let failed := fun (s t : State) => t = { s with
    store := t.store, flt := t.flt, free := s.free + 1, fb := t.fb, cnv := t.cnv }
  (∀ (c k : Nat) (rest : List (Nat × Nat)) (s : State), s.store.waiting = (c, k) :: rest → mayStore s 1 = true →
    let own := fun a => 0x8000 + 32 * c ≤ a ∧ a < 0x8020 + 32 * c
    (∃ m : WordMem, exec (.tallyStoreWrite true) s =
        .next { s with store := { s.store with waiting := rest, mem := m } } ∧
      (s.store.mem.wf → m.wf ∧ (∀ a, ¬ own a → m.get a = s.store.mem.get a) ∧
        tallyCellAt m c (nextCell s.store.mem c).1 = tallyCell
          (BitVec.ofNat 32 (min 0xFFFFFFFF ((nextCell s.store.mem c).2.1 + k))) ((nextCell s.store.mem c).2.2 + 1))) ∧
    ∃ t, exec (.tallyStoreWrite false) s = .next t ∧ failed s t ∧
      t.store = { s.store with waiting := rest, mem := t.store.mem } ∧
      (s.store.mem.wf → ∀ a, ¬ own a → t.store.mem.get a = s.store.mem.get a)) ∧
  (∀ (v : Bool) (s : State), s.store.waiting = [] ∨ mayStore s 1 = false → exec (.tallyStoreWrite v) s = .next s) ∧
  (∀ (e : LogEntry) (rest : List LogEntry) (s : State), s.flt.cache = e :: rest → e.result.isSome = true →
    e.units = [] → storeOut s = false →
    (∃ t, exec (.faultLogWrite true) s = .next t ∧
      t = { s with flt := t.flt, store := t.store, proof := t.proof } ∧
      t.flt = { s.flt with
        cache := rest, top := BitVec.ofNat 10 (nextEntry s), empty := false, count := t.flt.count
        stat := t.flt.stat } ∧
      t.flt.stat.getLsbD 0 = true ∧
      t.store = { s.store with mem := t.store.mem, waiting := t.store.waiting } ∧
      (s.store.mem.wf → t.store.mem.wf ∧ ∀ i < 16, t.store.mem.get (0xA000 + 16 * nextEntry s + i) =
        (entryWords e (nextSeq s) s.boot.epoch).getD i 0)) ∧
    ∃ t, exec (.faultLogWrite false) s = .next t ∧ failed s t ∧ t.store = { s.store with mem := t.store.mem } ∧
      (s.store.mem.wf → ∀ a, (a < 0x8000 + 32 * 0xC1 ∨ 0x8020 + 32 * 0xC1 ≤ a) →
        (a < 0xA000 + 16 * nextEntry s ∨ 0xA010 + 16 * nextEntry s ≤ a) →
        t.store.mem.get a = s.store.mem.get a)) ∧
  (∀ (b : Bool) (s : State), s.flt.cache = [] ∨ storeOut s = true → exec (.faultLogWrite b) s = .next s) ∧
  (∀ (n : Fin 8) (s : State), 72000000000 ≤ s.axes[n].runTicks →
    exec (.runTimeIncrement n) s = .next (withAxis n
      { s.axes[n] with runTicks := s.axes[n].runTicks - 72000000000 }
      { s with store := { s.store with
        waiting := addWaiting (storeOut s) n.val 1 s.store.waiting } })) ∧
  ∀ (n : Fin 8) (s : State), s.axes[n].runTicks < 72000000000 → exec (.runTimeIncrement n) s = .next s

/-! ### The backup domain (17 17.7-17.9) -/

/-- 17 R623, R624, R627: an acknowledgement ends alarms that a read has reported, and takes the watch count as the new
reference; with another operation in bits [3:0] it is BAD_ADDR, before the report REFUSED_ACTIVE. The reserved bits
do not matter. -/
def Obligations.AlarmsAreAcknowledged : Prop :=
  ∀ (tag : BitVec 4) (d : Word) (s : State), running s = true → mayWriteGroup s .host 3 = true →
    s.host.key = some .store →
    (bits d 0 4 = 1 → alarmsReported s = true → bakAlive s = true →
      exec (.backupAcknowledge tag d) s = .next (written tag s { s with bak := { s.bak with
        latched := false, since := 0, shown := 0, ref := watchCount s.bak
        ram := s.bak.ram.filter fun c => c.1 < 0x14 } })) ∧
    (bits d 0 4 = 1 → alarmsReported s = false →
      exec (.backupAcknowledge tag d) s = .next (turnedAway .refusedActive tag s)) ∧
    (bits d 0 4 ≠ 1 → exec (.backupAcknowledge tag d) s = .next (turnedAway .badAddr tag s))

/-- 17 R613, R616, R619, R621, R623-R625, Table 17.7: alarms latch, in BACKUP too, with their record, which keeps the
first time; one that latches again is set and reported anew (the model's reading, log entry 41). The watch counts the
steps of its samples and carries them into the high cell, and the alarm clock ends SLEEP. -/
def Obligations.BackupEventsLatch : Prop :=
  let latched := fun (b : Nat) (rtc : BitVec 48) (k : Backup) => { k with
    alarm := setBit k.alarm b, since := setBit k.since b, shown := clearBit k.shown b, latched := true
    ram := writeRecord b k.ram rtc }
  (∀ s : State, awake s = true → bakAlive s = true →
    (s.bak.vbakArmed = true → ∃ t, exec .vbakLowAlarm s = .next t ∧ t = { s with bak := t.bak, flt := t.flt } ∧
      t.bak = latched 0 s.bak.rtc { s.bak with vbakArmed := false }) ∧
    (s.bak.vbakArmed = false → exec .vbakLowAlarm s = .next s) ∧
    (bit (s.bak.ram.get 0x10) 12 = true → ∃ t, exec .coverAlarm s = .next t ∧
      t = { s with bak := t.bak, flt := t.flt } ∧ t.bak = latched 3 s.bak.rtc s.bak)) ∧
  (∀ s : State, s.power.phase = .backup → s.power.vbak = true → ∃ t,
    exec .vbakLowAlarm s = .next t ∧ t = { s with bak := t.bak, free := t.free } ∧
    t.bak = { latched 0 t.bak.rtc { s.bak with vbakArmed := false } with
      rtc := t.bak.rtc, toLogBoot := setBit s.bak.toLogBoot 0 }) ∧
  (∀ s : State, bit (s.bak.ram.get 0x10) 12 = false → exec .coverAlarm s = .next s) ∧
  (∀ (ab : AbSample) (k : Int) (s : State), strobing s = true → awake s = true → s.bak.abKnown = true →
    abStep s.bak.ab.a s.bak.ab.b ab.a ab.b (bit (s.bak.ram.get 0x10) 4) = some k →
    ∃ b : Backup, exec (.watchStrobe ab) s = .next { s with bak := b } ∧ b.ab = ab ∧ b.rtc = s.bak.rtc ∧
      b.ram = s.bak.ram ∧ watchCount b = watchCount s.bak + BitVec.ofInt 32 k) ∧
  (∀ s : State, bakAlive s = true → ∃ b : Backup, exec .watchCarryApply s = .next { s with bak := b } ∧
    b.carry = 0 ∧ b.lo = s.bak.lo ∧ watchCount b = watchCount s.bak) ∧
  ∀ s : State, running s = true → s.power.pstate = .sleep → bakAlive s = true → s.power.target = none →
    s.bak.ram.get32 0x12 ≠ 0 → (s.bak.rtc.extractLsb' 16 32).toNat ≤ (s.bak.ram.get32 0x12).toNat →
    ∃ r : BitVec 48, exec .rtcWake s = .next { s with
        power := { s.power with target := some .run }, bak := { s.bak with rtc := r } } ∧
      r.extractLsb' 16 32 = s.bak.ram.get32 0x12 ∧ (s.bak.rtc.extractLsb' 16 32 = s.bak.ram.get32 0x12 → r = s.bak.rtc)

/-! ### The inspection space and the words named after a DATA write (chapters 12, 13, 15, 19) -/

/-- 19 R668-R672: the unit phase of a proof test ends in its STO phase or its summary; the STO phase ends once both inputs
have returned with both paths followed, or when its time is over. What a path did in a low before the demand does not
count. -/
def Obligations.ProofTestPhases : Prop :=
  (∀ s : State, s.proof.running = true → s.proof.stoWait = false → proofTestsLeft s = false →
    (s.proof.sto = true → ∃ p : Proof, exec .proofTestUnitPhaseEnd s = .next { s with proof := p } ∧
      p.stoWait = true ∧ p.running = true ∧ p.passed = s.proof.passed ∧ p.failedUnits = s.proof.failedUnits) ∧
    (s.proof.sto = false → ∃ (p : Proof) (f : Faults), exec .proofTestUnitPhaseEnd s = .next { s with proof := p, flt := f } ∧
      p.running = false ∧ p.stores = 0 ∧ p.pass = (s.proof.failedUnits == 0))) ∧
  (∀ s : State, proofTestsLeft s = true → exec .proofTestUnitPhaseEnd s = .next s) ∧
  (∀ s : State, s.proof.stoWait = true → s.proof.demand = false →
    ∃ (p : Proof) (f : Faults), exec .proofTestStoTimeout s = .next { s with proof := p, flt := f } ∧
      p.running = false ∧ p.stoWait = false ∧ p.stores = 3 ∧ (s.proof.sto = true → p.pass = false)) ∧
  (∀ s : State, s.proof.stoWait = true → s.proof.demand = true → s.proof.low = 0 → s.proof.acted = 3 →
    s.sto.in1 = true → s.sto.in2 = true → s.sto.hw1 = false → s.sto.hw2 = false →
    ∃ (p : Proof) (f : Faults), exec .proofTestStoSample s = .next { s with proof := p, flt := f } ∧
      p.running = false ∧ p.stoWait = false ∧ p.stores = 1 ∧ p.pass = (s.proof.failedUnits == 0)) ∧
  (∀ (i : Fin 2) (s : State), s.proof.stoWait = true → s.proof.demand = false → s.sto.input i = true →
    ∃ (p : Proof) (f : Faults), exec .proofTestStoSample s = .next { s with proof := p, flt := f } ∧
      (p.stoWait = true → p.demand = false ∧ p.low.getLsbD i.val = false ∧ p.acted.getLsbD i.val = false)) ∧
  ∀ s : State, s.proof.stoWait = false → exec .proofTestStoSample s = .next s

/-- 02 R84, 12 R439, 13 R463, 15 Table 15.9, 19 R668, R674: each command named after a DATA write is the write of
WINn_DATA, and has its own effect where the window stands at its word. That the commands are that write wherever the
window stands, and that a SEND which no port takes sets MSGDROP, are the model's choices (log entries 67 and 27). -/
def Obligations.NamedDataWritesAct : Prop :=
  (∀ (tag : BitVec 4) (n : Fin 4) (d : Word) (s : State), ∀ c ∈ [Instr.proofTestRequest tag n d,
    .inspectionMark tag n d, .feedbackPreset tag n d, .coefficientPairWrite tag n d, .seamOutboxSend tag n d,
    .seamInboxRelease tag n d], exec c s = exec (.windowDataWrite tag n d) s) ∧
  ∀ (tag : BitVec 4) (n : Fin 4) (d : Word) (s : State), running s = true → n.val < 2 → s.win[n].count ≠ 0 →
    s.win[n].atEnd = false → s.win[n].fetching = false → s.win[n].writing = none →
    mayWriteWord s .host s.win[n].space.toNat s.win[n].addr.toNat = true →
    (s.win[n].space = 0x13 → s.win[n].addr = 0x022 → s.flt.cache.length < 32 → ∃ w : Window,
      exec (.inspectionMark tag n d) s = .next (written tag s { s with
        win := s.win.set n w, flt := { s.flt with
          cache := s.flt.cache ++ [{ newEntry s 0xC400 .host d with result := some 5 }] } })) ∧
    (s.win[n].space = 0x13 → s.win[n].addr = 0x020 → s.power.pstate = .run → s.proof.running = false →
      s.sto.source = false → d = 0x8100 → ∃ w : Window,
      exec (.proofTestRequest tag n d) s = .next (written tag s { s with
        win := s.win.set n w, proof := { resetProof with running := true, sto := true } })) ∧
    (∀ k : Fin 192, s.win[n].space = 0x07 → s.win[n].addr = BitVec.ofNat 24 (2 * k.val + 1) →
      s.cnv.heldMask.contains (2 * k.val) = true → ∃ (w : Window) (c : Cnv),
      exec (.coefficientPairWrite tag n d) s = .next (written tag s { s with win := s.win.set n w, cnv := c }) ∧
        c.coef = (s.cnv.coef.put (2 * k.val) (s.cnv.heldOfs.get (2 * k.val))).put (2 * k.val + 1) d ∧
        c.res = s.cnv.res ∧ c.sar = s.cnv.sar) ∧
    (∀ i : Fin 8, s.win[n].space = 0x12 → s.win[n].addr = BitVec.ofNat 24 (32 * i.val + 0x11) → ∃ (w : Window) (m : WordMem),
      exec (.feedbackPreset tag n d) s = .next (written tag s { s with
        win := s.win.set n w, cfg := { s.cfg with live := m }
        fb := s.fb.set i { s.fb[i] with
          count := d ++ (s.fb[i].heldPre.getD 0), heldPre := none } })) ∧
    (s.win[n].space = 0x0A → s.win[n].addr = 0x120 → bit d 0 = true → ownId s = none → ∃ (w : Window) (m : WordMem),
      exec (.seamOutboxSend tag n d) s = .next (written tag s { s with
        win := s.win.set n w, cfg := { s.cfg with live := m }
        seam := if s.seam.send.isSome then s.seam else { s.seam with stat := setBit s.seam.stat 11 } })) ∧
    (s.win[n].space = 0x0A → s.win[n].addr = 0x120 → bit d 0 = true → s.seam.send = none → (ownId s).isSome = true →
      speaks s = true → (∀ p, queueFull s p = false) → bit (s.seam.outbox.get 0) 10 = false →
      (routeTo s ((s.seam.outbox.get 0).extractLsb' 0 10)).isSome = true → ∃ t,
      exec (.seamOutboxSend tag n d) s = .next (written tag s t) ∧ t.seam.send.isSome = true ∧
        t.seam.outbox = s.seam.outbox ∧ t.seam.stat = s.seam.stat ∧ t.pin = s.pin ∧ t.axes = s.axes) ∧
    (s.win[n].space = 0x0A → s.win[n].addr = 0x160 → bit d 0 = true → ∃ (w : Window) (m : WordMem),
      exec (.seamInboxRelease tag n d) s = .next (written tag s { s with
        win := s.win.set n w, cfg := { s.cfg with live := m }, seam := { s.seam with full := false } }))

/-! ### Stitching (07 7.1 to 7.4) -/

/-- 07 R235-R237, R249, R252: a head whose trigger its source reaches is due; its chain joins its lane with everything it
holds, before those of the same cycle that rank after it, or, ranked last, is dropped where the lane is full; it is
disarmed until its source has travelled REARM. -/
def Obligations.HeadsBecomeDue : Prop :=
  ∀ (k : Fin 1024) (s : State), awake s = true →
    let r := s.src[slotSource s k.val]
    let l := slotLane s k.val
    let x := s.stitch.lanes[l]
    let from_ := (hiWord r.prev).toNat
    let to_ := (hiWord r.angle).toNat
    let c : Chain := {
      head := k.val, due := s.stitch.cycle, rank := dueRank s k.val, forward := decide (0 < r.speed), fresh := true
      actions := chainActions s 8 k.val }
    let after := fun (d : Chain) => d.due == s.stitch.cycle && decide (c.rank < d.rank)
    let disarmed := s.stitch.disarmed ++ [{ slot := k.val, travel := 0 }]
    (isHead s k.val = true → (∀ d ∈ s.stitch.disarmed, d.slot ≠ k.val) → 0 < r.speed → r.cut = none →
      bit (slotWord s k.val 0) 5 = true → from_ < (slotWord s k.val 1).toNat → (slotWord s k.val 1).toNat ≤ to_ →
      to_ - from_ ≤ 32768 → isDue s k.val = true) ∧
    (isDue s k.val = true → x.queue.length < 64 → ∃ q q' : List Chain,
      exec (.stitchDue k) s = .next { s with stitch := { s.stitch with
        disarmed := disarmed
        lanes := s.stitch.lanes.set l { x with
          maxDepth := max x.maxDepth (x.queue.length + 1), queue := q ++ c :: q' } } } ∧
      (∀ d ∈ q, after d = false) ∧ (∀ d ∈ q', after d = true) ∧ (q ++ q').length = x.queue.length ∧
      ((∀ d ∈ x.queue, after d = false) → q = x.queue ∧ q' = [])) ∧
    (isDue s k.val = true → x.queue.length = 64 → (∀ d ∈ x.queue, after d = false) →
      ∃ t, exec (.stitchDue k) s = .next t ∧
      t = { s with stitch := t.stitch, axes := t.axes, store := t.store, flt := t.flt, fb := t.fb, cnv := t.cnv } ∧
      t.stitch = { s.stitch with
        disarmed := disarmed
        lanes := s.stitch.lanes.set l { x with
          maxDepth := max x.maxDepth 64, drop := satInc x.drop, dropSlot := k.val } }) ∧
    (isDue s k.val = false → exec (.stitchDue k) s = .next s) ∧
    ∃ d, exec (.stitchRearm k) s = .next { s with stitch := { s.stitch with disarmed := d } } ∧
      ∀ y, y ∈ d ↔ y ∈ s.stitch.disarmed ∧ (y.slot = k.val → y.travel < slotRearm s k.val * 65536)

/-- 07 R243, R245, R247, R248, R251: a lane runs the first action of its oldest chain, one a cycle and later than its
head's cycle; the actions of one cycle on the outputs apply in lane order, host flag and tallies act at once; a command
for another action does nothing. That FIRED counts with a chain's first action and LATE with its last, that a command
whose action is not due does nothing, and that lanes act in the order of the commands are the model's choices (log entries
55, 54 and 34). -/
def Obligations.LanesRunTheirActions : Prop :=
  (∀ (l : Fin 8) (c : Chain) (a : Action) (rest : List Action) (q : List Chain) (s : State), awake s = true →
    let x := s.stitch.lanes[l]
    x.queue = { c with actions := a :: rest } :: q → c.due < s.stitch.cycle → x.lastExec < s.stitch.cycle →
    let y := x.advance s.stitch.cycle c.fresh
    let moved := { s with stitch := { s.stitch with lanes := s.stitch.lanes.set l y } }
    let i := bits a.p0 0 4
    let acts := s.stitch.outputActions.filter (fun z => decide (z.lane ≤ l.val)) ++
      { lane := l.val, code := a.code, out := i } :: s.stitch.outputActions.filter fun z => decide (l.val < z.lane)
    let out := fun o => Host.Outcome.next { moved with stitch := { moved.stitch with
      outputActions := acts, outputs := o } }
    let last := (∀ z ∈ s.stitch.outputActions, z.lane ≤ l.val) ∧
      s.stitch.outputs = s.stitch.outputActions.foldl OutputAction.apply s.stitch.outputsBefore
    y.queue = (if rest = [] then q else { c with fresh := false, actions := rest } :: q) ∧
    y.lastExec = s.stitch.cycle ∧ y.fired = (if c.fresh then x.fired + 1 else x.fired) ∧
    y.late = (if rest = [] ∧ c.due + x.bound.toNat < s.stitch.cycle then satInc x.late else x.late) ∧
    (a.code = 0x00 → exec (.nop l) s = .next moved) ∧
    (a.code = 0x03 → exec (.sigSet l) s = out (acts.foldl OutputAction.apply s.stitch.outputsBefore) ∧
      (last → exec (.sigSet l) s = out (setBit s.stitch.outputs i))) ∧
    (a.code = 0x04 → exec (.sigClear l) s = out (acts.foldl OutputAction.apply s.stitch.outputsBefore) ∧
      (last → exec (.sigClear l) s = out (clearBit s.stitch.outputs i))) ∧
    (a.code = 0x05 → exec (.sigToggle l) s = out (acts.foldl OutputAction.apply s.stitch.outputsBefore) ∧
      (last → exec (.sigToggle l) s = out (putBit s.stitch.outputs i (!s.stitch.outputs.getLsbD i)))) ∧
    (a.code = 0x06 → exec (.hostIrq l) s = .next { s with
      host := { s.host with sysStat := setBit s.host.sysStat 4 }
      stitch := { s.stitch with
        lanes := s.stitch.lanes.set l { y with irqFlag := setBit y.irqFlag i, lastIrq := c.head } } }) ∧
    (a.code = 0x0C → talliesWaiting s < 16 → exec (.tally l) s = .next (countTally (0x20 + i) moved)) ∧
    (a.code = 0x0C → 16 ≤ talliesWaiting s → exec (.tally l) s = .next { s with
      stitch := { s.stitch with lanes := s.stitch.lanes.set l { y with drop := satInc y.drop } } })) ∧
  ∀ (l : Fin 8) (s : State), laneAction s l = none →
    ∀ c ∈ [Instr.nop l, .commute l, .cnvStart l, .sigSet l, .sigClear l, .sigToggle l, .hostIrq l, .injOn l, .injOff l,
      .spacingRearm l, .seamPub l, .carrierResync l, .tally l], exec c s = .next s

/-- 07 R242, R244, R246, 08 R304, 11 R398, R410, 12 R431, 13 R445: the lane actions that reach other units complete: a
COMMUTE sets the sector of its axis and ends its estimator's sector, a sequence starts, the injection latch and the
spacing compare follow, the injection gate closing at once with its latch, a channel is loaded with its source's sample,
and a resync takes place as its cycle ends: the period and the turn of the carrier end there, those of the members too.
What COMMUTE judges of its estimator is the model's choice (log entry 52). -/
def Obligations.LaneActionsReachTheirUnits : Prop :=
  (∀ (l : Fin 8) (c : Chain) (a : Action) (s : State), awake s = true → laneAction s l = some (c, a) →
    let n : Fin 8 := Fin.ofNat 8 (bits a.p0 0 3)
    let x := s.axes[n]
    let moved := { s with stitch := { s.stitch with
      lanes := s.stitch.lanes.set l (s.stitch.lanes[l].advance s.stitch.cycle c.fresh) } }
    let sector := if c.forward then bits a.p1 0 3 else bits a.p1 4 3
    (a.code = 0x01 → ∃ (d : Drive) (b : Bemf),
      exec (.commute l) s = .next (withAxis n { x with drv := d, bemf := b } moved) ∧
      d = { x.drv with sector := sector, hem := d.hem, lrStart := x.drv.lrStart.map fun _ => s.now } ∧
      ((axSt s n).driving = true → isDirect s n = false → bits (axWord s n 0x40) 0 14 = 0 → d.hem = none) ∧
      (sector = x.drv.sector ∨ rungOn s n .bemf = false ∨ isMember s n = true → b = x.bemf) ∧
      (sector ≠ x.drv.sector → (axSt s n).driving = true → rungOn s n .bemf = true → isMember s n = false →
        b.sectorMax = 0 ∧ b.last = none ∧ (x.bemf.sectorMax < 30000 * bvminOf s n → b.run = 0))) ∧
    (a.code = 0x02 → ∃ t, exec (.cnvStart l) s = .next t ∧ t = { moved with cnv := t.cnv } ∧
      sequenceStarts s t (bits a.p0 0 6) { time := s.now, place := 32 + l.val }) ∧
    (a.code = 0x07 → ∃ i : Inj, exec (.injOn l) s = .next (withAxis n { x with inj := i } moved) ∧
      i.latch = true ∧ (x.inj.gate = false → i = { x.inj with latch := true, base := i.base })) ∧
    (a.code = 0x08 → ∃ i : Inj, exec (.injOff l) s = .next (withAxis n { x with inj := i } moved) ∧
      i.latch = false ∧ i.gate = false ∧ i.base = false ∧
      (x.inj.gate = true → i.closedAt = s.now) ∧
      (x.inj.gate = false → i = { x.inj with latch := false, base := false })) ∧
    (a.code = 0x09 → exec (.spacingRearm l) s =
      .next { moved with fb := s.fb.set n { s.fb[n] with arm := true } }) ∧
    (a.code = 0x0A → let q : Fin 2 := Fin.ofNat 2 (bits a.p0 0 1)
      let k : Fin 32 := Fin.ofNat 32 (bits a.p1 0 5)
      exec (.seamPub l) s = .next { moved with seam := { s.seam with pubs := s.seam.pubs.set q { s.seam.pubs[q] with
        loaded := true, angle := s.src[k].angle, speed := s.src[k].speed, stamp := s.seam.time
        free := timeFree s } } }) ∧
    (a.code = 0x0B → carrierOn s n = false ∨ isMember s n = true → exec (.carrierResync l) s = .next moved) ∧
    (a.code = 0x0B → carrierOn s n = true → isMember s n = false → exec (.carrierResync l) s =
      .next (withAxis n { x with car := { x.car with resyncDue := true } } moved))) ∧
  ∀ (n : Fin 8) (s : State), awake s = true →
    let u := stepAngles (forEach allAxes stepInput (continueChains s))
    u.axes[n].car.resyncDue = true → (∀ m : Fin 8, m ≠ n → u.axes[m].car.resyncDue = false) → carrierOn u n = true →
    isMember u n = false → u.cfg.axesPending.getLsbD n.val = false →
    ∃ t, exec .angleEngineStep s = .next t ∧ t.axes[n].car.resyncDue = false ∧
      (lowTooShort u n = true → t.axes[n].car.resync = true ∧ t.axes[n].car.ticks = u.axes[n].car.ticks) ∧
      (lowTooShort u n = false → t.src[carSrc n].angle = 0 ∧ t.axes[n].car.resync = false ∧
        ∀ m ∈ groupOf u n, t.axes[m].car.ticks = 0)

/-! ### Carriers and converters (chapters 08 and 13) -/

/-- 00 R18, 07 R256, 08 R277, R285-R290, R292, R304: at a period start the live registers and the words that wait come
into force and the length drawn a period ago is taken, a member's between its leader's two; a resync that waited starts
the period and the carrier angle anew; a trigger fires once in a period and starts its sequence. AX_PER in force counts
for the draw made at the period start, and an axis that has become a member waits at 0 for its offset (the model's
readings, log entries 94 and 114). -/
def Obligations.CarrierPeriodsStart : Prop :=
  (∀ (n : Fin 8) (s : State), carrierOn s n = false → exec (.carrierPeriodStart n) s = .next s) ∧
  (∀ (n : Fin 8) (s : State), carrierOn s n = true → s.cfg.axesPending.getLsbD n.val = false →
    s.axes[n].car.resync = false ∨ isMember s n = true →
    let a := s.axes[n]
    ∃ t, exec (.carrierPeriodStart n) s = .next t ∧ t = { s with axes := t.axes, store := t.store } ∧
      t.axes[n].car.ticks = 0 ∧
      t.axes[n].eff.cmp = a.acc.cmp ∧ t.axes[n].eff.trg = a.acc.trg ∧ t.axes[n].eff.cmdSrc = a.acc.cmdSrc ∧
      (isMember s n = false ∨ a.car.asMember = true → t.axes[n].car.fired = 0 ∧ t.axes[n].car.resync = false ∧
        t.axes[n].car.lfsr = lfsrStep a.car.lfsr) ∧
      (isMember s n = false → t.axes[n].eff.per = a.acc.per ∧ t.axes[n].car.period = a.car.next ∧
        t.axes[n].car.per = a.car.perNext ∧ t.axes[n].car.perNext = a.acc.per.toNat) ∧
      (isMember s n = true → a.car.asMember = true → let c := s.axes[leaderOf s n].car
        let o := a.group.offs.toNat
        t.axes[n].car.period = c.period - c.period * o / 256 + c.next * o / 256) ∧
      (isMember s n = true → a.car.asMember = false →
        t.axes[n].car.asMember = true ∧ t.axes[n].car.resync = true ∧ t.axes[n].car.fired = 0xF)) ∧
  (∀ (n : Fin 8) (s : State), carrierOn s n = true → s.cfg.axesPending.getLsbD n.val = false →
    s.axes[n].car.resync = true → isMember s n = false →
    ∃ t, exec (.carrierPeriodStart n) s = .next t ∧
      t = { s with axes := t.axes, store := t.store, src := t.src, stitch := t.stitch, cnv := t.cnv } ∧
      t.axes[n].car.ticks = 0 ∧ t.axes[n].car.fired = 0 ∧ t.axes[n].car.resync = false ∧ t.src[carSrc n].angle = 0) ∧
  (∀ (n : Fin 8) (s : State), carrierOn s n = true → s.cfg.axesPending.getLsbD n.val = true → s.cfg.running.wf →
    s.cfg.pending.wf → ∃ t, exec (.carrierPeriodStart n) s = .next t ∧
      (∀ k, t.cfg.running.get k =
        if keyAxis k = some n.val then s.cfg.pending.get k else s.cfg.running.get k) ∧
      t.cfg.advTab = s.cfg.advTab.set n (s.cfg.pending.filter fun c => c.1 / 65536 == 3) ∧
      t.cfg.axesPending = clearBit s.cfg.axesPending n.val ∧ t.cfg.shadow = s.cfg.shadow ∧
      t.cfg.pending = s.cfg.pending ∧ t.cfg.live = s.cfg.live ∧ t.axes[n].car.ticks = 0 ∧
      t.host = s.host ∧ t.otp = s.otp ∧ t.pin = s.pin ∧
      (s.cfg.state = .applying → s.cfg.tablePending = false → clearBit s.cfg.axesPending n.val = 0 →
        t.cfg.state = .idle ∧ t.cfg.seq = s.cfg.seq + 1 ∧ t.cfg.cfgCrc = cfgCrcOf t.cfg.running) ∧
      (s.cfg.tablePending = true ∨ clearBit s.cfg.axesPending n.val ≠ 0 →
        t.cfg.state = s.cfg.state ∧ t.cfg.seq = s.cfg.seq ∧ t.cfg.cfgCrc = s.cfg.cfgCrc)) ∧
  ∀ (n : Fin 8) (m : Fin 4) (s : State),
    let a := s.axes[n]
    let w := runWord s 5 (0x700 + 16 * n.val + m.val)
    let per := s.axes[leaderOf s n].car.per
    let time := s.now - a.car.ticks + a.eff.trg[m].toNat * a.car.period / max 1 per * prescOf s n
    (carrierOn s n = true → bit w 7 = true → a.car.fired.getLsbD m.val = false → a.eff.trg[m].toNat < per →
      ∃ t, exec (.triggerCompare n m) s = .next t ∧
        t = { withAxis n { a with car := { a.car with fired := setBit a.car.fired m.val } } s with cnv := t.cnv } ∧
        sequenceStarts s t (bits w 0 6) { time := time, place := 4 * n.val + m.val }) ∧
    (carrierOn s n = false ∨ bit w 7 = false ∨ a.car.fired.getLsbD m.val = true ∨ per ≤ a.eff.trg[m].toNat →
      exec (.triggerCompare n m) s = .next s)

/-- 13 R440, R441, R446-R448, R452, R459, R461, R462, R465, R470: a slot's end keeps the code of its input - a routed
pin, the test DAC through its pair, the reference, ground - for the handover, and goes on with the next entry or the
next waiting start; in low-power mode the result of a paired witness is long due and is written. A converter that
converts nothing or is not clocked does nothing. The handover writes the raw and the corrected code, clamped to 0 to
4,095, sets the interrupt bit of a sequence that ends, and compares a paired witness (R452: no older result of the
witness overwrites a newer one). -/
def Obligations.ConversionsAreHandedOver : Prop :=
  (∀ (j : Fin 16) (v : AnalogIn) (devW : Int) (r : SarRun) (s : State), s.cnv.sar[j].run = some r →
    s.cnv.sar[j].result = none → convOn s j = true →
    let raw := fun (num : Int) => BitVec.ofInt 12 (clampInt (num / 625000) 0 4095)
    let w := runWord s 5 (0x600 + 16 * j.val + r.input.val)
    let pin := ((v.pins.find? fun p => p.1 == 32 + bits w 0 5).map (·.2)).getD 0
    let d := pairAt s (0x170 + 2 * (j.val / 2))
    let dac := clampInt (((16 * ((s.cnv.dac[convAxis j]).toNat : Int) + d.ofs.toInt) * (d.gain.toNat : Int) + 262144) /
      524288) 0 1023
    let shown := fun (p : Pair) (c : BitVec 12) =>
      let y := ((16 * (c.toNat : Int) + p.ofs.toInt) * (p.gain.toNat : Int) + 262144) / 524288
      BitVec.ofInt 16 (clampInt y 0 4095) ||| flagBit (decide (y < 0 ∨ 4095 < y)) 12
    ∃ t, exec (.sarSlotEnd j v devW) s = .next t ∧
      t = { s with cnv := t.cnv, free := s.free + if s.cnv.sar[j].lone.isSome then 2 else 1 } ∧
      (∃ x : SarRes, t.cnv.sar[j].result = some x ∧ x.run = r ∧
        (r.input.val < 5 → bit w 7 = true → x.raw = raw (1024 * ((pin : Int) + v.dev))) ∧
        (r.input.val = 5 → dacTaken s (convAxis j) = false → x.raw = raw (2500000 * dac + 1024 * v.dev)) ∧
        (r.input.val = 6 → x.raw = raw (1024 * (1250000 + v.dev))) ∧
        (r.input.val = 7 → x.raw = raw (1024 * v.dev)) ∧
        (50 < slotTicks s j → s.cnv.res.wf → s.cnv.sar[j].lone = none → s.cnv.sar[j].loneResult = none →
          ∀ y, r.wit = some y → y.input < 8 →
            s.cnv.witAt[(Fin.ofNat 32 (8 * (j.val / 4) + y.input))] ≤ r.start →
            t.cnv.res.get (0x100 + 8 * (j.val / 4) + y.input) = shown y.pair x.rawWit)) ∧
      (∀ i is, r.rest = i :: is → t.cnv.sar[j].pend = s.cnv.sar[j].pend ∧
        ∃ x, t.cnv.sar[j].run = some x ∧ x.seq = r.seq ∧ x.entry = r.entry + 1 ∧ x.input = i ∧ x.rest = is ∧
          x.irq = r.irq ∧ x.start = r.start + slotTicks s j) ∧
      (r.rest = [] → s.cnv.sar[j].pend = [] → t.cnv.sar[j].run = none) ∧
      ∀ q qs i is, r.rest = [] → s.cnv.sar[j].pend = q :: qs → seqInputs s q.seq = i :: is → t.cnv.sar[j].pend = qs ∧
        ∃ x, t.cnv.sar[j].run = some x ∧ x.seq = q.seq ∧ x.entry = 0 ∧ x.input = i ∧ x.rest = is ∧
          x.start = r.start + slotTicks s j) ∧
  (∀ (j : Fin 16) (v : AnalogIn) (devW : Int) (s : State),
    convOn s j = false ∨ (s.cnv.sar[j].run = none ∧ s.cnv.sar[j].lone = none) →
    exec (.sarSlotEnd j v devW) s = .next s) ∧
  (∀ (j : Fin 16) (s : State), s.cnv.sar[j].result = none → ∃ t, exec (.sarResultHandover j) s = .next t ∧
    t = { s with cnv := t.cnv } ∧ t.cnv.sar[j] = { s.cnv.sar[j] with loneResult := none } ∧
    (s.cnv.sar[j].loneResult = none → t = s)) ∧
  ∀ (j : Fin 16) (r : SarRes) (s : State), s.cnv.res.wf → s.cnv.sar[j].result = some r →
    let corrected := fun (p : Pair) (c : BitVec 12) =>
      ((16 * (c.toNat : Int) + p.ofs.toInt) * (p.gain.toNat : Int) + 262144) / 524288
    let shown := fun (y : Int) => BitVec.ofInt 16 (clampInt y 0 4095) ||| flagBit (decide (y < 0 ∨ 4095 < y)) 12
    let y := corrected r.run.pair r.raw
    let k := 8 * j.val + r.run.input.val
    let differs := fun (x : WitSlot) => clampInt y 0 4095 - clampInt (corrected x.pair r.rawWit) 0 4095
    ∃ t, exec (.sarResultHandover j) s = .next t ∧
      t = { s with
        cnv := t.cnv, src := t.src, mains := t.mains, axes := t.axes, store := t.store, flt := t.flt, fb := t.fb } ∧
      ((∀ x, r.run.wit = some x → (differs x).natAbs ≤ witnessLim s j.val x.kind ∧ x.input < 8) →
        t.cnv.sar[j].result = none ∧ t.cnv.sar[j].run = s.cnv.sar[j].run ∧
        t.cnv.res.get (0x80 + k) = r.raw.setWidth 16 ∧ t.cnv.res.get k = shown y ∧
        ((y < 0 ∨ 4095 < y) → t.cnv.stat.getLsbD 3 = true) ∧
        (r.run.rest = [] → r.run.irq = true →
          t.cnv.res.get 0x180 = BitVec.ofNat 16 r.run.seq ∧ t.cnv.stat.getLsbD 0 = true) ∧
        ∀ x, r.run.wit = some x → r.stored = false → s.cnv.sar[j].loneResult = none →
          s.cnv.witAt[(Fin.ofNat 32 (8 * (j.val / 4) + x.input))] ≤ r.run.start →
          t.cnv.res.get (0x100 + 8 * (j.val / 4) + x.input) = shown (corrected x.pair r.rawWit)) ∧
      ∀ x, r.run.wit = some x → witnessLim s j.val x.kind < (differs x).natAbs →
        t.cnv.witness.getLsbD (j.val / 4) = true ∧
        t.cnv.res.get (0x170 + 2 * (j.val / 4)) = BitVec.ofNat 16 (j.val % 4 + 4 * x.kind) ∧
        t.cnv.res.get (0x171 + 2 * (j.val / 4)) = BitVec.ofInt 16 (differs x)

/-- 13 R454, R455, R457, R458, R460, R461, 09 R321: a demodulator's main and fast result, the sinc3 and sinc2 sums of its
bit stream over their decimation, are written corrected and clamped, during a test the negated sum of the other two
legs; a fast result above OCLEV trips its axis; a stuck stream is reported. -/
def Obligations.FlowResultsAreTaken : Prop :=
  ∀ (d : Fin 24) (stream : List Bool) (s : State),
    let p := pairAt s (0x140 + 2 * d.val)
    let n := flowAxis d
    let mdec := 16 * 2 ^ bits (runWord s 5 (0x706 + 16 * n.val)) 0 3
    let y := fun (num : Int) (den : Nat) =>
      ((16 * num + p.ofs.toInt * (den : Int)) * (p.gain.toNat : Int) + 262144 * (den : Int)) / (524288 * (den : Int))
    let other := fun (base i : Nat) => (s.cnv.res.get (base + 3 * (d.val / 3) + (d.val + i) % 3)).toInt
    let main := if isTesting s ⟨4, d.val⟩ then -(other 0x120 1 + other 0x120 2)
      else y (32768 * sincSum 3 mdec stream) (mdec ^ 3)
    let fast := if isTesting s ⟨4, d.val⟩ then -(other 0x138 1 + other 0x138 2) else y (32768 * sincSum 2 8 stream) 64
    let value := fun (x : Int) => clampInt x (-32768) 32767
    let stat := fun (x : Int) => if x < -32768 ∨ 32767 < x then setBit s.cnv.stat 3 else s.cnv.stat
    (flowOn s d = true → exec (.mainPathResult d stream) s = .next { s with cnv := { s.cnv with
      res := s.cnv.res.put (0x120 + d.val) (BitVec.ofInt 16 (value main)), stat := stat main } }) ∧
    (flowOn s d = true → ∃ t, exec (.fastPathResult d stream) s = .next t ∧
      t = { s with cnv := t.cnv, axes := t.axes, store := t.store, flt := t.flt, fb := t.fb } ∧
      t.cnv.res = s.cnv.res.put (0x138 + d.val) (BitVec.ofInt 16 (value fast)) ∧ t.cnv.stat = stat fast ∧
      t.axes[n].trip.oc.getLsbD (d.val % 3) = decide ((tripWord s n 1).toNat < (value fast).natAbs) ∧
      (groupsFlat s → bit (tripWord s n 0) 0 = true → (tripWord s n 1).toNat < (value fast).natAbs →
        s.axes[n].trip.oc = 0 → bridgeOn s n = true →
        axSt s n ∈ [AxSt.ready, .probe, .start, .run, .stopping, .hold, .gangstop, .test] →
        axSt t n = .tripped ∧ t.axes[n].trip.causes.getLsbD 1 = true ∧ t.axes[n].trip.held = true)) ∧
    (flowOn s d = true → ∃ t, exec (.streamStuck d) s = .next t ∧
      t = { s with cnv := t.cnv, flt := t.flt, fb := t.fb } ∧ t.cnv.stuck = setBit s.cnv.stuck d.val ∧
      t.cnv.stat.getLsbD 4 = true) ∧
    (flowOn s d = false → exec (.mainPathResult d stream) s = .next s ∧ exec (.fastPathResult d stream) s = .next s ∧
      exec (.streamStuck d) s = .next s)

/-! ### Gate channels, trips and STO (chapter 09) -/

/-- 04 Table 4.5, 09 R313-R316, R318-R321, R330: what a gate channel or supply reports, a supply in boot too once it is
ready, makes its source active and, watched, trips the axis; DESAT turns the bridge's gates off and the channel off
softly; an end makes the source inactive again. -/
def Obligations.GateReportsActAndTrip : Prop :=
  (∀ (k : Fin 48) (s : State), bit (runWord s 8 (16 * k.val + 2)) 8 = true → chanDriven s k = true →
    let n := chanBridge k
    ∃ t, exec (.desatDetect k) s = .next t ∧
      t = { s with axes := t.axes, chan := t.chan, store := t.store, flt := t.flt, fb := t.fb, cnv := t.cnv } ∧
      t.chan = s.chan.set k { s.chan[k] with dsActive := true, soft := true, dsCount := satInc s.chan[k].dsCount } ∧
      (groupsFlat s → watched s n 0 = true → sourceActive s n 0 = false → axSt t n = .tripped ∧
        t.axes[n].trip.causes.getLsbD 0 = true ∧ ∀ leg high, gateOn t n leg high = false)) ∧
  (∀ (k : Fin 48) (s : State), bit (runWord s 8 (16 * k.val + 2)) 8 = false ∨ chanDriven s k = false →
    exec (.desatDetect k) s = .next s) ∧
  (∀ (k : Fin 48) (s : State),
    exec (.softTurnoffEnd k) s = .next { s with chan := s.chan.set k { s.chan[k] with dsActive := false, soft := false } } ∧
    exec (.gateVoltageMismatchEnd k) s = .next { s with chan := s.chan.set k { s.chan[k] with gateFault := false } }) ∧
  (∀ (p : Fin 32) (off : Bool) (s : State), let n := supplyBridge p
    exec (.gateSupplyRecovery p) s = .next { s with supply := s.supply.set p { onOk := true, offOk := true } } ∧
    (supplyState s n ≠ .on → exec (.supplyUndervoltage p off) s = .next s) ∧
    (supplyState s n = .on → (if off then s.supply[p].offOk else s.supply[p].onOk) = true →
      ∃ t, exec (.supplyUndervoltage p off) s = .next t ∧
        t = { s with axes := t.axes, supply := t.supply, store := t.store, flt := t.flt, fb := t.fb, cnv := t.cnv } ∧
        t.supply = s.supply.set p { onOk := s.supply[p].onOk && off, offOk := s.supply[p].offOk && !off } ∧
        (groupsFlat s → watched s n 8 = true → sourceActive s n 8 = false → axSt t n = .tripped ∧
          t.axes[n].trip.causes.getLsbD 8 = true))) ∧
  ∀ (k : Fin 48) (v : Word) (s : State), let n := chanBridge k
    let c := s.chan[k]
    gateSide s n = true →
      (c.gateFault = false → ∃ t, exec (.gateVoltageFault k v) s = .next t ∧
        t = { s with axes := t.axes, chan := t.chan, store := t.store, flt := t.flt, fb := t.fb, cnv := t.cnv } ∧
        t.chan = s.chan.set k { c with gateFault := true, vgate := v } ∧
        (groupsFlat s → watched s n 8 = true → sourceActive s n 8 = false → axSt t n = .tripped)) ∧
      ∃ t, exec (.channelTemperatureMeasure k v) s = .next t ∧
        t = { s with axes := t.axes, chan := t.chan, store := t.store, flt := t.flt, fb := t.fb, cnv := t.cnv } ∧
        t.chan = s.chan.set k { c with
          temp := v
          overTemp := if tripTemp s k < v.toInt then true else if v.toInt ≤ tripTemp s k - 100 then false
            else c.overTemp } ∧
        (c.overTemp = false → tripTemp s k < v.toInt → groupsFlat s → watched s n 8 = true → sourceActive s n 8 = false →
          axSt t n = .tripped)

/-- 09 R322, R330, R335-R338, R340, R341, Table 9.12: an external trip input is active for the bridges that take its level
as active, is noted in EXTMAP and, enabled and watched, trips their axis; the STO inputs count test pulses and release, a
demand of both trips every watched axis, HW1 and HW2 remove the gates. That each of several overlapping lows counts as a
test pulse is the model's choice (log entry 14). -/
def Obligations.TripInputsAndSafeTorqueOff : Prop :=
  (∀ (k : Fin 4) (s : State),
    let high := inputSignal s (24 + k.val)
    let u := { s with pin := { s.pin with
      extHigh := putBit s.pin.extHigh k.val high, extLow := putBit s.pin.extLow k.val !high } }
    (∃ t, exec (.externalTripInput k) s = .next t ∧ t = { u with axes := t.axes, store := t.store } ∧
      ∀ n : Fin 8,
        (bridgeOn s n = true → t.axes[n].trip.extMap = s.axes[n].trip.extMap ||| extActive u n) ∧
        (bridgeOn s n = false → t.axes[n].trip.extMap = s.axes[n].trip.extMap) ∧
        (bit (tripWord s n 0) (3 + k.val) = true → high = bit (tripWord s n 4) k.val →
          sourceActive t n 5 = true ∧ (extActive u n).getLsbD k.val = true ∧
          (watched s n 5 = true → sourceActive s n 5 = false → groupsFlat s → axSt t n = .tripped ∧
            t.axes[n].trip.causes.getLsbD 5 = true ∧ (axSt s n ≠ .tripped → t.axes[n].trip.held = true)))) ∧
    ∃ t, exec (.externalTripInputInactive k) s = .next t ∧ t = { s with pin := t.pin } ∧
      t.pin = { s.pin with extHigh := t.pin.extHigh, extLow := t.pin.extLow } ∧
      ∀ n : Fin 8, high ≠ bit (tripWord s n 4) k.val → ∀ i : Fin 4,
        (extActive t n).getLsbD i.val = (decide (i ≠ k) && (extActive s n).getLsbD i.val)) ∧
  (∀ (w : Fin 2) (high : Bool) (s : State), running s = true →
    (s.sto.input w = high → exec (.stoInputChange w high) s = .next s) ∧
    (s.sto.input w ≠ high → ∃ t, exec (.stoInputChange w high) s = .next t ∧ t = { s with sto := t.sto } ∧
      t.sto.input w = high ∧ t.sto.input (otherInput w) = s.sto.input (otherInput w) ∧
      t.sto.pulses = (if high && s.sto.isLow w then s.sto.pulses + 1 else s.sto.pulses) ∧
      (high = true → s.sto.input (otherInput w) = true → s.sto.disc = false → t.sto.source = false))) ∧
  (∀ s : State, running s = true →
    ((s.sto.in1 = true ∨ s.sto.in2 = true) → exec .stoDemand s = .next s) ∧
    (s.sto.in1 = false → s.sto.in2 = false → ∃ t, exec .stoDemand s = .next t ∧
      t = { s with sto := t.sto, axes := t.axes, store := t.store } ∧
      t.sto = { s.sto with source := true, low1 := false, low2 := false, demand := true } ∧
      (s.sto.source = false → groupsFlat s → ∀ n, watched s n 4 = true → axSt t n = .tripped ∧
        t.axes[n].trip.causes.getLsbD 4 = true ∧
        (axSt s n ≠ .tripped → ∀ leg high, gateOn t n leg high = false)))) ∧
  (∀ (w : Fin 2) (s : State), running s = true →
    (s.sto.input w = true → exec (.stoSingleInputTimeout w) s = .next s ∧ exec (.stoDiscrepancy w) s = .next s) ∧
    (s.sto.input w = false → ∃ t, exec (.stoSingleInputTimeout w) s = .next t ∧
      t = { s with sto := t.sto, axes := t.axes, store := t.store } ∧ t.sto.source = true ∧ t.sto.isLow w = false) ∧
    (s.sto.input w = false → s.sto.input (otherInput w) = true → ∃ t, exec (.stoDiscrepancy w) s = .next t ∧
      t = { s with sto := t.sto, axes := t.axes, store := t.store, flt := t.flt } ∧
      t.sto = { s.sto with disc := true, bothLow := false, source := true })) ∧
  ∀ (w : Fin 2) (s : State), ∃ x : Sto, exec (.stoHardwarePathAct w) s = .next { s with sto := x } ∧
    x = (if w = 0 then { s.sto with hw1 := !s.sto.in1 } else { s.sto with hw2 := !s.sto.in2 }) ∧
    (s.sto.input w = false → ∀ n leg, gateOn { s with sto := x } n leg (w == 0) = false)

/-! ### Angles and the rotor ladder (chapter 06) -/

/-- 06 R199, R209, R212-R218, R225-R227, R230, R232, 07 R234, R243, 11 R397, R410: a step takes 100 ns, ends a cycle of
the stitch engine and, where no begun chain and no resync waits, leaves the configuration; it turns the pace sources and
gathers travel. The mains trackers sample at their angle, lock after 10 turns within the phase limit and leave their
range: that the 10 turns are 1,280 samples and that RANGE ends with LOCK are the model's choices (log entry 58). A ladder
blends up to a better rung and ends its blend at progress 1, selecting again where that was onto an extrapolation; a
probed angle expires after HOLDT, a back-EMF lock is lost. -/
def Obligations.AnglesAndLadderMove : Prop :=
  (∀ s : State, awake s = true → ∃ t, exec .angleEngineStep s = .next t ∧
    t = { s with
      now := s.now + 20, host := t.host, cfg := t.cfg, src := t.src, paceFrac := t.paceFrac, mains := t.mains
      stitch := t.stitch, axes := t.axes, fb := t.fb, cnv := t.cnv, seam := t.seam, flt := t.flt, store := t.store
      bak := t.bak } ∧
    t.stitch.cycle = s.stitch.cycle + 1 ∧ t.stitch.outputsBefore = t.stitch.outputs ∧ t.stitch.outputActions = [] ∧
    ((∀ l c a, laneAction s l = some (c, a) → c.fresh = true) → (∀ n : Fin 8, s.axes[n].car.resyncDue = false) →
      t.cfg = s.cfg ∧ t.host = s.host ∧ t.stitch.lanes = s.stitch.lanes ∧ t.stitch.outputs = s.stitch.outputs ∧
      t.seam.time = s.seam.time + BitVec.ofInt 64 (100 + s.seam.corr)) ∧
    ∀ j : Fin 2, engineOut s = false → (∀ l c a, laneAction s l = some (c, a) → c.fresh = true) →
      let w := tailWord s (6 + j.val) 0xE0
      let rate := (joinWords (tailWord s (6 + j.val) 0xE8) (tailWord s (6 + j.val) 0xE9)).toNat
      let x : BitVec 48 := s.src[(⟨30 + j.val, by omega⟩ : Fin 32)].angle ++ s.paceFrac[j]
      let y : BitVec 48 := t.src[(⟨30 + j.val, by omega⟩ : Fin 32)].angle ++ t.paceFrac[j]
      bit w 0 = true → y = if bit w 1 then x - BitVec.ofNat 48 (paceStep rate) else x + BitVec.ofNat 48 (paceStep rate)) ∧
  (∀ s : State, awake s = false → exec .angleEngineStep s = .next s) ∧
  (∀ (k : Fin 32) (s : State), let r := s.src[k]
    (r.overCount < 1000 ∨ r.isOver = true → exec (.sourceOverSpeed k) s = .next s) ∧
    (1000 ≤ r.overCount → r.isOver = false → ∃ t, exec (.sourceOverSpeed k) s = .next t ∧
      t = { s with src := t.src, axes := t.axes, flt := t.flt, fb := t.fb, cnv := t.cnv } ∧
      t.src = s.src.set k { r with isOver := true } ∧
      ∀ n : Fin 8, n.val = k.val % 8 → k.val < 16 → isMember s n = false →
        s.axes[n].st ∈ [.run, .hold, .stopping, .gangstop] → t.axes[n].st = .stopping ∧ t.axes[n].forced = true)) ∧
  (∀ (m : Fin 2) (f : Word) (s : State), let x := s.mains[m]
    let w := tailWord s m.val 0xE0
    let j : Fin 16 := Fin.ofNat 16 (bits w 1 4)
    (bit w 0 = true → mainsRuns s m = true →
      (x.steady = 1280 → 45000 ≤ x.freq → x.freq ≤ 65000 → exec (.mainsLock m) s = .next { s with
        mains := s.mains.set m { x with lock := true, range := false, lastLocked := x.freq } }) ∧
      (x.steady ≠ 1280 ∨ x.freq < 45000 ∨ 65000 < x.freq → exec (.mainsLock m) s = .next s) ∧
      (x.range = false → f.toNat < 4500 ∨ 6500 < f.toNat → ∃ t, exec (.mainsOutOfRange m f) s = .next t ∧
        t = { s with mains := t.mains, flt := t.flt, fb := t.fb, cnv := t.cnv } ∧
        t.mains = s.mains.set m { x with lock := false, range := true, freq := 10 * f.toNat })) ∧
    (sampleDue s m = false → exec (.mainsTrackerSample m) s = .next s) ∧
    (bit w 0 = true → domainDead s (196 + m.val) = false → sampleDue s m = true →
      ∃ t, exec (.mainsTrackerSample m) s = .next t ∧
      t = { s with
        cnv := t.cnv, mains := s.mains.set m { x with nextSample := (x.nextSample + 1) % 128 } } ∧
      (convOn s j = true → isTesting s ⟨2, j.val⟩ = false → isLasting s ⟨2, j.val⟩ = false →
        s.cnv.sar[j].run = none → ∃ r, t.cnv.sar[j].run = some r ∧ r.seq = 64 + m.val ∧ r.input.val = bits w 5 3 ∧
          r.rest = [] ∧ r.start = s.now + 2)) ∧
    (bit w 0 = false ∨ mainsRuns s m = false →
      exec (.mainsLock m) s = .next s ∧ exec (.mainsOutOfRange m f) s = .next s) ∧
    (bit w 0 = false ∨ domainDead s (196 + m.val) = true → exec (.mainsTrackerSample m) s = .next s)) ∧
  ∀ (n : Fin 8) (s : State), let a := s.axes[n]
    (isMember s n = false → awake s = true → ladderRuns s n = true → a.ladder.blend = none → a.ladder.active ≠ .none →
      (upgradeRung s n = none → exec (.ladderUpgrade n) s = .next s) ∧
      ∀ r, upgradeRung s n = some r → ∃ b : Blend, exec (.ladderUpgrade n) s = .next (withAxis n { a with
          ladder := { a.ladder with blend := some b, blendP := 0, reqTravel := Vector.replicate 5 0 } } s) ∧
        b.upgrade = true ∧ b.fromRung = a.ladder.active ∧ b.toRung = r ∧ b.travel = 0 ∧ b.elapsed = 0) ∧
    (∀ b, a.ladder.blend = some b → 65536 ≤ b.progress → b.inEx = none → ∃ p : Probe,
      exec (.blendComplete n) s = .next (withAxis n { a with
        probe := p
        ladder := { a.ladder with active := b.toRung, blend := none, blendP := 0,
                                  reqTravel := Vector.replicate 5 0 } } s)) ∧
    (∀ b e, a.ladder.blend = some b → 65536 ≤ b.progress → b.inEx = some e → ∃ t, exec (.blendComplete n) s = .next t ∧
      t = { s with axes := t.axes, store := t.store, flt := t.flt, fb := t.fb, cnv := t.cnv } ∧
      ((∀ r ∈ rungRanks, qualifies s n r = false) →
        t.axes[n].ladder.active = .none ∧ t.axes[n].ladder.blend = none) ∧
      ∀ r ∈ [Rung.seam, .enc, .bemf, .inj], qualifies s n r = true → t.axes[n].ladder.active = b.toRung ∧
        ∃ c, t.axes[n].ladder.blend = some c ∧ c.upgrade = false ∧ c.fromRung = b.toRung ∧ c.outEx = some e ∧
          c.toRung.rank ≤ r.rank ∧ c.inEx = none ∧ c.travel = 0 ∧ c.elapsed = 0) ∧
    (∀ b, a.ladder.blend = some b → b.progress < 65536 → exec (.blendComplete n) s = .next s) ∧
    (a.probe.holdAt + holdTime s n ≤ s.now → ∃ t, exec (.probeHoldExpiry n) s = .next t ∧
      t.axes[n].probe.holdValid = false ∧
      t = { s with axes := t.axes, src := t.src, store := t.store, flt := t.flt, fb := t.fb, cnv := t.cnv }) ∧
    (s.now < a.probe.holdAt + holdTime s n → exec (.probeHoldExpiry n) s = .next s) ∧
    ∃ t, exec (.bemfCrossingTimeout n) s = .next t ∧ t.axes[n].bemf.locked = false ∧
      t = { s with axes := t.axes, src := t.src, store := t.store, flt := t.flt, fb := t.fb, cnv := t.cnv }

/-! ### Drive control and the probe (chapters 10 and 11) -/

/-- 10 R371-R377, R379, R380, 11 R386, R390-R394: the events that move an axis: the brake, the command channel, a locked
rotor, and the pulses, attempts and outcomes of a probe, whose switches are off between its pulses. That PQUAL shows a
quality above 8,191 as 8,191 is the model's choice (log entry 108). -/
def Obligations.DriveAndProbeEvents : Prop :=
  (∀ (n : Fin 8) (s : State), let a := s.axes[n]
    (isMember s n = false → a.st = .start → a.brake = false → a.drv.ending = false →
      a.drv.iref = 200000 * a.eff.preTq.toInt → ∃ t, exec (.brakeRelease n) s = .next t ∧ t = { s with axes := t.axes } ∧
        t.axes[n].brake = true ∧ t.axes[n].stat.getLsbD 5 = true ∧
        (brktOf s n = 0 → t.axes[n].st = .run) ∧ (brktOf s n ≠ 0 → t.axes[n].drv.wait = .toRun)) ∧
    (isMember s n = false → a.drv.wait = .toRun → a.st = .start → ∃ t, exec (.brakeTimeEnd n) s = .next t ∧
      t = { s with axes := t.axes } ∧ t.axes[n].st = .run ∧ t.axes[n].drv.wait = .none) ∧
    (a.drv.wait = .toReady → carrierOn s n = true → exec (.brakeTimeEnd n) s = .next (withAxis n
      { a with drv := { a.drv with wait := .none, offNext := true } } s)) ∧
    (a.drv.wait = .none → exec (.brakeTimeEnd n) s = .next s)) ∧
  (∀ (n : Fin 8) (period high : Nat) (s : State), let a := s.axes[n]
    (∀ x, edgeInput a.eff.cmdSrc.toNat period high = some x → signalRouted s (28 + n.val) = true →
      bridgeOn s n = true → exec (.commandInputEdge n period high) s =
      .next (withAxis n { a with drv := { a.drv with
        xNow := BitVec.ofNat 16 x
        inAt := s.now
        cmdNow := clampInt ((((x : Int) - (axWord s n 2).toNat) * (axWord s n 3).toInt).tdiv 32768) (-32767) 32767 } } s)) ∧
    (edgeInput a.eff.cmdSrc.toNat period high = none ∨ signalRouted s (28 + n.val) = false ∨ bridgeOn s n = false →
      exec (.commandInputEdge n period high) s = .next s) ∧
    (a.eff.cmdSrc = 2 → 10000 ≤ period → period ≤ 4000000 → high ≤ period →
      edgeInput a.eff.cmdSrc.toNat period high = some (min 65535 (high * 65536 / period)))) ∧
  (∀ (n : Fin 8) (s : State), let a := s.axes[n]
    (commandOut s n = true → a.drv.cmdLost = false → ∃ t, exec (.commandLoss n) s = .next t ∧
      t = { s with axes := t.axes, flt := t.flt, fb := t.fb, cnv := t.cnv } ∧ t.axes[n].drv.cmdLost = true ∧
      (isMember s n = false → a.st ∈ [.run, .hold, .stopping, .gangstop] →
        t.axes[n].st = .stopping ∧ t.axes[n].forced = true ∧ t.axes[n].stat.getLsbD 1 = true)) ∧
    (commandOut s n = false → exec (.commandLoss n) s = .next s ∧ exec (.commandRestore n) s = .next (withAxis n
      { a with drv := { a.drv with cmdLost := false } } s)) ∧
    (commandOut s n = true → exec (.commandRestore n) s = .next s) ∧
    (a.drv.lrStart.isSome = true → a.drv.ending = false → a.st = .run ∨ a.st = .stopping → carrierOn s n = true →
      ∃ t, exec (.lockedRotor n) s = .next t ∧ t = { s with axes := t.axes, flt := t.flt, fb := t.fb, cnv := t.cnv } ∧
        t.axes[n].brake = false ∧ t.axes[n].stat.getLsbD 2 = true ∧ t.axes[n].drv.lrStart = none ∧
        t.axes[n].drv.ending = true) ∧
    (a.drv.lrStart = none → exec (.lockedRotor n) s = .next s)) ∧
  ∀ (n : Fin 8) (s : State), isMember s n = false → s.axes[n].st = .probe → s.axes[n].probe.running = true →
    let a := s.axes[n]
    let p := a.probe
    let r := probeResult p.peaks 0
    let moved := fun (t : State) => t = { s with axes := t.axes, flt := t.flt, fb := t.fb, cnv := t.cnv } ∧
      t.axes[n].probe.outcome = 4 ∧ t.axes[n].probe.running = false ∧ (a.eff.en = true → t.axes[n].st = .ready)
    (p.attemptOver = false → p.inPulse = true → p.moved = false → ∃ t, exec (.probePulseTiming n) s = .next t ∧
      t = { s with axes := t.axes } ∧ t.axes[n].st = .probe ∧
      t.axes[n].probe = { p with inPulse := false, pulseEnd := s.now } ∧
      (∀ m : Fin 8, m ∉ groupOf s n → t.axes[m] = s.axes[m]) ∧
      ∀ m ∈ groupOf s n, ∀ leg high, gateOn t m leg high = false) ∧
    (p.attemptOver = false → p.inPulse = true → p.moved = true →
      ∃ t, exec (.probePulseTiming n) s = .next t ∧ moved t) ∧
    (p.attemptOver = false → p.inPulse = false → p.pulse < 11 → exec (.probePulseTiming n) s =
      .next (withAxis n { a with probe := { p with pulse := p.pulse + 1, inPulse := true, got := 0 } } s)) ∧
    (p.attemptOver = false → p.inPulse = false → 11 ≤ p.pulse → exec (.probePulseTiming n) s =
      .next (withAxis n { a with probe := { p with attemptOver := true } } s)) ∧
    (p.attemptOver = true → exec (.probePulseTiming n) s = .next s) ∧
    (p.attemptOver = true → p.moved = true → ∃ t, exec (.probeAttemptEnd n) s = .next t ∧ moved t) ∧
    (p.attemptOver = true → p.moved = false → p.peaks.foldl (· + ·) 0 ≠ 0 →
      ∃ t, exec (.probeAttemptEnd n) s = .next t ∧
        t = { s with axes := t.axes, cfg := t.cfg, src := t.src, store := t.store, flt := t.flt, fb := t.fb, cnv := t.cnv
                     free := t.free } ∧
        t.axes[n].probe.quality = BitVec.ofNat 13 (min r.1 8191) ∧
        (probeQmin s n ≤ r.1 → t.axes[n].probe.outcome = 1 ∧ t.axes[n].probe.angle = r.2 ∧
          t.axes[n].probe.holdValid = true ∧ t.axes[n].probe.holdAt = s.now ∧
          (p.thenStart = false → a.eff.en = true → t.axes[n].st = .ready) ∧
          (p.thenStart = true → a.drv.cmdLost = false → (∀ m c, sourceActive s m c = false) →
            t.axes[n].st = .start)) ∧
        (r.1 < probeQmin s n → p.attempt < 4 → t.axes[n].st = .probe ∧ t.axes[n].probe.attempt = p.attempt + 1 ∧
          t.axes[n].probe.width = min 200 (2 * p.width) ∧ t.axes[n].probe.pulse = 0 ∧ t.axes[n].probe.inPulse = true) ∧
        (r.1 < probeQmin s n → 4 ≤ p.attempt → t.axes[n].probe.outcome = 2 ∧ t.axes[n].probe.running = false ∧
          (a.eff.en = true → t.axes[n].st = .ready)))

/-! ### Quadrature feedback (chapter 12) -/

/-- 12 R412, R414, R415, R417, R420-R426, R429, R432, R436, 14 R481: an edge counts by Table 12.1 with DIRINV, and nothing
else does; a change of both lines is a phase error, whose new state is the reference; an input that follows no pin reads
0. A sample in which Z becomes active is an index event where it qualifies; it latches the count and clears it as its
mode says. Pulses, windows and the time-out; a disabled interface does nothing. -/
def Obligations.EdgesAreCounted : Prop :=
  (∀ (n : Fin 8) (ab : AbSample) (sub : Nat) (s : State), fbOn s n = true →
    let f := s.fb[n]
    let a := ab.a && signalRouted s n.val
    let b := ab.b && signalRouted s (8 + n.val)
    let up := [(false, false, true, false), (true, false, true, true), (true, true, false, true),
      (false, true, false, false)].contains (f.a, f.b, a, b)
    let both := f.a != a && f.b != b
    let step : Int := if up != bit (fbWord s n) 1 then 1 else -1
    let quiet := ladderRuns s (leaderOf s n) = false ∧ watchOn s = false
    (both = false → (f.a, f.b) ≠ (a, b) → fbTesting s n = false →
      ∃ (t : State) (p : Probe), exec (.quadEdge n ab sub) s = .next t ∧
        t = { s with fb := t.fb, axes := t.axes, bak := t.bak, flt := t.flt, store := t.store, cnv := t.cnv } ∧
        (∀ m, m ≠ n → t.fb[m] = s.fb[m]) ∧
        t.fb[n].count = f.count + BitVec.ofInt 32 step ∧ t.fb[n].a = a ∧ t.fb[n].b = b ∧
        t.fb[n].rev = decide (step < 0) ∧ t.fb[n].phCnt = f.phCnt ∧ t.fb[n].winNet = f.winNet + step ∧
        (f.arm = true → f.spacing ≠ 0 → t.fb[n].count = f.cmp → (0 < step ↔ 0 < f.spacing.toInt) →
          t.fb[n].hits = f.hits + 1 ∧ t.fb[n].cmp = f.cmp + f.spacing ∧ t.fb[n].hitSig = true ∧
          t.fb[n].arm = !f.oneshot) ∧
        (f.arm = false ∨ f.spacing = 0 ∨ t.fb[n].count ≠ f.cmp ∨ ¬ (0 < step ↔ 0 < f.spacing.toInt) →
          t.fb[n].hits = f.hits ∧ t.fb[n].cmp = f.cmp ∧ t.fb[n].arm = f.arm) ∧
        (s.axes[n].probe.running = false → p = s.axes[n].probe) ∧
        (quiet → t = { withAxis n { s.axes[n] with
          enc := { acc := stepAcc s n step, sinceError := s.axes[n].enc.sinceError.map (· + 1) }, probe := p } s with
            fb := t.fb })) ∧
    (both = false → (f.a, f.b) = (a, b) → ∃ t, exec (.quadEdge n ab sub) s = .next t ∧ t.fb = s.fb ∧
      (quiet → t = s)) ∧
    (both = true → ∃ t, exec (.quadEdge n ab sub) s = .next t ∧
      t = { s with fb := t.fb, axes := t.axes, bak := t.bak, flt := t.flt, store := t.store, cnv := t.cnv } ∧
      t.fb[n].count = f.count ∧ t.fb[n].phCnt = satInc f.phCnt ∧ t.fb[n].a = a ∧ t.fb[n].b = b ∧
      t.fb[n].stat.getLsbD 0 = true)) ∧
  (∀ (n : Fin 8) (ab : AbSample) (sub : Nat) (z : Bool) (s : State), fbOn s n = false →
    exec (.quadEdge n ab sub) s = .next s ∧ exec (.indexEvent ⟨n, z⟩) s = .next s ∧ exec (.countWindowEnd n) s = .next s ∧
    exec (.speedZeroTimeout n) s = .next s) ∧
  ∀ (n : Fin 8) (z : Bool) (s : State), let f := s.fb[n]
    let active := (z && signalRouted s (16 + n.val)) != bit (fbWord s n) 2
    let event := active = true ∧ f.z = false ∧ idxQualified s n = true
    exec (.hitPulseEnd n) s = .next { s with fb := s.fb.set n { f with hitSig := false } } ∧
    (fbOn s n = true → fbTesting s n = false →
      (event → ∃ g : Fb, exec (.indexEvent ⟨n, z⟩) s = .next { s with fb := s.fb.set n g } ∧
        g.z = true ∧ g.idxCnt = f.count ∧ g.sinceIdx = some 0 ∧ g.stat.getLsbD 2 = true ∧
        (f.idxMode = 1 ∨ f.idxMode = 2 → g.count = 0 ∧ g.stat.getLsbD 3 = true) ∧
        (f.idxMode ≠ 1 → f.idxMode ≠ 2 → g.count = f.count) ∧
        g.idxMode = if f.idxMode = 2 then 0 else f.idxMode) ∧
      (¬ event → exec (.indexEvent ⟨n, z⟩) s = .next { s with fb := s.fb.set n { f with z := active } }) ∧
      (∃ l, exec (.speedZeroTimeout n) s = .next { s with
          fb := s.fb.set n { f with stamps := l, speed := if f.cntMeth then f.speed else 0 } } ∧
        (f.stamps = [] → l = []) ∧ ∀ e r, f.stamps = e :: r → l = { e with zto := true } :: r) ∧
      ∃ g : Fb, exec (.countWindowEnd n) s = .next { s with fb := s.fb.set n g } ∧ g.count = f.count ∧ g.winNet = 0 ∧
        (f.cntMeth = true → g.speed = (f.winNet * 1600000).tdiv (cwinOf s n : Nat) ∧
          g.cntMeth = decide (chgLo s n * cwinOf s n ≤ f.winNet.natAbs * 100000)) ∧
        (f.cntMeth = false → g.speed = f.speed ∧ g.cntMeth = f.wantCnt))

/-! ### The Seam link (chapter 15) -/

/-- 15 R509, R510, R519, R520, R527, R531, R542, R547, R553-R555, Table 15.6: a cycle publishes and ages the
subscriptions; links come up and go down with a fault; a bad frame has no effect but its count; alerts and stale
channels break a gang. That a Seam time stepped back starts no cycle, that a port keeps its queue while its link is
down, and that a frame of another FORMAT is dropped but for the answer to its message are the model's choices (log
entries 70, 46, 117). -/
def Obligations.SeamEventsAct : Prop :=
  (∀ s : State, let k := s.seam.time.toNat / 25000
    (awake s = false ∨ k ≤ s.seam.cycle → exec .seamCycleStart s = .next s) ∧
    (awake s = true → s.seam.cycle < k → ∃ t, exec .seamCycleStart s = .next t ∧
      t = { s with
        seam := t.seam, axes := t.axes, src := t.src, store := t.store, flt := t.flt, fb := t.fb, cnv := t.cnv } ∧
      t.seam.cycle = k ∧ t.seam.time = s.seam.time ∧
      (∀ j : Fin 4, subOn s j = true →
        t.seam.subs[j].missed = if s.seam.subs[j].fresh then 0 else satInc s.seam.subs[j].missed) ∧
      ∀ q : Fin 2, pubOn s q = true → speaks s = true → t.seam.pubs[q].seq = s.seam.pubs[q].seq + 1)) ∧
  (∀ (p : Fin 4) (s : State), let q := s.seam.ports[p]
    (awake s = true → portOn s p = true → q.up = false → portDead s p = false → isTesting s ⟨9, p.val⟩ = false →
      ∃ t, exec (.seamLinkUp p) s = .next t ∧ t = { s with seam := t.seam } ∧ t.seam.ports[p].up = true ∧
        t.seam.ports[p].queue = q.queue ∧ t.seam.ports[p].badFrames = q.badFrames) ∧
    (q.up = true → exec (.seamLinkUp p) s = .next s) ∧
    (awake s = true → portOn s p = true → q.up = true → ∃ t, exec (.seamLinkDown p) s = .next t ∧
      t = { s with seam := t.seam, flt := t.flt, fb := t.fb, cnv := t.cnv } ∧ t.seam.ports[p].up = false ∧
      t.seam.ports[p].queue = q.queue ∧ t.seam.stat.getLsbD 12 = true) ∧
    (q.up = false → exec (.seamLinkDown p) s = .next s)) ∧
  (∀ (p : Fin 4) (rx : RxFrame) (s : State), let q := s.seam.ports[p]
    let late := q.badTimes.filter fun x => decide (s.now < x + 200000000)
    let good := crc32Bytes (rx.bytes.take 287) = dwordAt rx.bytes 288
    let f := parseFrame rx.bytes
    (portLive s p = false → exec (.seamFrameReceived p rx) s = .next s) ∧
    (portLive s p = true → ¬ good → late.length < 3 → exec (.seamFrameReceived p rx) s =
      .next { s with seam := { s.seam with
        ports := s.seam.ports.set p { q with badFrames := satInc q.badFrames, badTimes := late ++ [s.now] } } }) ∧
    (portLive s p = true → ¬ good → 3 ≤ late.length → ∃ t, exec (.seamFrameReceived p rx) s = .next t ∧
      t = { s with seam := t.seam, flt := t.flt, fb := t.fb, cnv := t.cnv } ∧
      t.seam.ports[p].badFrames = satInc q.badFrames ∧ t.seam.stat.getLsbD 12 = true) ∧
    (portLive s p = true → good → f.format ≠ 1 →
      let mine := fun m : Msg => takesMessages s p = true ∧ answered m.kind = true ∧ m.broadcast = false ∧
        ownId s = some m.dst
      ((∀ m, f.msg = some m → ¬ mine m) → exec (.seamFrameReceived p rx) s = .next s) ∧
      ∀ m, f.msg = some m → mine m → speaks s = true →
        let o := (routeTo s m.src).getD p
        queueFull s o = false → ∃ r : Msg, r.kind = msgResponse ∧ r.dst = m.src ∧ r.seq = m.seq ∧
          r.status = MsgStatus.format.code ∧ exec (.seamFrameReceived p rx) s = .next { s with seam := { s.seam with
            ports := s.seam.ports.set o { s.seam.ports[o] with queue := s.seam.ports[o].queue ++ [r] } } }) ∧
    (portLive s p = true → good → f.format = 1 → ∃ t, exec (.seamFrameReceived p rx) s = .next t ∧
      t = { s with boot := t.boot, axes := t.axes, fb := t.fb, cnv := t.cnv, seam := t.seam, flt := t.flt } ∧
      t.seam.ports[p].tree = some f.tree ∧
      t.seam.ports[p].sender = f.sender ∧ t.seam.ports[p].neighbour = f.sender ∧ t.seam.ports[p].queue = q.queue)) ∧
  (∀ (p : Fin 4) (g : BitVec 8) (k : AlertKind) (s : State),
    (portLive s p = false ∨ s.seam.ports[p].role = 3 → exec (.seamAlertReceived p g k) s = .next s) ∧
    (portLive s p = true → s.seam.ports[p].role ≠ 3 → ∃ t, exec (.seamAlertReceived p g k) s = .next t ∧
      t = { s with seam := t.seam, axes := t.axes } ∧ t.seam.ports[p].alerts = s.seam.ports[p].alerts + 1 ∧
      (g = gangNumber s → g ≠ 0 → t.seam.gang.formed = false ∧ (s.seam.gang.formed = true → ∀ n, gangAxis s n = true →
        isMember s n = false → s.axes[n].st.gangRun = true → t.axes[n].st = .gangstop)) ∧
      (g ≠ gangNumber s → t.seam.gang = s.seam.gang ∧ t.axes = s.axes))) ∧
  (∀ s : State, awake s = true → gangNumber s ≠ 0 →
    let stale := (isLeader s = true ∧ ∃ m : Fin 8, m ≠ 0 ∧ memOn s m = true ∧ s.seam.mems[m].stale = true) ∨
      (isLeader s = false ∧ ∀ k, sharedSub s = some k → s.seam.subs[k].stale = true)
    (stale → ∃ t, exec .gangStaleTimeout s = .next t ∧ t = { s with seam := t.seam, axes := t.axes } ∧
      t.seam.gang.formed = false ∧ (s.seam.gang.formed = true →
        (isLeader s = true → t.seam.stat.getLsbD 6 = true ∧ t.seam.gang.brokenLeft = 8) ∧
        ∀ n, gangAxis s n = true → isMember s n = false → s.axes[n].st.gangRun = true → t.axes[n].st = .gangstop)) ∧
    (¬ stale → exec .gangStaleTimeout s = .next s)) ∧
  ∀ (k : Fin 4) (s : State),
    (s.seam.sess[k].isOpen = false → exec (.sessionTimeout k) s = .next s) ∧
    (s.seam.sess[k].isOpen = true → ∃ t, exec (.sessionTimeout k) s = .next t ∧
      t = { s with
        boot := t.boot, axes := t.axes, fb := t.fb, cnv := t.cnv, seam := t.seam, flt := t.flt, store := t.store } ∧
      t.seam.sess[k] = resetSession ∧ t.seam.stat.getLsbD 7 = true ∧
      ∀ i, i ≠ k → t.seam.sess[i] = s.seam.sess[i])

/-- 15 R540-R544, Tables 15.5, 15.6, 15.9: a message addressed to this module opens or closes a session, is served
once, or fills the inbox; every request is answered on the route to its sender, one with a bad slot with LENGTH or FORMAT;
a message for another device goes on with TTL less 1; every message keeps the session of its sender alive. That byte 2i
lies in the high half of word i of the inbox is the model's choice (log entry 48). -/
def Obligations.MessagesAreDelivered : Prop :=
  ∀ (p : Fin 4) (m : Msg) (s : State), takesMessages s p = true → m.broadcast = false →
    (s.seam.epochs.find? fun x => x.1 == m.src) = some (m.src, m.epoch) →
    let answers := fun (q : Fin 4) (t : State) (r : Msg) => t.seam.ports[q].queue = s.seam.ports[q].queue ++ [r]
    let heard := match sessionOf s m.src with
      | some k => s.seam.sess.set k { s.seam.sess[k] with since := s.now }
      | none => s.seam.sess
    (ownId s = some m.dst → speaks s = true → answered m.kind = true → slotStatus m ≠ .ok →
      (slotStatus m = .length ↔ 48 < m.len.toNat) ∧ ∀ q, routeTo s m.src = some q → queueFull s q = false →
        ∃ r : Msg, r.kind = msgResponse ∧ r.dst = m.src ∧ r.seq = m.seq ∧ r.status = (slotStatus m).code ∧
          ∀ c, (m.kind = msgOpen ∧ c = Instr.openMsg p m ∨ m.kind = msgRequest ∧ c = Instr.request p m) →
            exec c s = .next { s with seam := { s.seam with
              sess := heard
              ports := s.seam.ports.set q { s.seam.ports[q] with queue := s.seam.ports[q].queue ++ [r] } } }) ∧
    (ownId s = some m.dst → speaks s = true → slotStatus m = .ok →
      (∀ q, routeTo s m.src = some q → queueFull s q = false →
        (∀ k, m.kind = msgOpen → (sessionOf s m.src = some k ∨ sessionOf s m.src = none ∧
            allSessions.find? (fun i => !s.seam.sess[i].isOpen) = some k) →
          ∃ t, exec (.openMsg p m) s = .next t ∧ t = { s with seam := t.seam, store := t.store } ∧
            t.seam.sess[k] = { resetSession with isOpen := true, peer := m.src, epoch := m.epoch, since := s.now } ∧
            ∃ r, answers q t r ∧ r.kind = msgResponse ∧ r.dst = m.src ∧ r.seq = m.seq ∧ r.sess = BitVec.ofNat 8 k.val ∧
              r.status = 0) ∧
        (∀ k, m.kind = msgClose → openTo s m.sess m.src = some k → ∃ t, exec (.closeMsg p m) s = .next t ∧
          t = { s with seam := t.seam, store := t.store } ∧ t.seam.sess[k] = resetSession ∧
          ∃ r, answers q t r ∧ r.kind = msgResponse ∧ r.seq = m.seq ∧ r.status = 0) ∧
        (∀ k, m.kind = msgRequest → openTo s m.sess m.src = some k → sessionOf s m.src = some k → m.len = 0 →
          s.seam.sess[k].lastSeq ≠ some m.seq → ∃ t, exec (.request p m) s = .next t ∧ t = { s with seam := t.seam } ∧
            ∃ r, answers q t r ∧ r.kind = msgResponse ∧ r.seq = m.seq ∧ r.status = 0 ∧ r.len = 0 ∧
              t.seam.sess[k] = { s.seam.sess[k] with since := s.now, lastSeq := some m.seq, stored := some r }) ∧
        (∀ k r, m.kind = msgRequest → openTo s m.sess m.src = some k → sessionOf s m.src = some k →
          s.seam.sess[k].lastSeq = some m.seq → s.seam.sess[k].stored = some r → r.dst = m.src →
          ∃ t, exec (.request p m) s = .next t ∧ t = { s with seam := t.seam } ∧ answers q t r ∧
            t.seam.sess[k] = { s.seam.sess[k] with since := s.now }) ∧
        (m.kind = msgRequest → openTo s m.sess m.src = none → ∃ t, exec (.request p m) s = .next t ∧
          t = { s with seam := t.seam } ∧ ∃ r, answers q t r ∧ r.kind = msgResponse ∧ r.status = 3)) ∧
      ∀ c, (m.kind = msgResponse ∧ c = Instr.response p m ∨ m.kind = msgNote ∧ c = Instr.note p m) →
        ∃ t, exec c s = .next t ∧ t = { s with seam := t.seam } ∧ t.seam.full = true ∧
          (s.seam.full = false → t.seam.inbox = WordMem.putList [] 0 (msgWords m) ∧ t.seam.stat.getLsbD 9 = true) ∧
          (s.seam.full = true → t.seam.inbox = s.seam.inbox ∧ t.seam.stat.getLsbD 11 = true)) ∧
    (ownId s ≠ some m.dst → 1 < m.ttl.toNat → ∀ q, routeTo s m.dst = some q → queueFull s q = false →
      exec (.messageRelay p m) s = .next { s with seam := { s.seam with
        sess := heard
        ports := s.seam.ports.set q { s.seam.ports[q] with
          queue := s.seam.ports[q].queue ++ [{ m with ttl := m.ttl - 1 }] } } }) ∧
    (ownId s ≠ some m.dst → m.ttl.toNat ≤ 1 →
      exec (.messageRelay p m) s = .next { s with seam := { s.seam with sess := heard } })
end

