-- ==== Sys2Proof/Laws/Frames.lean ====
section
/-! SUPPORT. What each operation leaves alone: for every function on states, the parts of the state it never
changes. Each is a simp rule, so a proof need not unfold the function. -/

set_option linter.unusedSimpArgs false

namespace Sys2Proof.Machine

theorem ite_pending (c : Prop) [Decidable c] (a b : State) : (if c then a else b).pending = if c then a.pending else b.pending :=
  apply_ite State.pending c a b

@[simp] theorem forEach_pending {α : Type} (l : List α) (g : α → State → State) (s : State)
    (h : ∀ a t, (g a t).pending = t.pending) : (forEach l g s).pending = s.pending := by
  unfold forEach
  induction l generalizing s with
  | nil => rfl
  | cons a r ih => simp only [List.foldl_cons, ih, h]

@[simp] theorem foldl_pending {α : Type} (l : List α) (g : State → α → State) (s : State)
    (h : ∀ t a, (g t a).pending = t.pending) : (l.foldl g s).pending = s.pending := by
  induction l generalizing s with
  | nil => rfl
  | cons a r ih => simp only [List.foldl_cons, ih, h]

theorem ite_now (c : Prop) [Decidable c] (a b : State) : (if c then a else b).now = if c then a.now else b.now :=
  apply_ite State.now c a b

@[simp] theorem forEach_now {α : Type} (l : List α) (g : α → State → State) (s : State)
    (h : ∀ a t, (g a t).now = t.now) : (forEach l g s).now = s.now := by
  unfold forEach
  induction l generalizing s with
  | nil => rfl
  | cons a r ih => simp only [List.foldl_cons, ih, h]

@[simp] theorem foldl_now {α : Type} (l : List α) (g : State → α → State) (s : State)
    (h : ∀ t a, (g t a).now = t.now) : (l.foldl g s).now = s.now := by
  induction l generalizing s with
  | nil => rfl
  | cons a r ih => simp only [List.foldl_cons, ih, h]

theorem ite_free (c : Prop) [Decidable c] (a b : State) : (if c then a else b).free = if c then a.free else b.free :=
  apply_ite State.free c a b

@[simp] theorem forEach_free {α : Type} (l : List α) (g : α → State → State) (s : State)
    (h : ∀ a t, (g a t).free = t.free) : (forEach l g s).free = s.free := by
  unfold forEach
  induction l generalizing s with
  | nil => rfl
  | cons a r ih => simp only [List.foldl_cons, ih, h]

@[simp] theorem foldl_free {α : Type} (l : List α) (g : State → α → State) (s : State)
    (h : ∀ t a, (g t a).free = t.free) : (l.foldl g s).free = s.free := by
  induction l generalizing s with
  | nil => rfl
  | cons a r ih => simp only [List.foldl_cons, ih, h]

theorem ite_power (c : Prop) [Decidable c] (a b : State) : (if c then a else b).power = if c then a.power else b.power :=
  apply_ite State.power c a b

@[simp] theorem forEach_power {α : Type} (l : List α) (g : α → State → State) (s : State)
    (h : ∀ a t, (g a t).power = t.power) : (forEach l g s).power = s.power := by
  unfold forEach
  induction l generalizing s with
  | nil => rfl
  | cons a r ih => simp only [List.foldl_cons, ih, h]

@[simp] theorem foldl_power {α : Type} (l : List α) (g : State → α → State) (s : State)
    (h : ∀ t a, (g t a).power = t.power) : (l.foldl g s).power = s.power := by
  induction l generalizing s with
  | nil => rfl
  | cons a r ih => simp only [List.foldl_cons, ih, h]

theorem ite_host (c : Prop) [Decidable c] (a b : State) : (if c then a else b).host = if c then a.host else b.host :=
  apply_ite State.host c a b

@[simp] theorem forEach_host {α : Type} (l : List α) (g : α → State → State) (s : State)
    (h : ∀ a t, (g a t).host = t.host) : (forEach l g s).host = s.host := by
  unfold forEach
  induction l generalizing s with
  | nil => rfl
  | cons a r ih => simp only [List.foldl_cons, ih, h]

@[simp] theorem foldl_host {α : Type} (l : List α) (g : State → α → State) (s : State)
    (h : ∀ t a, (g t a).host = t.host) : (l.foldl g s).host = s.host := by
  induction l generalizing s with
  | nil => rfl
  | cons a r ih => simp only [List.foldl_cons, ih, h]

theorem ite_lat (c : Prop) [Decidable c] (a b : State) : (if c then a else b).lat = if c then a.lat else b.lat :=
  apply_ite State.lat c a b

@[simp] theorem forEach_lat {α : Type} (l : List α) (g : α → State → State) (s : State)
    (h : ∀ a t, (g a t).lat = t.lat) : (forEach l g s).lat = s.lat := by
  unfold forEach
  induction l generalizing s with
  | nil => rfl
  | cons a r ih => simp only [List.foldl_cons, ih, h]

@[simp] theorem foldl_lat {α : Type} (l : List α) (g : State → α → State) (s : State)
    (h : ∀ t a, (g t a).lat = t.lat) : (l.foldl g s).lat = s.lat := by
  induction l generalizing s with
  | nil => rfl
  | cons a r ih => simp only [List.foldl_cons, ih, h]

theorem ite_win (c : Prop) [Decidable c] (a b : State) : (if c then a else b).win = if c then a.win else b.win :=
  apply_ite State.win c a b

@[simp] theorem forEach_win {α : Type} (l : List α) (g : α → State → State) (s : State)
    (h : ∀ a t, (g a t).win = t.win) : (forEach l g s).win = s.win := by
  unfold forEach
  induction l generalizing s with
  | nil => rfl
  | cons a r ih => simp only [List.foldl_cons, ih, h]

@[simp] theorem foldl_win {α : Type} (l : List α) (g : State → α → State) (s : State)
    (h : ∀ t a, (g t a).win = t.win) : (l.foldl g s).win = s.win := by
  induction l generalizing s with
  | nil => rfl
  | cons a r ih => simp only [List.foldl_cons, ih, h]

theorem ite_cfg (c : Prop) [Decidable c] (a b : State) : (if c then a else b).cfg = if c then a.cfg else b.cfg :=
  apply_ite State.cfg c a b

@[simp] theorem forEach_cfg {α : Type} (l : List α) (g : α → State → State) (s : State)
    (h : ∀ a t, (g a t).cfg = t.cfg) : (forEach l g s).cfg = s.cfg := by
  unfold forEach
  induction l generalizing s with
  | nil => rfl
  | cons a r ih => simp only [List.foldl_cons, ih, h]

@[simp] theorem foldl_cfg {α : Type} (l : List α) (g : State → α → State) (s : State)
    (h : ∀ t a, (g t a).cfg = t.cfg) : (l.foldl g s).cfg = s.cfg := by
  induction l generalizing s with
  | nil => rfl
  | cons a r ih => simp only [List.foldl_cons, ih, h]

theorem ite_boot (c : Prop) [Decidable c] (a b : State) : (if c then a else b).boot = if c then a.boot else b.boot :=
  apply_ite State.boot c a b

@[simp] theorem forEach_boot {α : Type} (l : List α) (g : α → State → State) (s : State)
    (h : ∀ a t, (g a t).boot = t.boot) : (forEach l g s).boot = s.boot := by
  unfold forEach
  induction l generalizing s with
  | nil => rfl
  | cons a r ih => simp only [List.foldl_cons, ih, h]

@[simp] theorem foldl_boot {α : Type} (l : List α) (g : State → α → State) (s : State)
    (h : ∀ t a, (g t a).boot = t.boot) : (l.foldl g s).boot = s.boot := by
  induction l generalizing s with
  | nil => rfl
  | cons a r ih => simp only [List.foldl_cons, ih, h]

theorem ite_otp (c : Prop) [Decidable c] (a b : State) : (if c then a else b).otp = if c then a.otp else b.otp :=
  apply_ite State.otp c a b

@[simp] theorem forEach_otp {α : Type} (l : List α) (g : α → State → State) (s : State)
    (h : ∀ a t, (g a t).otp = t.otp) : (forEach l g s).otp = s.otp := by
  unfold forEach
  induction l generalizing s with
  | nil => rfl
  | cons a r ih => simp only [List.foldl_cons, ih, h]

@[simp] theorem foldl_otp {α : Type} (l : List α) (g : State → α → State) (s : State)
    (h : ∀ t a, (g t a).otp = t.otp) : (l.foldl g s).otp = s.otp := by
  induction l generalizing s with
  | nil => rfl
  | cons a r ih => simp only [List.foldl_cons, ih, h]

theorem ite_src (c : Prop) [Decidable c] (a b : State) : (if c then a else b).src = if c then a.src else b.src :=
  apply_ite State.src c a b

@[simp] theorem forEach_src {α : Type} (l : List α) (g : α → State → State) (s : State)
    (h : ∀ a t, (g a t).src = t.src) : (forEach l g s).src = s.src := by
  unfold forEach
  induction l generalizing s with
  | nil => rfl
  | cons a r ih => simp only [List.foldl_cons, ih, h]

@[simp] theorem foldl_src {α : Type} (l : List α) (g : State → α → State) (s : State)
    (h : ∀ t a, (g t a).src = t.src) : (l.foldl g s).src = s.src := by
  induction l generalizing s with
  | nil => rfl
  | cons a r ih => simp only [List.foldl_cons, ih, h]

theorem ite_paceFrac (c : Prop) [Decidable c] (a b : State) : (if c then a else b).paceFrac = if c then a.paceFrac else b.paceFrac :=
  apply_ite State.paceFrac c a b

@[simp] theorem forEach_paceFrac {α : Type} (l : List α) (g : α → State → State) (s : State)
    (h : ∀ a t, (g a t).paceFrac = t.paceFrac) : (forEach l g s).paceFrac = s.paceFrac := by
  unfold forEach
  induction l generalizing s with
  | nil => rfl
  | cons a r ih => simp only [List.foldl_cons, ih, h]

@[simp] theorem foldl_paceFrac {α : Type} (l : List α) (g : State → α → State) (s : State)
    (h : ∀ t a, (g t a).paceFrac = t.paceFrac) : (l.foldl g s).paceFrac = s.paceFrac := by
  induction l generalizing s with
  | nil => rfl
  | cons a r ih => simp only [List.foldl_cons, ih, h]

theorem ite_mains (c : Prop) [Decidable c] (a b : State) : (if c then a else b).mains = if c then a.mains else b.mains :=
  apply_ite State.mains c a b

@[simp] theorem forEach_mains {α : Type} (l : List α) (g : α → State → State) (s : State)
    (h : ∀ a t, (g a t).mains = t.mains) : (forEach l g s).mains = s.mains := by
  unfold forEach
  induction l generalizing s with
  | nil => rfl
  | cons a r ih => simp only [List.foldl_cons, ih, h]

@[simp] theorem foldl_mains {α : Type} (l : List α) (g : State → α → State) (s : State)
    (h : ∀ t a, (g t a).mains = t.mains) : (l.foldl g s).mains = s.mains := by
  induction l generalizing s with
  | nil => rfl
  | cons a r ih => simp only [List.foldl_cons, ih, h]

theorem ite_stitch (c : Prop) [Decidable c] (a b : State) : (if c then a else b).stitch = if c then a.stitch else b.stitch :=
  apply_ite State.stitch c a b

@[simp] theorem forEach_stitch {α : Type} (l : List α) (g : α → State → State) (s : State)
    (h : ∀ a t, (g a t).stitch = t.stitch) : (forEach l g s).stitch = s.stitch := by
  unfold forEach
  induction l generalizing s with
  | nil => rfl
  | cons a r ih => simp only [List.foldl_cons, ih, h]

@[simp] theorem foldl_stitch {α : Type} (l : List α) (g : State → α → State) (s : State)
    (h : ∀ t a, (g t a).stitch = t.stitch) : (l.foldl g s).stitch = s.stitch := by
  induction l generalizing s with
  | nil => rfl
  | cons a r ih => simp only [List.foldl_cons, ih, h]

theorem ite_axes (c : Prop) [Decidable c] (a b : State) : (if c then a else b).axes = if c then a.axes else b.axes :=
  apply_ite State.axes c a b

@[simp] theorem forEach_axes {α : Type} (l : List α) (g : α → State → State) (s : State)
    (h : ∀ a t, (g a t).axes = t.axes) : (forEach l g s).axes = s.axes := by
  unfold forEach
  induction l generalizing s with
  | nil => rfl
  | cons a r ih => simp only [List.foldl_cons, ih, h]

@[simp] theorem foldl_axes {α : Type} (l : List α) (g : State → α → State) (s : State)
    (h : ∀ t a, (g t a).axes = t.axes) : (l.foldl g s).axes = s.axes := by
  induction l generalizing s with
  | nil => rfl
  | cons a r ih => simp only [List.foldl_cons, ih, h]

theorem ite_chan (c : Prop) [Decidable c] (a b : State) : (if c then a else b).chan = if c then a.chan else b.chan :=
  apply_ite State.chan c a b

@[simp] theorem forEach_chan {α : Type} (l : List α) (g : α → State → State) (s : State)
    (h : ∀ a t, (g a t).chan = t.chan) : (forEach l g s).chan = s.chan := by
  unfold forEach
  induction l generalizing s with
  | nil => rfl
  | cons a r ih => simp only [List.foldl_cons, ih, h]

@[simp] theorem foldl_chan {α : Type} (l : List α) (g : State → α → State) (s : State)
    (h : ∀ t a, (g t a).chan = t.chan) : (l.foldl g s).chan = s.chan := by
  induction l generalizing s with
  | nil => rfl
  | cons a r ih => simp only [List.foldl_cons, ih, h]

theorem ite_supply (c : Prop) [Decidable c] (a b : State) : (if c then a else b).supply = if c then a.supply else b.supply :=
  apply_ite State.supply c a b

@[simp] theorem forEach_supply {α : Type} (l : List α) (g : α → State → State) (s : State)
    (h : ∀ a t, (g a t).supply = t.supply) : (forEach l g s).supply = s.supply := by
  unfold forEach
  induction l generalizing s with
  | nil => rfl
  | cons a r ih => simp only [List.foldl_cons, ih, h]

@[simp] theorem foldl_supply {α : Type} (l : List α) (g : State → α → State) (s : State)
    (h : ∀ t a, (g t a).supply = t.supply) : (l.foldl g s).supply = s.supply := by
  induction l generalizing s with
  | nil => rfl
  | cons a r ih => simp only [List.foldl_cons, ih, h]

theorem ite_sto (c : Prop) [Decidable c] (a b : State) : (if c then a else b).sto = if c then a.sto else b.sto :=
  apply_ite State.sto c a b

@[simp] theorem forEach_sto {α : Type} (l : List α) (g : α → State → State) (s : State)
    (h : ∀ a t, (g a t).sto = t.sto) : (forEach l g s).sto = s.sto := by
  unfold forEach
  induction l generalizing s with
  | nil => rfl
  | cons a r ih => simp only [List.foldl_cons, ih, h]

@[simp] theorem foldl_sto {α : Type} (l : List α) (g : State → α → State) (s : State)
    (h : ∀ t a, (g t a).sto = t.sto) : (l.foldl g s).sto = s.sto := by
  induction l generalizing s with
  | nil => rfl
  | cons a r ih => simp only [List.foldl_cons, ih, h]

theorem ite_spread (c : Prop) [Decidable c] (a b : State) : (if c then a else b).spread = if c then a.spread else b.spread :=
  apply_ite State.spread c a b

@[simp] theorem forEach_spread {α : Type} (l : List α) (g : α → State → State) (s : State)
    (h : ∀ a t, (g a t).spread = t.spread) : (forEach l g s).spread = s.spread := by
  unfold forEach
  induction l generalizing s with
  | nil => rfl
  | cons a r ih => simp only [List.foldl_cons, ih, h]

@[simp] theorem foldl_spread {α : Type} (l : List α) (g : State → α → State) (s : State)
    (h : ∀ t a, (g t a).spread = t.spread) : (l.foldl g s).spread = s.spread := by
  induction l generalizing s with
  | nil => rfl
  | cons a r ih => simp only [List.foldl_cons, ih, h]

theorem ite_supv (c : Prop) [Decidable c] (a b : State) : (if c then a else b).supv = if c then a.supv else b.supv :=
  apply_ite State.supv c a b

@[simp] theorem forEach_supv {α : Type} (l : List α) (g : α → State → State) (s : State)
    (h : ∀ a t, (g a t).supv = t.supv) : (forEach l g s).supv = s.supv := by
  unfold forEach
  induction l generalizing s with
  | nil => rfl
  | cons a r ih => simp only [List.foldl_cons, ih, h]

@[simp] theorem foldl_supv {α : Type} (l : List α) (g : State → α → State) (s : State)
    (h : ∀ t a, (g t a).supv = t.supv) : (l.foldl g s).supv = s.supv := by
  induction l generalizing s with
  | nil => rfl
  | cons a r ih => simp only [List.foldl_cons, ih, h]

theorem ite_fb (c : Prop) [Decidable c] (a b : State) : (if c then a else b).fb = if c then a.fb else b.fb :=
  apply_ite State.fb c a b

@[simp] theorem forEach_fb {α : Type} (l : List α) (g : α → State → State) (s : State)
    (h : ∀ a t, (g a t).fb = t.fb) : (forEach l g s).fb = s.fb := by
  unfold forEach
  induction l generalizing s with
  | nil => rfl
  | cons a r ih => simp only [List.foldl_cons, ih, h]

@[simp] theorem foldl_fb {α : Type} (l : List α) (g : State → α → State) (s : State)
    (h : ∀ t a, (g t a).fb = t.fb) : (l.foldl g s).fb = s.fb := by
  induction l generalizing s with
  | nil => rfl
  | cons a r ih => simp only [List.foldl_cons, ih, h]

theorem ite_cnv (c : Prop) [Decidable c] (a b : State) : (if c then a else b).cnv = if c then a.cnv else b.cnv :=
  apply_ite State.cnv c a b

@[simp] theorem forEach_cnv {α : Type} (l : List α) (g : α → State → State) (s : State)
    (h : ∀ a t, (g a t).cnv = t.cnv) : (forEach l g s).cnv = s.cnv := by
  unfold forEach
  induction l generalizing s with
  | nil => rfl
  | cons a r ih => simp only [List.foldl_cons, ih, h]

@[simp] theorem foldl_cnv {α : Type} (l : List α) (g : State → α → State) (s : State)
    (h : ∀ t a, (g t a).cnv = t.cnv) : (l.foldl g s).cnv = s.cnv := by
  induction l generalizing s with
  | nil => rfl
  | cons a r ih => simp only [List.foldl_cons, ih, h]

theorem ite_pin (c : Prop) [Decidable c] (a b : State) : (if c then a else b).pin = if c then a.pin else b.pin :=
  apply_ite State.pin c a b

@[simp] theorem forEach_pin {α : Type} (l : List α) (g : α → State → State) (s : State)
    (h : ∀ a t, (g a t).pin = t.pin) : (forEach l g s).pin = s.pin := by
  unfold forEach
  induction l generalizing s with
  | nil => rfl
  | cons a r ih => simp only [List.foldl_cons, ih, h]

@[simp] theorem foldl_pin {α : Type} (l : List α) (g : State → α → State) (s : State)
    (h : ∀ t a, (g t a).pin = t.pin) : (l.foldl g s).pin = s.pin := by
  induction l generalizing s with
  | nil => rfl
  | cons a r ih => simp only [List.foldl_cons, ih, h]

theorem ite_seam (c : Prop) [Decidable c] (a b : State) : (if c then a else b).seam = if c then a.seam else b.seam :=
  apply_ite State.seam c a b

@[simp] theorem forEach_seam {α : Type} (l : List α) (g : α → State → State) (s : State)
    (h : ∀ a t, (g a t).seam = t.seam) : (forEach l g s).seam = s.seam := by
  unfold forEach
  induction l generalizing s with
  | nil => rfl
  | cons a r ih => simp only [List.foldl_cons, ih, h]

@[simp] theorem foldl_seam {α : Type} (l : List α) (g : State → α → State) (s : State)
    (h : ∀ t a, (g t a).seam = t.seam) : (l.foldl g s).seam = s.seam := by
  induction l generalizing s with
  | nil => rfl
  | cons a r ih => simp only [List.foldl_cons, ih, h]

theorem ite_flt (c : Prop) [Decidable c] (a b : State) : (if c then a else b).flt = if c then a.flt else b.flt :=
  apply_ite State.flt c a b

@[simp] theorem forEach_flt {α : Type} (l : List α) (g : α → State → State) (s : State)
    (h : ∀ a t, (g a t).flt = t.flt) : (forEach l g s).flt = s.flt := by
  unfold forEach
  induction l generalizing s with
  | nil => rfl
  | cons a r ih => simp only [List.foldl_cons, ih, h]

@[simp] theorem foldl_flt {α : Type} (l : List α) (g : State → α → State) (s : State)
    (h : ∀ t a, (g t a).flt = t.flt) : (l.foldl g s).flt = s.flt := by
  induction l generalizing s with
  | nil => rfl
  | cons a r ih => simp only [List.foldl_cons, ih, h]

theorem ite_store (c : Prop) [Decidable c] (a b : State) : (if c then a else b).store = if c then a.store else b.store :=
  apply_ite State.store c a b

@[simp] theorem forEach_store {α : Type} (l : List α) (g : α → State → State) (s : State)
    (h : ∀ a t, (g a t).store = t.store) : (forEach l g s).store = s.store := by
  unfold forEach
  induction l generalizing s with
  | nil => rfl
  | cons a r ih => simp only [List.foldl_cons, ih, h]

@[simp] theorem foldl_store {α : Type} (l : List α) (g : State → α → State) (s : State)
    (h : ∀ t a, (g t a).store = t.store) : (l.foldl g s).store = s.store := by
  induction l generalizing s with
  | nil => rfl
  | cons a r ih => simp only [List.foldl_cons, ih, h]

theorem ite_bak (c : Prop) [Decidable c] (a b : State) : (if c then a else b).bak = if c then a.bak else b.bak :=
  apply_ite State.bak c a b

@[simp] theorem forEach_bak {α : Type} (l : List α) (g : α → State → State) (s : State)
    (h : ∀ a t, (g a t).bak = t.bak) : (forEach l g s).bak = s.bak := by
  unfold forEach
  induction l generalizing s with
  | nil => rfl
  | cons a r ih => simp only [List.foldl_cons, ih, h]

@[simp] theorem foldl_bak {α : Type} (l : List α) (g : State → α → State) (s : State)
    (h : ∀ t a, (g t a).bak = t.bak) : (l.foldl g s).bak = s.bak := by
  induction l generalizing s with
  | nil => rfl
  | cons a r ih => simp only [List.foldl_cons, ih, h]

theorem ite_proof (c : Prop) [Decidable c] (a b : State) : (if c then a else b).proof = if c then a.proof else b.proof :=
  apply_ite State.proof c a b

@[simp] theorem forEach_proof {α : Type} (l : List α) (g : α → State → State) (s : State)
    (h : ∀ a t, (g a t).proof = t.proof) : (forEach l g s).proof = s.proof := by
  unfold forEach
  induction l generalizing s with
  | nil => rfl
  | cons a r ih => simp only [List.foldl_cons, ih, h]

@[simp] theorem foldl_proof {α : Type} (l : List α) (g : State → α → State) (s : State)
    (h : ∀ t a, (g t a).proof = t.proof) : (l.foldl g s).proof = s.proof := by
  induction l generalizing s with
  | nil => rfl
  | cons a r ih => simp only [List.foldl_cons, ih, h]

/-! ### Ops -/

@[simp] theorem drawFree_frame (s : State) :
    (drawFree s).2.pending = s.pending ∧
    (drawFree s).2.now = s.now ∧
    (drawFree s).2.power = s.power ∧
    (drawFree s).2.host = s.host ∧
    (drawFree s).2.lat = s.lat ∧
    (drawFree s).2.win = s.win ∧
    (drawFree s).2.cfg = s.cfg ∧
    (drawFree s).2.boot = s.boot ∧
    (drawFree s).2.otp = s.otp ∧
    (drawFree s).2.src = s.src ∧
    (drawFree s).2.paceFrac = s.paceFrac ∧
    (drawFree s).2.mains = s.mains ∧
    (drawFree s).2.stitch = s.stitch ∧
    (drawFree s).2.axes = s.axes ∧
    (drawFree s).2.chan = s.chan ∧
    (drawFree s).2.supply = s.supply ∧
    (drawFree s).2.sto = s.sto ∧
    (drawFree s).2.spread = s.spread ∧
    (drawFree s).2.supv = s.supv ∧
    (drawFree s).2.fb = s.fb ∧
    (drawFree s).2.cnv = s.cnv ∧
    (drawFree s).2.pin = s.pin ∧
    (drawFree s).2.seam = s.seam ∧
    (drawFree s).2.flt = s.flt ∧
    (drawFree s).2.store = s.store ∧
    (drawFree s).2.bak = s.bak ∧
    (drawFree s).2.proof = s.proof := by
  unfold drawFree; (try dsimp only); repeat' split
  all_goals (refine ⟨?_, ?_, ?_, ?_, ?_, ?_, ?_, ?_, ?_, ?_, ?_, ?_, ?_, ?_, ?_, ?_, ?_, ?_, ?_, ?_, ?_, ?_, ?_, ?_, ?_, ?_, ?_⟩ <;> simp)

@[simp] theorem modAxis_frame (n : Fin 8) (f : Axis → Axis) (s : State) :
    (modAxis n f s).pending = s.pending ∧
    (modAxis n f s).now = s.now ∧
    (modAxis n f s).free = s.free ∧
    (modAxis n f s).power = s.power ∧
    (modAxis n f s).host = s.host ∧
    (modAxis n f s).lat = s.lat ∧
    (modAxis n f s).win = s.win ∧
    (modAxis n f s).cfg = s.cfg ∧
    (modAxis n f s).boot = s.boot ∧
    (modAxis n f s).otp = s.otp ∧
    (modAxis n f s).src = s.src ∧
    (modAxis n f s).paceFrac = s.paceFrac ∧
    (modAxis n f s).mains = s.mains ∧
    (modAxis n f s).stitch = s.stitch ∧
    (modAxis n f s).chan = s.chan ∧
    (modAxis n f s).supply = s.supply ∧
    (modAxis n f s).sto = s.sto ∧
    (modAxis n f s).spread = s.spread ∧
    (modAxis n f s).supv = s.supv ∧
    (modAxis n f s).fb = s.fb ∧
    (modAxis n f s).cnv = s.cnv ∧
    (modAxis n f s).pin = s.pin ∧
    (modAxis n f s).seam = s.seam ∧
    (modAxis n f s).flt = s.flt ∧
    (modAxis n f s).store = s.store ∧
    (modAxis n f s).bak = s.bak ∧
    (modAxis n f s).proof = s.proof := by
  unfold modAxis; (try dsimp only); repeat' split
  all_goals (refine ⟨?_, ?_, ?_, ?_, ?_, ?_, ?_, ?_, ?_, ?_, ?_, ?_, ?_, ?_, ?_, ?_, ?_, ?_, ?_, ?_, ?_, ?_, ?_, ?_, ?_, ?_, ?_⟩ <;> simp)

@[simp] theorem modDrive_frame (n : Fin 8) (f : Drive → Drive) (s : State) :
    (modDrive n f s).pending = s.pending ∧
    (modDrive n f s).now = s.now ∧
    (modDrive n f s).free = s.free ∧
    (modDrive n f s).power = s.power ∧
    (modDrive n f s).host = s.host ∧
    (modDrive n f s).lat = s.lat ∧
    (modDrive n f s).win = s.win ∧
    (modDrive n f s).cfg = s.cfg ∧
    (modDrive n f s).boot = s.boot ∧
    (modDrive n f s).otp = s.otp ∧
    (modDrive n f s).src = s.src ∧
    (modDrive n f s).paceFrac = s.paceFrac ∧
    (modDrive n f s).mains = s.mains ∧
    (modDrive n f s).stitch = s.stitch ∧
    (modDrive n f s).chan = s.chan ∧
    (modDrive n f s).supply = s.supply ∧
    (modDrive n f s).sto = s.sto ∧
    (modDrive n f s).spread = s.spread ∧
    (modDrive n f s).supv = s.supv ∧
    (modDrive n f s).fb = s.fb ∧
    (modDrive n f s).cnv = s.cnv ∧
    (modDrive n f s).pin = s.pin ∧
    (modDrive n f s).seam = s.seam ∧
    (modDrive n f s).flt = s.flt ∧
    (modDrive n f s).store = s.store ∧
    (modDrive n f s).bak = s.bak ∧
    (modDrive n f s).proof = s.proof := by
  unfold modDrive; (try dsimp only); repeat' split
  all_goals (refine ⟨?_, ?_, ?_, ?_, ?_, ?_, ?_, ?_, ?_, ?_, ?_, ?_, ?_, ?_, ?_, ?_, ?_, ?_, ?_, ?_, ?_, ?_, ?_, ?_, ?_, ?_, ?_⟩ <;> simp)

@[simp] theorem modCar_frame (n : Fin 8) (f : Carrier → Carrier) (s : State) :
    (modCar n f s).pending = s.pending ∧
    (modCar n f s).now = s.now ∧
    (modCar n f s).free = s.free ∧
    (modCar n f s).power = s.power ∧
    (modCar n f s).host = s.host ∧
    (modCar n f s).lat = s.lat ∧
    (modCar n f s).win = s.win ∧
    (modCar n f s).cfg = s.cfg ∧
    (modCar n f s).boot = s.boot ∧
    (modCar n f s).otp = s.otp ∧
    (modCar n f s).src = s.src ∧
    (modCar n f s).paceFrac = s.paceFrac ∧
    (modCar n f s).mains = s.mains ∧
    (modCar n f s).stitch = s.stitch ∧
    (modCar n f s).chan = s.chan ∧
    (modCar n f s).supply = s.supply ∧
    (modCar n f s).sto = s.sto ∧
    (modCar n f s).spread = s.spread ∧
    (modCar n f s).supv = s.supv ∧
    (modCar n f s).fb = s.fb ∧
    (modCar n f s).cnv = s.cnv ∧
    (modCar n f s).pin = s.pin ∧
    (modCar n f s).seam = s.seam ∧
    (modCar n f s).flt = s.flt ∧
    (modCar n f s).store = s.store ∧
    (modCar n f s).bak = s.bak ∧
    (modCar n f s).proof = s.proof := by
  unfold modCar; (try dsimp only); repeat' split
  all_goals (refine ⟨?_, ?_, ?_, ?_, ?_, ?_, ?_, ?_, ?_, ?_, ?_, ?_, ?_, ?_, ?_, ?_, ?_, ?_, ?_, ?_, ?_, ?_, ?_, ?_, ?_, ?_, ?_⟩ <;> simp)

@[simp] theorem modTrip_frame (n : Fin 8) (f : Trip → Trip) (s : State) :
    (modTrip n f s).pending = s.pending ∧
    (modTrip n f s).now = s.now ∧
    (modTrip n f s).free = s.free ∧
    (modTrip n f s).power = s.power ∧
    (modTrip n f s).host = s.host ∧
    (modTrip n f s).lat = s.lat ∧
    (modTrip n f s).win = s.win ∧
    (modTrip n f s).cfg = s.cfg ∧
    (modTrip n f s).boot = s.boot ∧
    (modTrip n f s).otp = s.otp ∧
    (modTrip n f s).src = s.src ∧
    (modTrip n f s).paceFrac = s.paceFrac ∧
    (modTrip n f s).mains = s.mains ∧
    (modTrip n f s).stitch = s.stitch ∧
    (modTrip n f s).chan = s.chan ∧
    (modTrip n f s).supply = s.supply ∧
    (modTrip n f s).sto = s.sto ∧
    (modTrip n f s).spread = s.spread ∧
    (modTrip n f s).supv = s.supv ∧
    (modTrip n f s).fb = s.fb ∧
    (modTrip n f s).cnv = s.cnv ∧
    (modTrip n f s).pin = s.pin ∧
    (modTrip n f s).seam = s.seam ∧
    (modTrip n f s).flt = s.flt ∧
    (modTrip n f s).store = s.store ∧
    (modTrip n f s).bak = s.bak ∧
    (modTrip n f s).proof = s.proof := by
  unfold modTrip; (try dsimp only); repeat' split
  all_goals (refine ⟨?_, ?_, ?_, ?_, ?_, ?_, ?_, ?_, ?_, ?_, ?_, ?_, ?_, ?_, ?_, ?_, ?_, ?_, ?_, ?_, ?_, ?_, ?_, ?_, ?_, ?_, ?_⟩ <;> simp)

@[simp] theorem modLadder_frame (n : Fin 8) (f : Ladder → Ladder) (s : State) :
    (modLadder n f s).pending = s.pending ∧
    (modLadder n f s).now = s.now ∧
    (modLadder n f s).free = s.free ∧
    (modLadder n f s).power = s.power ∧
    (modLadder n f s).host = s.host ∧
    (modLadder n f s).lat = s.lat ∧
    (modLadder n f s).win = s.win ∧
    (modLadder n f s).cfg = s.cfg ∧
    (modLadder n f s).boot = s.boot ∧
    (modLadder n f s).otp = s.otp ∧
    (modLadder n f s).src = s.src ∧
    (modLadder n f s).paceFrac = s.paceFrac ∧
    (modLadder n f s).mains = s.mains ∧
    (modLadder n f s).stitch = s.stitch ∧
    (modLadder n f s).chan = s.chan ∧
    (modLadder n f s).supply = s.supply ∧
    (modLadder n f s).sto = s.sto ∧
    (modLadder n f s).spread = s.spread ∧
    (modLadder n f s).supv = s.supv ∧
    (modLadder n f s).fb = s.fb ∧
    (modLadder n f s).cnv = s.cnv ∧
    (modLadder n f s).pin = s.pin ∧
    (modLadder n f s).seam = s.seam ∧
    (modLadder n f s).flt = s.flt ∧
    (modLadder n f s).store = s.store ∧
    (modLadder n f s).bak = s.bak ∧
    (modLadder n f s).proof = s.proof := by
  unfold modLadder; (try dsimp only); repeat' split
  all_goals (refine ⟨?_, ?_, ?_, ?_, ?_, ?_, ?_, ?_, ?_, ?_, ?_, ?_, ?_, ?_, ?_, ?_, ?_, ?_, ?_, ?_, ?_, ?_, ?_, ?_, ?_, ?_, ?_⟩ <;> simp)

@[simp] theorem modProbe_frame (n : Fin 8) (f : Probe → Probe) (s : State) :
    (modProbe n f s).pending = s.pending ∧
    (modProbe n f s).now = s.now ∧
    (modProbe n f s).free = s.free ∧
    (modProbe n f s).power = s.power ∧
    (modProbe n f s).host = s.host ∧
    (modProbe n f s).lat = s.lat ∧
    (modProbe n f s).win = s.win ∧
    (modProbe n f s).cfg = s.cfg ∧
    (modProbe n f s).boot = s.boot ∧
    (modProbe n f s).otp = s.otp ∧
    (modProbe n f s).src = s.src ∧
    (modProbe n f s).paceFrac = s.paceFrac ∧
    (modProbe n f s).mains = s.mains ∧
    (modProbe n f s).stitch = s.stitch ∧
    (modProbe n f s).chan = s.chan ∧
    (modProbe n f s).supply = s.supply ∧
    (modProbe n f s).sto = s.sto ∧
    (modProbe n f s).spread = s.spread ∧
    (modProbe n f s).supv = s.supv ∧
    (modProbe n f s).fb = s.fb ∧
    (modProbe n f s).cnv = s.cnv ∧
    (modProbe n f s).pin = s.pin ∧
    (modProbe n f s).seam = s.seam ∧
    (modProbe n f s).flt = s.flt ∧
    (modProbe n f s).store = s.store ∧
    (modProbe n f s).bak = s.bak ∧
    (modProbe n f s).proof = s.proof := by
  unfold modProbe; (try dsimp only); repeat' split
  all_goals (refine ⟨?_, ?_, ?_, ?_, ?_, ?_, ?_, ?_, ?_, ?_, ?_, ?_, ?_, ?_, ?_, ?_, ?_, ?_, ?_, ?_, ?_, ?_, ?_, ?_, ?_, ?_, ?_⟩ <;> simp)

@[simp] theorem modInj_frame (n : Fin 8) (f : Inj → Inj) (s : State) :
    (modInj n f s).pending = s.pending ∧
    (modInj n f s).now = s.now ∧
    (modInj n f s).free = s.free ∧
    (modInj n f s).power = s.power ∧
    (modInj n f s).host = s.host ∧
    (modInj n f s).lat = s.lat ∧
    (modInj n f s).win = s.win ∧
    (modInj n f s).cfg = s.cfg ∧
    (modInj n f s).boot = s.boot ∧
    (modInj n f s).otp = s.otp ∧
    (modInj n f s).src = s.src ∧
    (modInj n f s).paceFrac = s.paceFrac ∧
    (modInj n f s).mains = s.mains ∧
    (modInj n f s).stitch = s.stitch ∧
    (modInj n f s).chan = s.chan ∧
    (modInj n f s).supply = s.supply ∧
    (modInj n f s).sto = s.sto ∧
    (modInj n f s).spread = s.spread ∧
    (modInj n f s).supv = s.supv ∧
    (modInj n f s).fb = s.fb ∧
    (modInj n f s).cnv = s.cnv ∧
    (modInj n f s).pin = s.pin ∧
    (modInj n f s).seam = s.seam ∧
    (modInj n f s).flt = s.flt ∧
    (modInj n f s).store = s.store ∧
    (modInj n f s).bak = s.bak ∧
    (modInj n f s).proof = s.proof := by
  unfold modInj; (try dsimp only); repeat' split
  all_goals (refine ⟨?_, ?_, ?_, ?_, ?_, ?_, ?_, ?_, ?_, ?_, ?_, ?_, ?_, ?_, ?_, ?_, ?_, ?_, ?_, ?_, ?_, ?_, ?_, ?_, ?_, ?_, ?_⟩ <;> simp)

@[simp] theorem modBemf_frame (n : Fin 8) (f : Bemf → Bemf) (s : State) :
    (modBemf n f s).pending = s.pending ∧
    (modBemf n f s).now = s.now ∧
    (modBemf n f s).free = s.free ∧
    (modBemf n f s).power = s.power ∧
    (modBemf n f s).host = s.host ∧
    (modBemf n f s).lat = s.lat ∧
    (modBemf n f s).win = s.win ∧
    (modBemf n f s).cfg = s.cfg ∧
    (modBemf n f s).boot = s.boot ∧
    (modBemf n f s).otp = s.otp ∧
    (modBemf n f s).src = s.src ∧
    (modBemf n f s).paceFrac = s.paceFrac ∧
    (modBemf n f s).mains = s.mains ∧
    (modBemf n f s).stitch = s.stitch ∧
    (modBemf n f s).chan = s.chan ∧
    (modBemf n f s).supply = s.supply ∧
    (modBemf n f s).sto = s.sto ∧
    (modBemf n f s).spread = s.spread ∧
    (modBemf n f s).supv = s.supv ∧
    (modBemf n f s).fb = s.fb ∧
    (modBemf n f s).cnv = s.cnv ∧
    (modBemf n f s).pin = s.pin ∧
    (modBemf n f s).seam = s.seam ∧
    (modBemf n f s).flt = s.flt ∧
    (modBemf n f s).store = s.store ∧
    (modBemf n f s).bak = s.bak ∧
    (modBemf n f s).proof = s.proof := by
  unfold modBemf; (try dsimp only); repeat' split
  all_goals (refine ⟨?_, ?_, ?_, ?_, ?_, ?_, ?_, ?_, ?_, ?_, ?_, ?_, ?_, ?_, ?_, ?_, ?_, ?_, ?_, ?_, ?_, ?_, ?_, ?_, ?_, ?_, ?_⟩ <;> simp)

@[simp] theorem modChan_frame (k : Fin 48) (f : Channel → Channel) (s : State) :
    (modChan k f s).pending = s.pending ∧
    (modChan k f s).now = s.now ∧
    (modChan k f s).free = s.free ∧
    (modChan k f s).power = s.power ∧
    (modChan k f s).host = s.host ∧
    (modChan k f s).lat = s.lat ∧
    (modChan k f s).win = s.win ∧
    (modChan k f s).cfg = s.cfg ∧
    (modChan k f s).boot = s.boot ∧
    (modChan k f s).otp = s.otp ∧
    (modChan k f s).src = s.src ∧
    (modChan k f s).paceFrac = s.paceFrac ∧
    (modChan k f s).mains = s.mains ∧
    (modChan k f s).stitch = s.stitch ∧
    (modChan k f s).axes = s.axes ∧
    (modChan k f s).supply = s.supply ∧
    (modChan k f s).sto = s.sto ∧
    (modChan k f s).spread = s.spread ∧
    (modChan k f s).supv = s.supv ∧
    (modChan k f s).fb = s.fb ∧
    (modChan k f s).cnv = s.cnv ∧
    (modChan k f s).pin = s.pin ∧
    (modChan k f s).seam = s.seam ∧
    (modChan k f s).flt = s.flt ∧
    (modChan k f s).store = s.store ∧
    (modChan k f s).bak = s.bak ∧
    (modChan k f s).proof = s.proof := by
  unfold modChan; (try dsimp only); repeat' split
  all_goals (refine ⟨?_, ?_, ?_, ?_, ?_, ?_, ?_, ?_, ?_, ?_, ?_, ?_, ?_, ?_, ?_, ?_, ?_, ?_, ?_, ?_, ?_, ?_, ?_, ?_, ?_, ?_, ?_⟩ <;> simp)

@[simp] theorem modFb_frame (n : Fin 8) (f : Fb → Fb) (s : State) :
    (modFb n f s).pending = s.pending ∧
    (modFb n f s).now = s.now ∧
    (modFb n f s).free = s.free ∧
    (modFb n f s).power = s.power ∧
    (modFb n f s).host = s.host ∧
    (modFb n f s).lat = s.lat ∧
    (modFb n f s).win = s.win ∧
    (modFb n f s).cfg = s.cfg ∧
    (modFb n f s).boot = s.boot ∧
    (modFb n f s).otp = s.otp ∧
    (modFb n f s).src = s.src ∧
    (modFb n f s).paceFrac = s.paceFrac ∧
    (modFb n f s).mains = s.mains ∧
    (modFb n f s).stitch = s.stitch ∧
    (modFb n f s).axes = s.axes ∧
    (modFb n f s).chan = s.chan ∧
    (modFb n f s).supply = s.supply ∧
    (modFb n f s).sto = s.sto ∧
    (modFb n f s).spread = s.spread ∧
    (modFb n f s).supv = s.supv ∧
    (modFb n f s).cnv = s.cnv ∧
    (modFb n f s).pin = s.pin ∧
    (modFb n f s).seam = s.seam ∧
    (modFb n f s).flt = s.flt ∧
    (modFb n f s).store = s.store ∧
    (modFb n f s).bak = s.bak ∧
    (modFb n f s).proof = s.proof := by
  unfold modFb; (try dsimp only); repeat' split
  all_goals (refine ⟨?_, ?_, ?_, ?_, ?_, ?_, ?_, ?_, ?_, ?_, ?_, ?_, ?_, ?_, ?_, ?_, ?_, ?_, ?_, ?_, ?_, ?_, ?_, ?_, ?_, ?_, ?_⟩ <;> simp)

@[simp] theorem modSrc_frame (n : Fin 32) (f : Source → Source) (s : State) :
    (modSrc n f s).pending = s.pending ∧
    (modSrc n f s).now = s.now ∧
    (modSrc n f s).free = s.free ∧
    (modSrc n f s).power = s.power ∧
    (modSrc n f s).host = s.host ∧
    (modSrc n f s).lat = s.lat ∧
    (modSrc n f s).win = s.win ∧
    (modSrc n f s).cfg = s.cfg ∧
    (modSrc n f s).boot = s.boot ∧
    (modSrc n f s).otp = s.otp ∧
    (modSrc n f s).paceFrac = s.paceFrac ∧
    (modSrc n f s).mains = s.mains ∧
    (modSrc n f s).stitch = s.stitch ∧
    (modSrc n f s).axes = s.axes ∧
    (modSrc n f s).chan = s.chan ∧
    (modSrc n f s).supply = s.supply ∧
    (modSrc n f s).sto = s.sto ∧
    (modSrc n f s).spread = s.spread ∧
    (modSrc n f s).supv = s.supv ∧
    (modSrc n f s).fb = s.fb ∧
    (modSrc n f s).cnv = s.cnv ∧
    (modSrc n f s).pin = s.pin ∧
    (modSrc n f s).seam = s.seam ∧
    (modSrc n f s).flt = s.flt ∧
    (modSrc n f s).store = s.store ∧
    (modSrc n f s).bak = s.bak ∧
    (modSrc n f s).proof = s.proof := by
  unfold modSrc; (try dsimp only); repeat' split
  all_goals (refine ⟨?_, ?_, ?_, ?_, ?_, ?_, ?_, ?_, ?_, ?_, ?_, ?_, ?_, ?_, ?_, ?_, ?_, ?_, ?_, ?_, ?_, ?_, ?_, ?_, ?_, ?_, ?_⟩ <;> simp)

@[simp] theorem modLane_frame (l : Fin 8) (f : Lane → Lane) (s : State) :
    (modLane l f s).pending = s.pending ∧
    (modLane l f s).now = s.now ∧
    (modLane l f s).free = s.free ∧
    (modLane l f s).power = s.power ∧
    (modLane l f s).host = s.host ∧
    (modLane l f s).lat = s.lat ∧
    (modLane l f s).win = s.win ∧
    (modLane l f s).cfg = s.cfg ∧
    (modLane l f s).boot = s.boot ∧
    (modLane l f s).otp = s.otp ∧
    (modLane l f s).src = s.src ∧
    (modLane l f s).paceFrac = s.paceFrac ∧
    (modLane l f s).mains = s.mains ∧
    (modLane l f s).axes = s.axes ∧
    (modLane l f s).chan = s.chan ∧
    (modLane l f s).supply = s.supply ∧
    (modLane l f s).sto = s.sto ∧
    (modLane l f s).spread = s.spread ∧
    (modLane l f s).supv = s.supv ∧
    (modLane l f s).fb = s.fb ∧
    (modLane l f s).cnv = s.cnv ∧
    (modLane l f s).pin = s.pin ∧
    (modLane l f s).seam = s.seam ∧
    (modLane l f s).flt = s.flt ∧
    (modLane l f s).store = s.store ∧
    (modLane l f s).bak = s.bak ∧
    (modLane l f s).proof = s.proof := by
  unfold modLane; (try dsimp only); repeat' split
  all_goals (refine ⟨?_, ?_, ?_, ?_, ?_, ?_, ?_, ?_, ?_, ?_, ?_, ?_, ?_, ?_, ?_, ?_, ?_, ?_, ?_, ?_, ?_, ?_, ?_, ?_, ?_, ?_, ?_⟩ <;> simp)

@[simp] theorem modSar_frame (j : Fin 16) (f : Sar → Sar) (s : State) :
    (modSar j f s).pending = s.pending ∧
    (modSar j f s).now = s.now ∧
    (modSar j f s).free = s.free ∧
    (modSar j f s).power = s.power ∧
    (modSar j f s).host = s.host ∧
    (modSar j f s).lat = s.lat ∧
    (modSar j f s).win = s.win ∧
    (modSar j f s).cfg = s.cfg ∧
    (modSar j f s).boot = s.boot ∧
    (modSar j f s).otp = s.otp ∧
    (modSar j f s).src = s.src ∧
    (modSar j f s).paceFrac = s.paceFrac ∧
    (modSar j f s).mains = s.mains ∧
    (modSar j f s).stitch = s.stitch ∧
    (modSar j f s).axes = s.axes ∧
    (modSar j f s).chan = s.chan ∧
    (modSar j f s).supply = s.supply ∧
    (modSar j f s).sto = s.sto ∧
    (modSar j f s).spread = s.spread ∧
    (modSar j f s).supv = s.supv ∧
    (modSar j f s).fb = s.fb ∧
    (modSar j f s).pin = s.pin ∧
    (modSar j f s).seam = s.seam ∧
    (modSar j f s).flt = s.flt ∧
    (modSar j f s).store = s.store ∧
    (modSar j f s).bak = s.bak ∧
    (modSar j f s).proof = s.proof := by
  unfold modSar; (try dsimp only); repeat' split
  all_goals (refine ⟨?_, ?_, ?_, ?_, ?_, ?_, ?_, ?_, ?_, ?_, ?_, ?_, ?_, ?_, ?_, ?_, ?_, ?_, ?_, ?_, ?_, ?_, ?_, ?_, ?_, ?_, ?_⟩ <;> simp)

@[simp] theorem modPort_frame (p : Fin 4) (f : Port → Port) (s : State) :
    (modPort p f s).pending = s.pending ∧
    (modPort p f s).now = s.now ∧
    (modPort p f s).free = s.free ∧
    (modPort p f s).power = s.power ∧
    (modPort p f s).host = s.host ∧
    (modPort p f s).lat = s.lat ∧
    (modPort p f s).win = s.win ∧
    (modPort p f s).cfg = s.cfg ∧
    (modPort p f s).boot = s.boot ∧
    (modPort p f s).otp = s.otp ∧
    (modPort p f s).src = s.src ∧
    (modPort p f s).paceFrac = s.paceFrac ∧
    (modPort p f s).mains = s.mains ∧
    (modPort p f s).stitch = s.stitch ∧
    (modPort p f s).axes = s.axes ∧
    (modPort p f s).chan = s.chan ∧
    (modPort p f s).supply = s.supply ∧
    (modPort p f s).sto = s.sto ∧
    (modPort p f s).spread = s.spread ∧
    (modPort p f s).supv = s.supv ∧
    (modPort p f s).fb = s.fb ∧
    (modPort p f s).cnv = s.cnv ∧
    (modPort p f s).pin = s.pin ∧
    (modPort p f s).flt = s.flt ∧
    (modPort p f s).store = s.store ∧
    (modPort p f s).bak = s.bak ∧
    (modPort p f s).proof = s.proof := by
  unfold modPort; (try dsimp only); repeat' split
  all_goals (refine ⟨?_, ?_, ?_, ?_, ?_, ?_, ?_, ?_, ?_, ?_, ?_, ?_, ?_, ?_, ?_, ?_, ?_, ?_, ?_, ?_, ?_, ?_, ?_, ?_, ?_, ?_, ?_⟩ <;> simp)

@[simp] theorem modSeam_frame (f : Seam → Seam) (s : State) :
    (modSeam f s).pending = s.pending ∧
    (modSeam f s).now = s.now ∧
    (modSeam f s).free = s.free ∧
    (modSeam f s).power = s.power ∧
    (modSeam f s).host = s.host ∧
    (modSeam f s).lat = s.lat ∧
    (modSeam f s).win = s.win ∧
    (modSeam f s).cfg = s.cfg ∧
    (modSeam f s).boot = s.boot ∧
    (modSeam f s).otp = s.otp ∧
    (modSeam f s).src = s.src ∧
    (modSeam f s).paceFrac = s.paceFrac ∧
    (modSeam f s).mains = s.mains ∧
    (modSeam f s).stitch = s.stitch ∧
    (modSeam f s).axes = s.axes ∧
    (modSeam f s).chan = s.chan ∧
    (modSeam f s).supply = s.supply ∧
    (modSeam f s).sto = s.sto ∧
    (modSeam f s).spread = s.spread ∧
    (modSeam f s).supv = s.supv ∧
    (modSeam f s).fb = s.fb ∧
    (modSeam f s).cnv = s.cnv ∧
    (modSeam f s).pin = s.pin ∧
    (modSeam f s).flt = s.flt ∧
    (modSeam f s).store = s.store ∧
    (modSeam f s).bak = s.bak ∧
    (modSeam f s).proof = s.proof := by
  unfold modSeam; (try dsimp only); repeat' split
  all_goals (refine ⟨?_, ?_, ?_, ?_, ?_, ?_, ?_, ?_, ?_, ?_, ?_, ?_, ?_, ?_, ?_, ?_, ?_, ?_, ?_, ?_, ?_, ?_, ?_, ?_, ?_, ?_, ?_⟩ <;> simp)

@[simp] theorem putRes_frame (k : Nat) (w : Word) (s : State) :
    (putRes k w s).pending = s.pending ∧
    (putRes k w s).now = s.now ∧
    (putRes k w s).free = s.free ∧
    (putRes k w s).power = s.power ∧
    (putRes k w s).host = s.host ∧
    (putRes k w s).lat = s.lat ∧
    (putRes k w s).win = s.win ∧
    (putRes k w s).cfg = s.cfg ∧
    (putRes k w s).boot = s.boot ∧
    (putRes k w s).otp = s.otp ∧
    (putRes k w s).src = s.src ∧
    (putRes k w s).paceFrac = s.paceFrac ∧
    (putRes k w s).mains = s.mains ∧
    (putRes k w s).stitch = s.stitch ∧
    (putRes k w s).axes = s.axes ∧
    (putRes k w s).chan = s.chan ∧
    (putRes k w s).supply = s.supply ∧
    (putRes k w s).sto = s.sto ∧
    (putRes k w s).spread = s.spread ∧
    (putRes k w s).supv = s.supv ∧
    (putRes k w s).fb = s.fb ∧
    (putRes k w s).pin = s.pin ∧
    (putRes k w s).seam = s.seam ∧
    (putRes k w s).flt = s.flt ∧
    (putRes k w s).store = s.store ∧
    (putRes k w s).bak = s.bak ∧
    (putRes k w s).proof = s.proof := by
  unfold putRes; (try dsimp only); repeat' split
  all_goals (refine ⟨?_, ?_, ?_, ?_, ?_, ?_, ?_, ?_, ?_, ?_, ?_, ?_, ?_, ?_, ?_, ?_, ?_, ?_, ?_, ?_, ?_, ?_, ?_, ?_, ?_, ?_, ?_⟩ <;> simp)

@[simp] theorem writeBoth_frame (n : Fin 8) (off : Nat) (mask w : Word) (s : State) :
    (writeBoth n off mask w s).pending = s.pending ∧
    (writeBoth n off mask w s).now = s.now ∧
    (writeBoth n off mask w s).free = s.free ∧
    (writeBoth n off mask w s).power = s.power ∧
    (writeBoth n off mask w s).host = s.host ∧
    (writeBoth n off mask w s).lat = s.lat ∧
    (writeBoth n off mask w s).win = s.win ∧
    (writeBoth n off mask w s).boot = s.boot ∧
    (writeBoth n off mask w s).otp = s.otp ∧
    (writeBoth n off mask w s).src = s.src ∧
    (writeBoth n off mask w s).paceFrac = s.paceFrac ∧
    (writeBoth n off mask w s).mains = s.mains ∧
    (writeBoth n off mask w s).stitch = s.stitch ∧
    (writeBoth n off mask w s).axes = s.axes ∧
    (writeBoth n off mask w s).chan = s.chan ∧
    (writeBoth n off mask w s).supply = s.supply ∧
    (writeBoth n off mask w s).sto = s.sto ∧
    (writeBoth n off mask w s).spread = s.spread ∧
    (writeBoth n off mask w s).supv = s.supv ∧
    (writeBoth n off mask w s).fb = s.fb ∧
    (writeBoth n off mask w s).cnv = s.cnv ∧
    (writeBoth n off mask w s).pin = s.pin ∧
    (writeBoth n off mask w s).seam = s.seam ∧
    (writeBoth n off mask w s).flt = s.flt ∧
    (writeBoth n off mask w s).store = s.store ∧
    (writeBoth n off mask w s).bak = s.bak ∧
    (writeBoth n off mask w s).proof = s.proof := by
  unfold writeBoth; (try dsimp only); repeat' split
  all_goals (refine ⟨?_, ?_, ?_, ?_, ?_, ?_, ?_, ?_, ?_, ?_, ?_, ?_, ?_, ?_, ?_, ?_, ?_, ?_, ?_, ?_, ?_, ?_, ?_, ?_, ?_, ?_, ?_⟩ <;> simp)

@[simp] theorem setSysStat_frame (i : Nat) (s : State) :
    (setSysStat i s).pending = s.pending ∧
    (setSysStat i s).now = s.now ∧
    (setSysStat i s).free = s.free ∧
    (setSysStat i s).power = s.power ∧
    (setSysStat i s).lat = s.lat ∧
    (setSysStat i s).win = s.win ∧
    (setSysStat i s).cfg = s.cfg ∧
    (setSysStat i s).boot = s.boot ∧
    (setSysStat i s).otp = s.otp ∧
    (setSysStat i s).src = s.src ∧
    (setSysStat i s).paceFrac = s.paceFrac ∧
    (setSysStat i s).mains = s.mains ∧
    (setSysStat i s).stitch = s.stitch ∧
    (setSysStat i s).axes = s.axes ∧
    (setSysStat i s).chan = s.chan ∧
    (setSysStat i s).supply = s.supply ∧
    (setSysStat i s).sto = s.sto ∧
    (setSysStat i s).spread = s.spread ∧
    (setSysStat i s).supv = s.supv ∧
    (setSysStat i s).fb = s.fb ∧
    (setSysStat i s).cnv = s.cnv ∧
    (setSysStat i s).pin = s.pin ∧
    (setSysStat i s).seam = s.seam ∧
    (setSysStat i s).flt = s.flt ∧
    (setSysStat i s).store = s.store ∧
    (setSysStat i s).bak = s.bak ∧
    (setSysStat i s).proof = s.proof := by
  unfold setSysStat; (try dsimp only); repeat' split
  all_goals (refine ⟨?_, ?_, ?_, ?_, ?_, ?_, ?_, ?_, ?_, ?_, ?_, ?_, ?_, ?_, ?_, ?_, ?_, ?_, ?_, ?_, ?_, ?_, ?_, ?_, ?_, ?_, ?_⟩ <;> simp)

@[simp] theorem setAxStat_frame (i : Nat) (n : Fin 8) (s : State) :
    (setAxStat i n s).pending = s.pending ∧
    (setAxStat i n s).now = s.now ∧
    (setAxStat i n s).free = s.free ∧
    (setAxStat i n s).power = s.power ∧
    (setAxStat i n s).host = s.host ∧
    (setAxStat i n s).lat = s.lat ∧
    (setAxStat i n s).win = s.win ∧
    (setAxStat i n s).cfg = s.cfg ∧
    (setAxStat i n s).boot = s.boot ∧
    (setAxStat i n s).otp = s.otp ∧
    (setAxStat i n s).src = s.src ∧
    (setAxStat i n s).paceFrac = s.paceFrac ∧
    (setAxStat i n s).mains = s.mains ∧
    (setAxStat i n s).stitch = s.stitch ∧
    (setAxStat i n s).chan = s.chan ∧
    (setAxStat i n s).supply = s.supply ∧
    (setAxStat i n s).sto = s.sto ∧
    (setAxStat i n s).spread = s.spread ∧
    (setAxStat i n s).supv = s.supv ∧
    (setAxStat i n s).fb = s.fb ∧
    (setAxStat i n s).cnv = s.cnv ∧
    (setAxStat i n s).pin = s.pin ∧
    (setAxStat i n s).seam = s.seam ∧
    (setAxStat i n s).flt = s.flt ∧
    (setAxStat i n s).store = s.store ∧
    (setAxStat i n s).bak = s.bak ∧
    (setAxStat i n s).proof = s.proof := by
  unfold setAxStat; (try dsimp only); repeat' split
  all_goals (refine ⟨?_, ?_, ?_, ?_, ?_, ?_, ?_, ?_, ?_, ?_, ?_, ?_, ?_, ?_, ?_, ?_, ?_, ?_, ?_, ?_, ?_, ?_, ?_, ?_, ?_, ?_, ?_⟩ <;> simp)

@[simp] theorem setFbStat_frame (i : Nat) (n : Fin 8) (s : State) :
    (setFbStat i n s).pending = s.pending ∧
    (setFbStat i n s).now = s.now ∧
    (setFbStat i n s).free = s.free ∧
    (setFbStat i n s).power = s.power ∧
    (setFbStat i n s).host = s.host ∧
    (setFbStat i n s).lat = s.lat ∧
    (setFbStat i n s).win = s.win ∧
    (setFbStat i n s).cfg = s.cfg ∧
    (setFbStat i n s).boot = s.boot ∧
    (setFbStat i n s).otp = s.otp ∧
    (setFbStat i n s).src = s.src ∧
    (setFbStat i n s).paceFrac = s.paceFrac ∧
    (setFbStat i n s).mains = s.mains ∧
    (setFbStat i n s).stitch = s.stitch ∧
    (setFbStat i n s).axes = s.axes ∧
    (setFbStat i n s).chan = s.chan ∧
    (setFbStat i n s).supply = s.supply ∧
    (setFbStat i n s).sto = s.sto ∧
    (setFbStat i n s).spread = s.spread ∧
    (setFbStat i n s).supv = s.supv ∧
    (setFbStat i n s).cnv = s.cnv ∧
    (setFbStat i n s).pin = s.pin ∧
    (setFbStat i n s).seam = s.seam ∧
    (setFbStat i n s).flt = s.flt ∧
    (setFbStat i n s).store = s.store ∧
    (setFbStat i n s).bak = s.bak ∧
    (setFbStat i n s).proof = s.proof := by
  unfold setFbStat; (try dsimp only); repeat' split
  all_goals (refine ⟨?_, ?_, ?_, ?_, ?_, ?_, ?_, ?_, ?_, ?_, ?_, ?_, ?_, ?_, ?_, ?_, ?_, ?_, ?_, ?_, ?_, ?_, ?_, ?_, ?_, ?_, ?_⟩ <;> simp)

@[simp] theorem setCnvStat_frame (i : Nat) (s : State) :
    (setCnvStat i s).pending = s.pending ∧
    (setCnvStat i s).now = s.now ∧
    (setCnvStat i s).free = s.free ∧
    (setCnvStat i s).power = s.power ∧
    (setCnvStat i s).host = s.host ∧
    (setCnvStat i s).lat = s.lat ∧
    (setCnvStat i s).win = s.win ∧
    (setCnvStat i s).cfg = s.cfg ∧
    (setCnvStat i s).boot = s.boot ∧
    (setCnvStat i s).otp = s.otp ∧
    (setCnvStat i s).src = s.src ∧
    (setCnvStat i s).paceFrac = s.paceFrac ∧
    (setCnvStat i s).mains = s.mains ∧
    (setCnvStat i s).stitch = s.stitch ∧
    (setCnvStat i s).axes = s.axes ∧
    (setCnvStat i s).chan = s.chan ∧
    (setCnvStat i s).supply = s.supply ∧
    (setCnvStat i s).sto = s.sto ∧
    (setCnvStat i s).spread = s.spread ∧
    (setCnvStat i s).supv = s.supv ∧
    (setCnvStat i s).fb = s.fb ∧
    (setCnvStat i s).pin = s.pin ∧
    (setCnvStat i s).seam = s.seam ∧
    (setCnvStat i s).flt = s.flt ∧
    (setCnvStat i s).store = s.store ∧
    (setCnvStat i s).bak = s.bak ∧
    (setCnvStat i s).proof = s.proof := by
  unfold setCnvStat; (try dsimp only); repeat' split
  all_goals (refine ⟨?_, ?_, ?_, ?_, ?_, ?_, ?_, ?_, ?_, ?_, ?_, ?_, ?_, ?_, ?_, ?_, ?_, ?_, ?_, ?_, ?_, ?_, ?_, ?_, ?_, ?_, ?_⟩ <;> simp)

@[simp] theorem setSeamStat_frame (i : Nat) (s : State) :
    (setSeamStat i s).pending = s.pending ∧
    (setSeamStat i s).now = s.now ∧
    (setSeamStat i s).free = s.free ∧
    (setSeamStat i s).power = s.power ∧
    (setSeamStat i s).host = s.host ∧
    (setSeamStat i s).lat = s.lat ∧
    (setSeamStat i s).win = s.win ∧
    (setSeamStat i s).cfg = s.cfg ∧
    (setSeamStat i s).boot = s.boot ∧
    (setSeamStat i s).otp = s.otp ∧
    (setSeamStat i s).src = s.src ∧
    (setSeamStat i s).paceFrac = s.paceFrac ∧
    (setSeamStat i s).mains = s.mains ∧
    (setSeamStat i s).stitch = s.stitch ∧
    (setSeamStat i s).axes = s.axes ∧
    (setSeamStat i s).chan = s.chan ∧
    (setSeamStat i s).supply = s.supply ∧
    (setSeamStat i s).sto = s.sto ∧
    (setSeamStat i s).spread = s.spread ∧
    (setSeamStat i s).supv = s.supv ∧
    (setSeamStat i s).fb = s.fb ∧
    (setSeamStat i s).cnv = s.cnv ∧
    (setSeamStat i s).pin = s.pin ∧
    (setSeamStat i s).flt = s.flt ∧
    (setSeamStat i s).store = s.store ∧
    (setSeamStat i s).bak = s.bak ∧
    (setSeamStat i s).proof = s.proof := by
  unfold setSeamStat; (try dsimp only); repeat' split
  all_goals (refine ⟨?_, ?_, ?_, ?_, ?_, ?_, ?_, ?_, ?_, ?_, ?_, ?_, ?_, ?_, ?_, ?_, ?_, ?_, ?_, ?_, ?_, ?_, ?_, ?_, ?_, ?_, ?_⟩ <;> simp)

@[simp] theorem setFltStat_frame (i : Nat) (s : State) :
    (setFltStat i s).pending = s.pending ∧
    (setFltStat i s).now = s.now ∧
    (setFltStat i s).free = s.free ∧
    (setFltStat i s).power = s.power ∧
    (setFltStat i s).host = s.host ∧
    (setFltStat i s).lat = s.lat ∧
    (setFltStat i s).win = s.win ∧
    (setFltStat i s).cfg = s.cfg ∧
    (setFltStat i s).boot = s.boot ∧
    (setFltStat i s).otp = s.otp ∧
    (setFltStat i s).src = s.src ∧
    (setFltStat i s).paceFrac = s.paceFrac ∧
    (setFltStat i s).mains = s.mains ∧
    (setFltStat i s).stitch = s.stitch ∧
    (setFltStat i s).axes = s.axes ∧
    (setFltStat i s).chan = s.chan ∧
    (setFltStat i s).supply = s.supply ∧
    (setFltStat i s).sto = s.sto ∧
    (setFltStat i s).spread = s.spread ∧
    (setFltStat i s).supv = s.supv ∧
    (setFltStat i s).fb = s.fb ∧
    (setFltStat i s).cnv = s.cnv ∧
    (setFltStat i s).pin = s.pin ∧
    (setFltStat i s).seam = s.seam ∧
    (setFltStat i s).store = s.store ∧
    (setFltStat i s).bak = s.bak ∧
    (setFltStat i s).proof = s.proof := by
  unfold setFltStat; (try dsimp only); repeat' split
  all_goals (refine ⟨?_, ?_, ?_, ?_, ?_, ?_, ?_, ?_, ?_, ?_, ?_, ?_, ?_, ?_, ?_, ?_, ?_, ?_, ?_, ?_, ?_, ?_, ?_, ?_, ?_, ?_, ?_⟩ <;> simp)

@[simp] theorem countTally_frame (c : Nat) (s : State) :
    (countTally c s).pending = s.pending ∧
    (countTally c s).now = s.now ∧
    (countTally c s).free = s.free ∧
    (countTally c s).power = s.power ∧
    (countTally c s).host = s.host ∧
    (countTally c s).lat = s.lat ∧
    (countTally c s).win = s.win ∧
    (countTally c s).cfg = s.cfg ∧
    (countTally c s).boot = s.boot ∧
    (countTally c s).otp = s.otp ∧
    (countTally c s).src = s.src ∧
    (countTally c s).paceFrac = s.paceFrac ∧
    (countTally c s).mains = s.mains ∧
    (countTally c s).stitch = s.stitch ∧
    (countTally c s).axes = s.axes ∧
    (countTally c s).chan = s.chan ∧
    (countTally c s).supply = s.supply ∧
    (countTally c s).sto = s.sto ∧
    (countTally c s).spread = s.spread ∧
    (countTally c s).supv = s.supv ∧
    (countTally c s).fb = s.fb ∧
    (countTally c s).cnv = s.cnv ∧
    (countTally c s).pin = s.pin ∧
    (countTally c s).seam = s.seam ∧
    (countTally c s).flt = s.flt ∧
    (countTally c s).bak = s.bak ∧
    (countTally c s).proof = s.proof := by
  unfold countTally; (try dsimp only); repeat' split
  all_goals (refine ⟨?_, ?_, ?_, ?_, ?_, ?_, ?_, ?_, ?_, ?_, ?_, ?_, ?_, ?_, ?_, ?_, ?_, ?_, ?_, ?_, ?_, ?_, ?_, ?_, ?_, ?_, ?_⟩ <;> simp)

/-! ### AxisState -/

@[simp] theorem switchesOff_frame (n : Fin 8) (s : State) :
    (switchesOff n s).pending = s.pending ∧
    (switchesOff n s).now = s.now ∧
    (switchesOff n s).free = s.free ∧
    (switchesOff n s).power = s.power ∧
    (switchesOff n s).host = s.host ∧
    (switchesOff n s).lat = s.lat ∧
    (switchesOff n s).win = s.win ∧
    (switchesOff n s).cfg = s.cfg ∧
    (switchesOff n s).boot = s.boot ∧
    (switchesOff n s).otp = s.otp ∧
    (switchesOff n s).src = s.src ∧
    (switchesOff n s).paceFrac = s.paceFrac ∧
    (switchesOff n s).mains = s.mains ∧
    (switchesOff n s).stitch = s.stitch ∧
    (switchesOff n s).chan = s.chan ∧
    (switchesOff n s).supply = s.supply ∧
    (switchesOff n s).sto = s.sto ∧
    (switchesOff n s).spread = s.spread ∧
    (switchesOff n s).supv = s.supv ∧
    (switchesOff n s).fb = s.fb ∧
    (switchesOff n s).cnv = s.cnv ∧
    (switchesOff n s).pin = s.pin ∧
    (switchesOff n s).seam = s.seam ∧
    (switchesOff n s).flt = s.flt ∧
    (switchesOff n s).store = s.store ∧
    (switchesOff n s).bak = s.bak ∧
    (switchesOff n s).proof = s.proof := by
  unfold switchesOff; (try dsimp only); repeat' split
  all_goals (refine ⟨?_, ?_, ?_, ?_, ?_, ?_, ?_, ?_, ?_, ?_, ?_, ?_, ?_, ?_, ?_, ?_, ?_, ?_, ?_, ?_, ?_, ?_, ?_, ?_, ?_, ?_, ?_⟩ <;> simp)

@[simp] theorem clearBrake_frame (n : Fin 8) (s : State) :
    (clearBrake n s).pending = s.pending ∧
    (clearBrake n s).now = s.now ∧
    (clearBrake n s).free = s.free ∧
    (clearBrake n s).power = s.power ∧
    (clearBrake n s).host = s.host ∧
    (clearBrake n s).lat = s.lat ∧
    (clearBrake n s).win = s.win ∧
    (clearBrake n s).cfg = s.cfg ∧
    (clearBrake n s).boot = s.boot ∧
    (clearBrake n s).otp = s.otp ∧
    (clearBrake n s).src = s.src ∧
    (clearBrake n s).paceFrac = s.paceFrac ∧
    (clearBrake n s).mains = s.mains ∧
    (clearBrake n s).stitch = s.stitch ∧
    (clearBrake n s).chan = s.chan ∧
    (clearBrake n s).supply = s.supply ∧
    (clearBrake n s).sto = s.sto ∧
    (clearBrake n s).spread = s.spread ∧
    (clearBrake n s).supv = s.supv ∧
    (clearBrake n s).fb = s.fb ∧
    (clearBrake n s).cnv = s.cnv ∧
    (clearBrake n s).pin = s.pin ∧
    (clearBrake n s).seam = s.seam ∧
    (clearBrake n s).flt = s.flt ∧
    (clearBrake n s).store = s.store ∧
    (clearBrake n s).bak = s.bak ∧
    (clearBrake n s).proof = s.proof := by
  unfold clearBrake; (try dsimp only); repeat' split
  all_goals (refine ⟨?_, ?_, ?_, ?_, ?_, ?_, ?_, ?_, ?_, ?_, ?_, ?_, ?_, ?_, ?_, ?_, ?_, ?_, ?_, ?_, ?_, ?_, ?_, ?_, ?_, ?_, ?_⟩ <;> simp)

@[simp] theorem setBrake_frame (n : Fin 8) (s : State) :
    (setBrake n s).pending = s.pending ∧
    (setBrake n s).now = s.now ∧
    (setBrake n s).free = s.free ∧
    (setBrake n s).power = s.power ∧
    (setBrake n s).host = s.host ∧
    (setBrake n s).lat = s.lat ∧
    (setBrake n s).win = s.win ∧
    (setBrake n s).cfg = s.cfg ∧
    (setBrake n s).boot = s.boot ∧
    (setBrake n s).otp = s.otp ∧
    (setBrake n s).src = s.src ∧
    (setBrake n s).paceFrac = s.paceFrac ∧
    (setBrake n s).mains = s.mains ∧
    (setBrake n s).stitch = s.stitch ∧
    (setBrake n s).chan = s.chan ∧
    (setBrake n s).supply = s.supply ∧
    (setBrake n s).sto = s.sto ∧
    (setBrake n s).spread = s.spread ∧
    (setBrake n s).supv = s.supv ∧
    (setBrake n s).fb = s.fb ∧
    (setBrake n s).cnv = s.cnv ∧
    (setBrake n s).pin = s.pin ∧
    (setBrake n s).seam = s.seam ∧
    (setBrake n s).flt = s.flt ∧
    (setBrake n s).store = s.store ∧
    (setBrake n s).bak = s.bak ∧
    (setBrake n s).proof = s.proof := by
  unfold setBrake; (try dsimp only); repeat' split
  all_goals (refine ⟨?_, ?_, ?_, ?_, ?_, ?_, ?_, ?_, ?_, ?_, ?_, ?_, ?_, ?_, ?_, ?_, ?_, ?_, ?_, ?_, ?_, ?_, ?_, ?_, ?_, ?_, ?_⟩ <;> simp)

@[simp] theorem abortProbe_frame (n : Fin 8) (s : State) :
    (abortProbe n s).pending = s.pending ∧
    (abortProbe n s).now = s.now ∧
    (abortProbe n s).free = s.free ∧
    (abortProbe n s).power = s.power ∧
    (abortProbe n s).host = s.host ∧
    (abortProbe n s).lat = s.lat ∧
    (abortProbe n s).win = s.win ∧
    (abortProbe n s).cfg = s.cfg ∧
    (abortProbe n s).boot = s.boot ∧
    (abortProbe n s).otp = s.otp ∧
    (abortProbe n s).src = s.src ∧
    (abortProbe n s).paceFrac = s.paceFrac ∧
    (abortProbe n s).mains = s.mains ∧
    (abortProbe n s).stitch = s.stitch ∧
    (abortProbe n s).chan = s.chan ∧
    (abortProbe n s).supply = s.supply ∧
    (abortProbe n s).sto = s.sto ∧
    (abortProbe n s).spread = s.spread ∧
    (abortProbe n s).supv = s.supv ∧
    (abortProbe n s).fb = s.fb ∧
    (abortProbe n s).cnv = s.cnv ∧
    (abortProbe n s).pin = s.pin ∧
    (abortProbe n s).seam = s.seam ∧
    (abortProbe n s).flt = s.flt ∧
    (abortProbe n s).store = s.store ∧
    (abortProbe n s).bak = s.bak ∧
    (abortProbe n s).proof = s.proof := by
  unfold abortProbe; (try dsimp only); repeat' split
  all_goals (refine ⟨?_, ?_, ?_, ?_, ?_, ?_, ?_, ?_, ?_, ?_, ?_, ?_, ?_, ?_, ?_, ?_, ?_, ?_, ?_, ?_, ?_, ?_, ?_, ?_, ?_, ?_, ?_⟩ <;> simp)

@[simp] theorem setState_frame (n : Fin 8) (new : AxSt) (s : State) :
    (setState n new s).pending = s.pending ∧
    (setState n new s).now = s.now ∧
    (setState n new s).free = s.free ∧
    (setState n new s).power = s.power ∧
    (setState n new s).host = s.host ∧
    (setState n new s).lat = s.lat ∧
    (setState n new s).win = s.win ∧
    (setState n new s).cfg = s.cfg ∧
    (setState n new s).boot = s.boot ∧
    (setState n new s).otp = s.otp ∧
    (setState n new s).src = s.src ∧
    (setState n new s).paceFrac = s.paceFrac ∧
    (setState n new s).mains = s.mains ∧
    (setState n new s).stitch = s.stitch ∧
    (setState n new s).chan = s.chan ∧
    (setState n new s).supply = s.supply ∧
    (setState n new s).sto = s.sto ∧
    (setState n new s).spread = s.spread ∧
    (setState n new s).supv = s.supv ∧
    (setState n new s).fb = s.fb ∧
    (setState n new s).cnv = s.cnv ∧
    (setState n new s).pin = s.pin ∧
    (setState n new s).seam = s.seam ∧
    (setState n new s).flt = s.flt ∧
    (setState n new s).store = s.store ∧
    (setState n new s).bak = s.bak ∧
    (setState n new s).proof = s.proof := by
  unfold setState; (try dsimp only); repeat' split
  all_goals (refine ⟨?_, ?_, ?_, ?_, ?_, ?_, ?_, ?_, ?_, ?_, ?_, ?_, ?_, ?_, ?_, ?_, ?_, ?_, ?_, ?_, ?_, ?_, ?_, ?_, ?_, ?_, ?_⟩ <;> simp)

@[simp] theorem haltAxis_frame (n : Fin 8) (s : State) :
    (haltAxis n s).pending = s.pending ∧
    (haltAxis n s).now = s.now ∧
    (haltAxis n s).free = s.free ∧
    (haltAxis n s).power = s.power ∧
    (haltAxis n s).host = s.host ∧
    (haltAxis n s).lat = s.lat ∧
    (haltAxis n s).win = s.win ∧
    (haltAxis n s).cfg = s.cfg ∧
    (haltAxis n s).boot = s.boot ∧
    (haltAxis n s).otp = s.otp ∧
    (haltAxis n s).src = s.src ∧
    (haltAxis n s).paceFrac = s.paceFrac ∧
    (haltAxis n s).mains = s.mains ∧
    (haltAxis n s).stitch = s.stitch ∧
    (haltAxis n s).chan = s.chan ∧
    (haltAxis n s).supply = s.supply ∧
    (haltAxis n s).sto = s.sto ∧
    (haltAxis n s).spread = s.spread ∧
    (haltAxis n s).supv = s.supv ∧
    (haltAxis n s).fb = s.fb ∧
    (haltAxis n s).cnv = s.cnv ∧
    (haltAxis n s).pin = s.pin ∧
    (haltAxis n s).seam = s.seam ∧
    (haltAxis n s).flt = s.flt ∧
    (haltAxis n s).store = s.store ∧
    (haltAxis n s).bak = s.bak ∧
    (haltAxis n s).proof = s.proof := by
  unfold haltAxis; (try dsimp only); repeat' split
  all_goals (refine ⟨?_, ?_, ?_, ?_, ?_, ?_, ?_, ?_, ?_, ?_, ?_, ?_, ?_, ?_, ?_, ?_, ?_, ?_, ?_, ?_, ?_, ?_, ?_, ?_, ?_, ?_, ?_⟩ <;> simp)

@[simp] theorem latchAxis_frame (n : Fin 8) (s : State) :
    (latchAxis n s).pending = s.pending ∧
    (latchAxis n s).now = s.now ∧
    (latchAxis n s).free = s.free ∧
    (latchAxis n s).power = s.power ∧
    (latchAxis n s).host = s.host ∧
    (latchAxis n s).lat = s.lat ∧
    (latchAxis n s).win = s.win ∧
    (latchAxis n s).cfg = s.cfg ∧
    (latchAxis n s).boot = s.boot ∧
    (latchAxis n s).otp = s.otp ∧
    (latchAxis n s).src = s.src ∧
    (latchAxis n s).paceFrac = s.paceFrac ∧
    (latchAxis n s).mains = s.mains ∧
    (latchAxis n s).stitch = s.stitch ∧
    (latchAxis n s).chan = s.chan ∧
    (latchAxis n s).supply = s.supply ∧
    (latchAxis n s).sto = s.sto ∧
    (latchAxis n s).spread = s.spread ∧
    (latchAxis n s).supv = s.supv ∧
    (latchAxis n s).fb = s.fb ∧
    (latchAxis n s).cnv = s.cnv ∧
    (latchAxis n s).pin = s.pin ∧
    (latchAxis n s).seam = s.seam ∧
    (latchAxis n s).flt = s.flt ∧
    (latchAxis n s).store = s.store ∧
    (latchAxis n s).bak = s.bak ∧
    (latchAxis n s).proof = s.proof := by
  unfold latchAxis; (try dsimp only); repeat' split
  all_goals (refine ⟨?_, ?_, ?_, ?_, ?_, ?_, ?_, ?_, ?_, ?_, ?_, ?_, ?_, ?_, ?_, ?_, ?_, ?_, ?_, ?_, ?_, ?_, ?_, ?_, ?_, ?_, ?_⟩ <;> simp)

@[simp] theorem unlatchAxis_frame (n : Fin 8) (s : State) :
    (unlatchAxis n s).pending = s.pending ∧
    (unlatchAxis n s).now = s.now ∧
    (unlatchAxis n s).free = s.free ∧
    (unlatchAxis n s).power = s.power ∧
    (unlatchAxis n s).host = s.host ∧
    (unlatchAxis n s).lat = s.lat ∧
    (unlatchAxis n s).win = s.win ∧
    (unlatchAxis n s).cfg = s.cfg ∧
    (unlatchAxis n s).boot = s.boot ∧
    (unlatchAxis n s).otp = s.otp ∧
    (unlatchAxis n s).src = s.src ∧
    (unlatchAxis n s).paceFrac = s.paceFrac ∧
    (unlatchAxis n s).mains = s.mains ∧
    (unlatchAxis n s).stitch = s.stitch ∧
    (unlatchAxis n s).chan = s.chan ∧
    (unlatchAxis n s).supply = s.supply ∧
    (unlatchAxis n s).sto = s.sto ∧
    (unlatchAxis n s).spread = s.spread ∧
    (unlatchAxis n s).supv = s.supv ∧
    (unlatchAxis n s).fb = s.fb ∧
    (unlatchAxis n s).cnv = s.cnv ∧
    (unlatchAxis n s).pin = s.pin ∧
    (unlatchAxis n s).seam = s.seam ∧
    (unlatchAxis n s).flt = s.flt ∧
    (unlatchAxis n s).store = s.store ∧
    (unlatchAxis n s).bak = s.bak ∧
    (unlatchAxis n s).proof = s.proof := by
  unfold unlatchAxis; (try dsimp only); repeat' split
  all_goals (refine ⟨?_, ?_, ?_, ?_, ?_, ?_, ?_, ?_, ?_, ?_, ?_, ?_, ?_, ?_, ?_, ?_, ?_, ?_, ?_, ?_, ?_, ?_, ?_, ?_, ?_, ?_, ?_⟩ <;> simp)

/-! ### Faults -/

@[simp] theorem modQueue_frame (q : Fin 10) (f : List Test → List Test) (s : State) :
    (modQueue q f s).pending = s.pending ∧
    (modQueue q f s).now = s.now ∧
    (modQueue q f s).free = s.free ∧
    (modQueue q f s).power = s.power ∧
    (modQueue q f s).host = s.host ∧
    (modQueue q f s).lat = s.lat ∧
    (modQueue q f s).win = s.win ∧
    (modQueue q f s).cfg = s.cfg ∧
    (modQueue q f s).boot = s.boot ∧
    (modQueue q f s).otp = s.otp ∧
    (modQueue q f s).src = s.src ∧
    (modQueue q f s).paceFrac = s.paceFrac ∧
    (modQueue q f s).mains = s.mains ∧
    (modQueue q f s).stitch = s.stitch ∧
    (modQueue q f s).axes = s.axes ∧
    (modQueue q f s).chan = s.chan ∧
    (modQueue q f s).supply = s.supply ∧
    (modQueue q f s).sto = s.sto ∧
    (modQueue q f s).spread = s.spread ∧
    (modQueue q f s).supv = s.supv ∧
    (modQueue q f s).fb = s.fb ∧
    (modQueue q f s).cnv = s.cnv ∧
    (modQueue q f s).pin = s.pin ∧
    (modQueue q f s).seam = s.seam ∧
    (modQueue q f s).store = s.store ∧
    (modQueue q f s).bak = s.bak ∧
    (modQueue q f s).proof = s.proof := by
  unfold modQueue; (try dsimp only); repeat' split
  all_goals (refine ⟨?_, ?_, ?_, ?_, ?_, ?_, ?_, ?_, ?_, ?_, ?_, ?_, ?_, ?_, ?_, ?_, ?_, ?_, ?_, ?_, ?_, ?_, ?_, ?_, ?_, ?_, ?_⟩ <;> simp)

@[simp] theorem addRes_frame (a k : Nat) (s : State) :
    (addRes a k s).pending = s.pending ∧
    (addRes a k s).now = s.now ∧
    (addRes a k s).free = s.free ∧
    (addRes a k s).power = s.power ∧
    (addRes a k s).host = s.host ∧
    (addRes a k s).lat = s.lat ∧
    (addRes a k s).win = s.win ∧
    (addRes a k s).cfg = s.cfg ∧
    (addRes a k s).boot = s.boot ∧
    (addRes a k s).otp = s.otp ∧
    (addRes a k s).src = s.src ∧
    (addRes a k s).paceFrac = s.paceFrac ∧
    (addRes a k s).mains = s.mains ∧
    (addRes a k s).stitch = s.stitch ∧
    (addRes a k s).axes = s.axes ∧
    (addRes a k s).chan = s.chan ∧
    (addRes a k s).supply = s.supply ∧
    (addRes a k s).sto = s.sto ∧
    (addRes a k s).spread = s.spread ∧
    (addRes a k s).supv = s.supv ∧
    (addRes a k s).fb = s.fb ∧
    (addRes a k s).pin = s.pin ∧
    (addRes a k s).seam = s.seam ∧
    (addRes a k s).flt = s.flt ∧
    (addRes a k s).store = s.store ∧
    (addRes a k s).bak = s.bak ∧
    (addRes a k s).proof = s.proof := by
  unfold addRes; (try dsimp only); repeat' split
  all_goals (refine ⟨?_, ?_, ?_, ?_, ?_, ?_, ?_, ?_, ?_, ?_, ?_, ?_, ?_, ?_, ?_, ?_, ?_, ?_, ?_, ?_, ?_, ?_, ?_, ?_, ?_, ?_, ?_⟩ <;> simp)

@[simp] theorem putDac_frame (n : Fin 8) (v : BitVec 10) (s : State) :
    (putDac n v s).pending = s.pending ∧
    (putDac n v s).now = s.now ∧
    (putDac n v s).free = s.free ∧
    (putDac n v s).power = s.power ∧
    (putDac n v s).host = s.host ∧
    (putDac n v s).lat = s.lat ∧
    (putDac n v s).win = s.win ∧
    (putDac n v s).cfg = s.cfg ∧
    (putDac n v s).boot = s.boot ∧
    (putDac n v s).otp = s.otp ∧
    (putDac n v s).src = s.src ∧
    (putDac n v s).paceFrac = s.paceFrac ∧
    (putDac n v s).mains = s.mains ∧
    (putDac n v s).stitch = s.stitch ∧
    (putDac n v s).axes = s.axes ∧
    (putDac n v s).chan = s.chan ∧
    (putDac n v s).supply = s.supply ∧
    (putDac n v s).sto = s.sto ∧
    (putDac n v s).spread = s.spread ∧
    (putDac n v s).supv = s.supv ∧
    (putDac n v s).fb = s.fb ∧
    (putDac n v s).pin = s.pin ∧
    (putDac n v s).seam = s.seam ∧
    (putDac n v s).flt = s.flt ∧
    (putDac n v s).store = s.store ∧
    (putDac n v s).bak = s.bak ∧
    (putDac n v s).proof = s.proof := by
  unfold putDac; (try dsimp only); repeat' split
  all_goals (refine ⟨?_, ?_, ?_, ?_, ?_, ?_, ?_, ?_, ?_, ?_, ?_, ?_, ?_, ?_, ?_, ?_, ?_, ?_, ?_, ?_, ?_, ?_, ?_, ?_, ?_, ?_, ?_⟩ <;> simp)

@[simp] theorem freeDac_frame (n : Fin 8) (s : State) :
    (freeDac n s).pending = s.pending ∧
    (freeDac n s).now = s.now ∧
    (freeDac n s).free = s.free ∧
    (freeDac n s).power = s.power ∧
    (freeDac n s).host = s.host ∧
    (freeDac n s).lat = s.lat ∧
    (freeDac n s).win = s.win ∧
    (freeDac n s).cfg = s.cfg ∧
    (freeDac n s).boot = s.boot ∧
    (freeDac n s).otp = s.otp ∧
    (freeDac n s).src = s.src ∧
    (freeDac n s).paceFrac = s.paceFrac ∧
    (freeDac n s).mains = s.mains ∧
    (freeDac n s).stitch = s.stitch ∧
    (freeDac n s).axes = s.axes ∧
    (freeDac n s).chan = s.chan ∧
    (freeDac n s).supply = s.supply ∧
    (freeDac n s).sto = s.sto ∧
    (freeDac n s).spread = s.spread ∧
    (freeDac n s).supv = s.supv ∧
    (freeDac n s).fb = s.fb ∧
    (freeDac n s).pin = s.pin ∧
    (freeDac n s).seam = s.seam ∧
    (freeDac n s).flt = s.flt ∧
    (freeDac n s).store = s.store ∧
    (freeDac n s).bak = s.bak ∧
    (freeDac n s).proof = s.proof := by
  unfold freeDac; (try dsimp only); repeat' split
  all_goals (refine ⟨?_, ?_, ?_, ?_, ?_, ?_, ?_, ?_, ?_, ?_, ?_, ?_, ?_, ?_, ?_, ?_, ?_, ?_, ?_, ?_, ?_, ?_, ?_, ?_, ?_, ?_, ?_⟩ <;> simp)

@[simp] theorem returnDac_frame (u : TestUnit) (s : State) :
    (returnDac u s).pending = s.pending ∧
    (returnDac u s).now = s.now ∧
    (returnDac u s).free = s.free ∧
    (returnDac u s).power = s.power ∧
    (returnDac u s).host = s.host ∧
    (returnDac u s).lat = s.lat ∧
    (returnDac u s).win = s.win ∧
    (returnDac u s).cfg = s.cfg ∧
    (returnDac u s).boot = s.boot ∧
    (returnDac u s).otp = s.otp ∧
    (returnDac u s).src = s.src ∧
    (returnDac u s).paceFrac = s.paceFrac ∧
    (returnDac u s).mains = s.mains ∧
    (returnDac u s).stitch = s.stitch ∧
    (returnDac u s).axes = s.axes ∧
    (returnDac u s).chan = s.chan ∧
    (returnDac u s).supply = s.supply ∧
    (returnDac u s).sto = s.sto ∧
    (returnDac u s).spread = s.spread ∧
    (returnDac u s).supv = s.supv ∧
    (returnDac u s).fb = s.fb ∧
    (returnDac u s).pin = s.pin ∧
    (returnDac u s).seam = s.seam ∧
    (returnDac u s).flt = s.flt ∧
    (returnDac u s).store = s.store ∧
    (returnDac u s).bak = s.bak ∧
    (returnDac u s).proof = s.proof := by
  unfold returnDac; (try dsimp only); repeat' split
  all_goals (refine ⟨?_, ?_, ?_, ?_, ?_, ?_, ?_, ?_, ?_, ?_, ?_, ?_, ?_, ?_, ?_, ?_, ?_, ?_, ?_, ?_, ?_, ?_, ?_, ?_, ?_, ?_, ?_⟩ <;> simp)

@[simp] theorem onTestStart_frame (u : TestUnit) (s : State) :
    (onTestStart u s).pending = s.pending ∧
    (onTestStart u s).now = s.now ∧
    (onTestStart u s).free = s.free ∧
    (onTestStart u s).power = s.power ∧
    (onTestStart u s).host = s.host ∧
    (onTestStart u s).lat = s.lat ∧
    (onTestStart u s).win = s.win ∧
    (onTestStart u s).cfg = s.cfg ∧
    (onTestStart u s).boot = s.boot ∧
    (onTestStart u s).otp = s.otp ∧
    (onTestStart u s).src = s.src ∧
    (onTestStart u s).paceFrac = s.paceFrac ∧
    (onTestStart u s).mains = s.mains ∧
    (onTestStart u s).stitch = s.stitch ∧
    (onTestStart u s).axes = s.axes ∧
    (onTestStart u s).chan = s.chan ∧
    (onTestStart u s).supply = s.supply ∧
    (onTestStart u s).sto = s.sto ∧
    (onTestStart u s).spread = s.spread ∧
    (onTestStart u s).supv = s.supv ∧
    (onTestStart u s).pin = s.pin ∧
    (onTestStart u s).seam = s.seam ∧
    (onTestStart u s).flt = s.flt ∧
    (onTestStart u s).store = s.store ∧
    (onTestStart u s).bak = s.bak ∧
    (onTestStart u s).proof = s.proof := by
  unfold onTestStart; (try dsimp only); repeat' split
  all_goals (refine ⟨?_, ?_, ?_, ?_, ?_, ?_, ?_, ?_, ?_, ?_, ?_, ?_, ?_, ?_, ?_, ?_, ?_, ?_, ?_, ?_, ?_, ?_, ?_, ?_, ?_, ?_⟩ <;> simp)

@[simp] theorem accumulate_frame (n : Fin 8) (k : Int) (s : State) :
    (accumulate n k s).pending = s.pending ∧
    (accumulate n k s).now = s.now ∧
    (accumulate n k s).free = s.free ∧
    (accumulate n k s).power = s.power ∧
    (accumulate n k s).host = s.host ∧
    (accumulate n k s).lat = s.lat ∧
    (accumulate n k s).win = s.win ∧
    (accumulate n k s).cfg = s.cfg ∧
    (accumulate n k s).boot = s.boot ∧
    (accumulate n k s).otp = s.otp ∧
    (accumulate n k s).src = s.src ∧
    (accumulate n k s).paceFrac = s.paceFrac ∧
    (accumulate n k s).mains = s.mains ∧
    (accumulate n k s).stitch = s.stitch ∧
    (accumulate n k s).chan = s.chan ∧
    (accumulate n k s).supply = s.supply ∧
    (accumulate n k s).sto = s.sto ∧
    (accumulate n k s).spread = s.spread ∧
    (accumulate n k s).supv = s.supv ∧
    (accumulate n k s).fb = s.fb ∧
    (accumulate n k s).cnv = s.cnv ∧
    (accumulate n k s).pin = s.pin ∧
    (accumulate n k s).seam = s.seam ∧
    (accumulate n k s).flt = s.flt ∧
    (accumulate n k s).store = s.store ∧
    (accumulate n k s).bak = s.bak ∧
    (accumulate n k s).proof = s.proof := by
  unfold accumulate; (try dsimp only); repeat' split
  all_goals (refine ⟨?_, ?_, ?_, ?_, ?_, ?_, ?_, ?_, ?_, ?_, ?_, ?_, ?_, ?_, ?_, ?_, ?_, ?_, ?_, ?_, ?_, ?_, ?_, ?_, ?_, ?_, ?_⟩ <;> simp)

@[simp] theorem onTestEnd_frame (u : TestUnit) (pass : Bool) (s : State) :
    (onTestEnd u pass s).pending = s.pending ∧
    (onTestEnd u pass s).now = s.now ∧
    (onTestEnd u pass s).free = s.free ∧
    (onTestEnd u pass s).power = s.power ∧
    (onTestEnd u pass s).host = s.host ∧
    (onTestEnd u pass s).lat = s.lat ∧
    (onTestEnd u pass s).win = s.win ∧
    (onTestEnd u pass s).cfg = s.cfg ∧
    (onTestEnd u pass s).boot = s.boot ∧
    (onTestEnd u pass s).otp = s.otp ∧
    (onTestEnd u pass s).src = s.src ∧
    (onTestEnd u pass s).paceFrac = s.paceFrac ∧
    (onTestEnd u pass s).mains = s.mains ∧
    (onTestEnd u pass s).stitch = s.stitch ∧
    (onTestEnd u pass s).chan = s.chan ∧
    (onTestEnd u pass s).supply = s.supply ∧
    (onTestEnd u pass s).sto = s.sto ∧
    (onTestEnd u pass s).spread = s.spread ∧
    (onTestEnd u pass s).supv = s.supv ∧
    (onTestEnd u pass s).pin = s.pin ∧
    (onTestEnd u pass s).seam = s.seam ∧
    (onTestEnd u pass s).flt = s.flt ∧
    (onTestEnd u pass s).store = s.store ∧
    (onTestEnd u pass s).bak = s.bak ∧
    (onTestEnd u pass s).proof = s.proof := by
  unfold onTestEnd; (try dsimp only); repeat' split
  all_goals (refine ⟨?_, ?_, ?_, ?_, ?_, ?_, ?_, ?_, ?_, ?_, ?_, ?_, ?_, ?_, ?_, ?_, ?_, ?_, ?_, ?_, ?_, ?_, ?_, ?_, ?_⟩ <;> simp)

@[simp] theorem startHead_frame (q : Fin 10) (s : State) :
    (startHead q s).pending = s.pending ∧
    (startHead q s).now = s.now ∧
    (startHead q s).free = s.free ∧
    (startHead q s).power = s.power ∧
    (startHead q s).host = s.host ∧
    (startHead q s).lat = s.lat ∧
    (startHead q s).win = s.win ∧
    (startHead q s).cfg = s.cfg ∧
    (startHead q s).boot = s.boot ∧
    (startHead q s).otp = s.otp ∧
    (startHead q s).src = s.src ∧
    (startHead q s).paceFrac = s.paceFrac ∧
    (startHead q s).mains = s.mains ∧
    (startHead q s).stitch = s.stitch ∧
    (startHead q s).axes = s.axes ∧
    (startHead q s).chan = s.chan ∧
    (startHead q s).supply = s.supply ∧
    (startHead q s).sto = s.sto ∧
    (startHead q s).spread = s.spread ∧
    (startHead q s).supv = s.supv ∧
    (startHead q s).pin = s.pin ∧
    (startHead q s).seam = s.seam ∧
    (startHead q s).flt = s.flt ∧
    (startHead q s).store = s.store ∧
    (startHead q s).bak = s.bak ∧
    (startHead q s).proof = s.proof := by
  unfold startHead; (try dsimp only); repeat' split
  all_goals (refine ⟨?_, ?_, ?_, ?_, ?_, ?_, ?_, ?_, ?_, ?_, ?_, ?_, ?_, ?_, ?_, ?_, ?_, ?_, ?_, ?_, ?_, ?_, ?_, ?_, ?_, ?_⟩ <;> simp)

@[simp] theorem queueTest_frame (t : Test) (s : State) :
    (queueTest t s).pending = s.pending ∧
    (queueTest t s).now = s.now ∧
    (queueTest t s).free = s.free ∧
    (queueTest t s).power = s.power ∧
    (queueTest t s).host = s.host ∧
    (queueTest t s).lat = s.lat ∧
    (queueTest t s).win = s.win ∧
    (queueTest t s).cfg = s.cfg ∧
    (queueTest t s).boot = s.boot ∧
    (queueTest t s).otp = s.otp ∧
    (queueTest t s).src = s.src ∧
    (queueTest t s).paceFrac = s.paceFrac ∧
    (queueTest t s).mains = s.mains ∧
    (queueTest t s).stitch = s.stitch ∧
    (queueTest t s).axes = s.axes ∧
    (queueTest t s).chan = s.chan ∧
    (queueTest t s).supply = s.supply ∧
    (queueTest t s).sto = s.sto ∧
    (queueTest t s).spread = s.spread ∧
    (queueTest t s).supv = s.supv ∧
    (queueTest t s).pin = s.pin ∧
    (queueTest t s).seam = s.seam ∧
    (queueTest t s).store = s.store ∧
    (queueTest t s).bak = s.bak ∧
    (queueTest t s).proof = s.proof := by
  unfold queueTest; (try dsimp only); repeat' split
  all_goals (refine ⟨?_, ?_, ?_, ?_, ?_, ?_, ?_, ?_, ?_, ?_, ?_, ?_, ?_, ?_, ?_, ?_, ?_, ?_, ?_, ?_, ?_, ?_, ?_, ?_, ?_⟩ <;> simp)

@[simp] theorem cacheEntry_frame (e : LogEntry) (s : State) :
    (cacheEntry e s).pending = s.pending ∧
    (cacheEntry e s).now = s.now ∧
    (cacheEntry e s).free = s.free ∧
    (cacheEntry e s).power = s.power ∧
    (cacheEntry e s).host = s.host ∧
    (cacheEntry e s).lat = s.lat ∧
    (cacheEntry e s).win = s.win ∧
    (cacheEntry e s).cfg = s.cfg ∧
    (cacheEntry e s).boot = s.boot ∧
    (cacheEntry e s).otp = s.otp ∧
    (cacheEntry e s).src = s.src ∧
    (cacheEntry e s).paceFrac = s.paceFrac ∧
    (cacheEntry e s).mains = s.mains ∧
    (cacheEntry e s).stitch = s.stitch ∧
    (cacheEntry e s).axes = s.axes ∧
    (cacheEntry e s).chan = s.chan ∧
    (cacheEntry e s).supply = s.supply ∧
    (cacheEntry e s).sto = s.sto ∧
    (cacheEntry e s).spread = s.spread ∧
    (cacheEntry e s).supv = s.supv ∧
    (cacheEntry e s).fb = s.fb ∧
    (cacheEntry e s).cnv = s.cnv ∧
    (cacheEntry e s).pin = s.pin ∧
    (cacheEntry e s).seam = s.seam ∧
    (cacheEntry e s).store = s.store ∧
    (cacheEntry e s).bak = s.bak ∧
    (cacheEntry e s).proof = s.proof := by
  unfold cacheEntry; (try dsimp only); repeat' split
  all_goals (refine ⟨?_, ?_, ?_, ?_, ?_, ?_, ?_, ?_, ?_, ?_, ?_, ?_, ?_, ?_, ?_, ?_, ?_, ?_, ?_, ?_, ?_, ?_, ?_, ?_, ?_, ?_, ?_⟩ <;> simp)

@[simp] theorem recordEntry_frame (e : LogEntry) (result : BitVec 3) (s : State) :
    (recordEntry e result s).pending = s.pending ∧
    (recordEntry e result s).now = s.now ∧
    (recordEntry e result s).free = s.free ∧
    (recordEntry e result s).power = s.power ∧
    (recordEntry e result s).host = s.host ∧
    (recordEntry e result s).lat = s.lat ∧
    (recordEntry e result s).win = s.win ∧
    (recordEntry e result s).cfg = s.cfg ∧
    (recordEntry e result s).boot = s.boot ∧
    (recordEntry e result s).otp = s.otp ∧
    (recordEntry e result s).src = s.src ∧
    (recordEntry e result s).paceFrac = s.paceFrac ∧
    (recordEntry e result s).mains = s.mains ∧
    (recordEntry e result s).stitch = s.stitch ∧
    (recordEntry e result s).axes = s.axes ∧
    (recordEntry e result s).chan = s.chan ∧
    (recordEntry e result s).supply = s.supply ∧
    (recordEntry e result s).sto = s.sto ∧
    (recordEntry e result s).spread = s.spread ∧
    (recordEntry e result s).supv = s.supv ∧
    (recordEntry e result s).fb = s.fb ∧
    (recordEntry e result s).cnv = s.cnv ∧
    (recordEntry e result s).pin = s.pin ∧
    (recordEntry e result s).seam = s.seam ∧
    (recordEntry e result s).store = s.store ∧
    (recordEntry e result s).bak = s.bak ∧
    (recordEntry e result s).proof = s.proof := by
  unfold recordEntry; (try dsimp only); repeat' split
  all_goals (refine ⟨?_, ?_, ?_, ?_, ?_, ?_, ?_, ?_, ?_, ?_, ?_, ?_, ?_, ?_, ?_, ?_, ?_, ?_, ?_, ?_, ?_, ?_, ?_, ?_, ?_, ?_, ?_⟩ <;> simp)

@[simp] theorem markMerged_frame (u : TestUnit) (s : State) :
    (markMerged u s).pending = s.pending ∧
    (markMerged u s).now = s.now ∧
    (markMerged u s).free = s.free ∧
    (markMerged u s).power = s.power ∧
    (markMerged u s).host = s.host ∧
    (markMerged u s).lat = s.lat ∧
    (markMerged u s).win = s.win ∧
    (markMerged u s).cfg = s.cfg ∧
    (markMerged u s).boot = s.boot ∧
    (markMerged u s).otp = s.otp ∧
    (markMerged u s).src = s.src ∧
    (markMerged u s).paceFrac = s.paceFrac ∧
    (markMerged u s).mains = s.mains ∧
    (markMerged u s).stitch = s.stitch ∧
    (markMerged u s).axes = s.axes ∧
    (markMerged u s).chan = s.chan ∧
    (markMerged u s).supply = s.supply ∧
    (markMerged u s).sto = s.sto ∧
    (markMerged u s).spread = s.spread ∧
    (markMerged u s).supv = s.supv ∧
    (markMerged u s).fb = s.fb ∧
    (markMerged u s).cnv = s.cnv ∧
    (markMerged u s).pin = s.pin ∧
    (markMerged u s).seam = s.seam ∧
    (markMerged u s).store = s.store ∧
    (markMerged u s).bak = s.bak ∧
    (markMerged u s).proof = s.proof := by
  unfold markMerged; (try dsimp only); repeat' split
  all_goals (refine ⟨?_, ?_, ?_, ?_, ?_, ?_, ?_, ?_, ?_, ?_, ?_, ?_, ?_, ?_, ?_, ?_, ?_, ?_, ?_, ?_, ?_, ?_, ?_, ?_, ?_, ?_, ?_⟩ <;> simp)

@[simp] theorem raiseFault_frame (code : Word) (units : List TestUnit) (axState meas : Word) (s : State) :
    (raiseFault code units axState meas s).pending = s.pending ∧
    (raiseFault code units axState meas s).now = s.now ∧
    (raiseFault code units axState meas s).free = s.free ∧
    (raiseFault code units axState meas s).power = s.power ∧
    (raiseFault code units axState meas s).host = s.host ∧
    (raiseFault code units axState meas s).lat = s.lat ∧
    (raiseFault code units axState meas s).win = s.win ∧
    (raiseFault code units axState meas s).cfg = s.cfg ∧
    (raiseFault code units axState meas s).boot = s.boot ∧
    (raiseFault code units axState meas s).otp = s.otp ∧
    (raiseFault code units axState meas s).src = s.src ∧
    (raiseFault code units axState meas s).paceFrac = s.paceFrac ∧
    (raiseFault code units axState meas s).mains = s.mains ∧
    (raiseFault code units axState meas s).stitch = s.stitch ∧
    (raiseFault code units axState meas s).axes = s.axes ∧
    (raiseFault code units axState meas s).chan = s.chan ∧
    (raiseFault code units axState meas s).supply = s.supply ∧
    (raiseFault code units axState meas s).sto = s.sto ∧
    (raiseFault code units axState meas s).spread = s.spread ∧
    (raiseFault code units axState meas s).supv = s.supv ∧
    (raiseFault code units axState meas s).pin = s.pin ∧
    (raiseFault code units axState meas s).seam = s.seam ∧
    (raiseFault code units axState meas s).store = s.store ∧
    (raiseFault code units axState meas s).bak = s.bak ∧
    (raiseFault code units axState meas s).proof = s.proof := by
  unfold raiseFault; (try dsimp only); repeat' split
  all_goals (refine ⟨?_, ?_, ?_, ?_, ?_, ?_, ?_, ?_, ?_, ?_, ?_, ?_, ?_, ?_, ?_, ?_, ?_, ?_, ?_, ?_, ?_, ?_, ?_, ?_, ?_⟩ <;> simp)

@[simp] theorem bootFault_frame (code : Word) (units : List TestUnit) (s : State) :
    (bootFault code units s).pending = s.pending ∧
    (bootFault code units s).now = s.now ∧
    (bootFault code units s).free = s.free ∧
    (bootFault code units s).power = s.power ∧
    (bootFault code units s).host = s.host ∧
    (bootFault code units s).lat = s.lat ∧
    (bootFault code units s).win = s.win ∧
    (bootFault code units s).cfg = s.cfg ∧
    (bootFault code units s).boot = s.boot ∧
    (bootFault code units s).otp = s.otp ∧
    (bootFault code units s).src = s.src ∧
    (bootFault code units s).paceFrac = s.paceFrac ∧
    (bootFault code units s).mains = s.mains ∧
    (bootFault code units s).stitch = s.stitch ∧
    (bootFault code units s).axes = s.axes ∧
    (bootFault code units s).chan = s.chan ∧
    (bootFault code units s).supply = s.supply ∧
    (bootFault code units s).sto = s.sto ∧
    (bootFault code units s).spread = s.spread ∧
    (bootFault code units s).supv = s.supv ∧
    (bootFault code units s).pin = s.pin ∧
    (bootFault code units s).seam = s.seam ∧
    (bootFault code units s).store = s.store ∧
    (bootFault code units s).bak = s.bak ∧
    (bootFault code units s).proof = s.proof := by
  unfold bootFault; (try dsimp only); repeat' split
  all_goals (refine ⟨?_, ?_, ?_, ?_, ?_, ?_, ?_, ?_, ?_, ?_, ?_, ?_, ?_, ?_, ?_, ?_, ?_, ?_, ?_, ?_, ?_, ?_, ?_, ?_, ?_⟩ <;> simp)

@[simp] theorem noteFaults_frame (old s : State) :
    (noteFaults old s).pending = s.pending ∧
    (noteFaults old s).now = s.now ∧
    (noteFaults old s).free = s.free ∧
    (noteFaults old s).power = s.power ∧
    (noteFaults old s).host = s.host ∧
    (noteFaults old s).lat = s.lat ∧
    (noteFaults old s).win = s.win ∧
    (noteFaults old s).cfg = s.cfg ∧
    (noteFaults old s).boot = s.boot ∧
    (noteFaults old s).otp = s.otp ∧
    (noteFaults old s).src = s.src ∧
    (noteFaults old s).paceFrac = s.paceFrac ∧
    (noteFaults old s).mains = s.mains ∧
    (noteFaults old s).stitch = s.stitch ∧
    (noteFaults old s).chan = s.chan ∧
    (noteFaults old s).supply = s.supply ∧
    (noteFaults old s).sto = s.sto ∧
    (noteFaults old s).spread = s.spread ∧
    (noteFaults old s).supv = s.supv ∧
    (noteFaults old s).fb = s.fb ∧
    (noteFaults old s).cnv = s.cnv ∧
    (noteFaults old s).pin = s.pin ∧
    (noteFaults old s).seam = s.seam ∧
    (noteFaults old s).flt = s.flt ∧
    (noteFaults old s).store = s.store ∧
    (noteFaults old s).bak = s.bak ∧
    (noteFaults old s).proof = s.proof := by
  unfold noteFaults; (try dsimp only); repeat' split
  all_goals simp [ite_pending, ite_now, ite_free, ite_power, ite_host, ite_lat, ite_win, ite_cfg, ite_boot, ite_otp, ite_src, ite_paceFrac, ite_mains, ite_stitch, ite_axes, ite_chan, ite_supply, ite_sto, ite_spread, ite_supv, ite_fb, ite_cnv, ite_pin, ite_seam, ite_flt, ite_store, ite_bak, ite_proof]

@[simp] theorem outOfService_frame (u : TestUnit) (s : State) :
    (outOfService u s).pending = s.pending ∧
    (outOfService u s).now = s.now ∧
    (outOfService u s).free = s.free ∧
    (outOfService u s).power = s.power ∧
    (outOfService u s).host = s.host ∧
    (outOfService u s).lat = s.lat ∧
    (outOfService u s).win = s.win ∧
    (outOfService u s).cfg = s.cfg ∧
    (outOfService u s).boot = s.boot ∧
    (outOfService u s).src = s.src ∧
    (outOfService u s).paceFrac = s.paceFrac ∧
    (outOfService u s).mains = s.mains ∧
    (outOfService u s).stitch = s.stitch ∧
    (outOfService u s).axes = s.axes ∧
    (outOfService u s).chan = s.chan ∧
    (outOfService u s).supply = s.supply ∧
    (outOfService u s).sto = s.sto ∧
    (outOfService u s).spread = s.spread ∧
    (outOfService u s).supv = s.supv ∧
    (outOfService u s).fb = s.fb ∧
    (outOfService u s).cnv = s.cnv ∧
    (outOfService u s).pin = s.pin ∧
    (outOfService u s).seam = s.seam ∧
    (outOfService u s).flt = s.flt ∧
    (outOfService u s).bak = s.bak ∧
    (outOfService u s).proof = s.proof := by
  unfold outOfService; (try dsimp only); repeat' split
  all_goals (refine ⟨?_, ?_, ?_, ?_, ?_, ?_, ?_, ?_, ?_, ?_, ?_, ?_, ?_, ?_, ?_, ?_, ?_, ?_, ?_, ?_, ?_, ?_, ?_, ?_, ?_, ?_⟩ <;> simp)

@[simp] theorem makeLasting_frame (u : TestUnit) (code : Word) (s : State) :
    (makeLasting u code s).pending = s.pending ∧
    (makeLasting u code s).now = s.now ∧
    (makeLasting u code s).free = s.free ∧
    (makeLasting u code s).power = s.power ∧
    (makeLasting u code s).host = s.host ∧
    (makeLasting u code s).lat = s.lat ∧
    (makeLasting u code s).win = s.win ∧
    (makeLasting u code s).cfg = s.cfg ∧
    (makeLasting u code s).boot = s.boot ∧
    (makeLasting u code s).src = s.src ∧
    (makeLasting u code s).paceFrac = s.paceFrac ∧
    (makeLasting u code s).mains = s.mains ∧
    (makeLasting u code s).stitch = s.stitch ∧
    (makeLasting u code s).chan = s.chan ∧
    (makeLasting u code s).supply = s.supply ∧
    (makeLasting u code s).sto = s.sto ∧
    (makeLasting u code s).spread = s.spread ∧
    (makeLasting u code s).supv = s.supv ∧
    (makeLasting u code s).fb = s.fb ∧
    (makeLasting u code s).cnv = s.cnv ∧
    (makeLasting u code s).pin = s.pin ∧
    (makeLasting u code s).seam = s.seam ∧
    (makeLasting u code s).bak = s.bak ∧
    (makeLasting u code s).proof = s.proof := by
  unfold makeLasting; (try dsimp only); repeat' split
  all_goals (refine ⟨?_, ?_, ?_, ?_, ?_, ?_, ?_, ?_, ?_, ?_, ?_, ?_, ?_, ?_, ?_, ?_, ?_, ?_, ?_, ?_, ?_, ?_, ?_, ?_⟩ <;> simp)

@[simp] theorem clearUnit_frame (u : TestUnit) (s : State) :
    (clearUnit u s).pending = s.pending ∧
    (clearUnit u s).now = s.now ∧
    (clearUnit u s).free = s.free ∧
    (clearUnit u s).power = s.power ∧
    (clearUnit u s).host = s.host ∧
    (clearUnit u s).lat = s.lat ∧
    (clearUnit u s).win = s.win ∧
    (clearUnit u s).cfg = s.cfg ∧
    (clearUnit u s).boot = s.boot ∧
    (clearUnit u s).otp = s.otp ∧
    (clearUnit u s).src = s.src ∧
    (clearUnit u s).paceFrac = s.paceFrac ∧
    (clearUnit u s).mains = s.mains ∧
    (clearUnit u s).stitch = s.stitch ∧
    (clearUnit u s).chan = s.chan ∧
    (clearUnit u s).supply = s.supply ∧
    (clearUnit u s).sto = s.sto ∧
    (clearUnit u s).spread = s.spread ∧
    (clearUnit u s).supv = s.supv ∧
    (clearUnit u s).fb = s.fb ∧
    (clearUnit u s).cnv = s.cnv ∧
    (clearUnit u s).pin = s.pin ∧
    (clearUnit u s).seam = s.seam ∧
    (clearUnit u s).store = s.store ∧
    (clearUnit u s).bak = s.bak ∧
    (clearUnit u s).proof = s.proof := by
  unfold clearUnit; (try dsimp only); repeat' split
  all_goals simp [ite_pending, ite_now, ite_free, ite_power, ite_host, ite_lat, ite_win, ite_cfg, ite_boot, ite_otp, ite_src, ite_paceFrac, ite_mains, ite_stitch, ite_axes, ite_chan, ite_supply, ite_sto, ite_spread, ite_supv, ite_fb, ite_cnv, ite_pin, ite_seam, ite_flt, ite_store, ite_bak, ite_proof]

@[simp] theorem settleEntries_frame (u : TestUnit) (result : BitVec 3) (repeats : BitVec 2) (firstFail : Word) (s : State) :
    (settleEntries u result repeats firstFail s).pending = s.pending ∧
    (settleEntries u result repeats firstFail s).now = s.now ∧
    (settleEntries u result repeats firstFail s).free = s.free ∧
    (settleEntries u result repeats firstFail s).power = s.power ∧
    (settleEntries u result repeats firstFail s).host = s.host ∧
    (settleEntries u result repeats firstFail s).lat = s.lat ∧
    (settleEntries u result repeats firstFail s).win = s.win ∧
    (settleEntries u result repeats firstFail s).cfg = s.cfg ∧
    (settleEntries u result repeats firstFail s).boot = s.boot ∧
    (settleEntries u result repeats firstFail s).otp = s.otp ∧
    (settleEntries u result repeats firstFail s).src = s.src ∧
    (settleEntries u result repeats firstFail s).paceFrac = s.paceFrac ∧
    (settleEntries u result repeats firstFail s).mains = s.mains ∧
    (settleEntries u result repeats firstFail s).stitch = s.stitch ∧
    (settleEntries u result repeats firstFail s).axes = s.axes ∧
    (settleEntries u result repeats firstFail s).chan = s.chan ∧
    (settleEntries u result repeats firstFail s).supply = s.supply ∧
    (settleEntries u result repeats firstFail s).sto = s.sto ∧
    (settleEntries u result repeats firstFail s).spread = s.spread ∧
    (settleEntries u result repeats firstFail s).supv = s.supv ∧
    (settleEntries u result repeats firstFail s).fb = s.fb ∧
    (settleEntries u result repeats firstFail s).cnv = s.cnv ∧
    (settleEntries u result repeats firstFail s).pin = s.pin ∧
    (settleEntries u result repeats firstFail s).seam = s.seam ∧
    (settleEntries u result repeats firstFail s).store = s.store ∧
    (settleEntries u result repeats firstFail s).bak = s.bak ∧
    (settleEntries u result repeats firstFail s).proof = s.proof := by
  unfold settleEntries; (try dsimp only); repeat' split
  all_goals (refine ⟨?_, ?_, ?_, ?_, ?_, ?_, ?_, ?_, ?_, ?_, ?_, ?_, ?_, ?_, ?_, ?_, ?_, ?_, ?_, ?_, ?_, ?_, ?_, ?_, ?_, ?_, ?_⟩ <;> simp)

@[simp] theorem classifyPass_frame (u : TestUnit) (code : Word) (s : State) :
    (classifyPass u code s).pending = s.pending ∧
    (classifyPass u code s).now = s.now ∧
    (classifyPass u code s).free = s.free ∧
    (classifyPass u code s).power = s.power ∧
    (classifyPass u code s).host = s.host ∧
    (classifyPass u code s).lat = s.lat ∧
    (classifyPass u code s).win = s.win ∧
    (classifyPass u code s).cfg = s.cfg ∧
    (classifyPass u code s).boot = s.boot ∧
    (classifyPass u code s).src = s.src ∧
    (classifyPass u code s).paceFrac = s.paceFrac ∧
    (classifyPass u code s).mains = s.mains ∧
    (classifyPass u code s).stitch = s.stitch ∧
    (classifyPass u code s).chan = s.chan ∧
    (classifyPass u code s).supply = s.supply ∧
    (classifyPass u code s).sto = s.sto ∧
    (classifyPass u code s).spread = s.spread ∧
    (classifyPass u code s).supv = s.supv ∧
    (classifyPass u code s).fb = s.fb ∧
    (classifyPass u code s).cnv = s.cnv ∧
    (classifyPass u code s).pin = s.pin ∧
    (classifyPass u code s).seam = s.seam ∧
    (classifyPass u code s).bak = s.bak ∧
    (classifyPass u code s).proof = s.proof := by
  unfold classifyPass; (try dsimp only); repeat' split
  all_goals (refine ⟨?_, ?_, ?_, ?_, ?_, ?_, ?_, ?_, ?_, ?_, ?_, ?_, ?_, ?_, ?_, ?_, ?_, ?_, ?_, ?_, ?_, ?_, ?_, ?_⟩ <;> simp)

@[simp] theorem classifyFail_frame (t : Test) (firstFail : Word) (s : State) :
    (classifyFail t firstFail s).pending = s.pending ∧
    (classifyFail t firstFail s).now = s.now ∧
    (classifyFail t firstFail s).free = s.free ∧
    (classifyFail t firstFail s).power = s.power ∧
    (classifyFail t firstFail s).host = s.host ∧
    (classifyFail t firstFail s).lat = s.lat ∧
    (classifyFail t firstFail s).win = s.win ∧
    (classifyFail t firstFail s).cfg = s.cfg ∧
    (classifyFail t firstFail s).boot = s.boot ∧
    (classifyFail t firstFail s).src = s.src ∧
    (classifyFail t firstFail s).paceFrac = s.paceFrac ∧
    (classifyFail t firstFail s).mains = s.mains ∧
    (classifyFail t firstFail s).stitch = s.stitch ∧
    (classifyFail t firstFail s).chan = s.chan ∧
    (classifyFail t firstFail s).supply = s.supply ∧
    (classifyFail t firstFail s).sto = s.sto ∧
    (classifyFail t firstFail s).spread = s.spread ∧
    (classifyFail t firstFail s).supv = s.supv ∧
    (classifyFail t firstFail s).fb = s.fb ∧
    (classifyFail t firstFail s).cnv = s.cnv ∧
    (classifyFail t firstFail s).pin = s.pin ∧
    (classifyFail t firstFail s).seam = s.seam ∧
    (classifyFail t firstFail s).bak = s.bak ∧
    (classifyFail t firstFail s).proof = s.proof := by
  unfold classifyFail; (try dsimp only); repeat' split
  all_goals (refine ⟨?_, ?_, ?_, ?_, ?_, ?_, ?_, ?_, ?_, ?_, ?_, ?_, ?_, ?_, ?_, ?_, ?_, ?_, ?_, ?_, ?_, ?_, ?_, ?_⟩ <;> simp)

@[simp] theorem settleRetest_frame (t : Test) (pass : Bool) (firstFail : Word) (s : State) :
    (settleRetest t pass firstFail s).pending = s.pending ∧
    (settleRetest t pass firstFail s).now = s.now ∧
    (settleRetest t pass firstFail s).free = s.free ∧
    (settleRetest t pass firstFail s).power = s.power ∧
    (settleRetest t pass firstFail s).host = s.host ∧
    (settleRetest t pass firstFail s).lat = s.lat ∧
    (settleRetest t pass firstFail s).win = s.win ∧
    (settleRetest t pass firstFail s).cfg = s.cfg ∧
    (settleRetest t pass firstFail s).boot = s.boot ∧
    (settleRetest t pass firstFail s).otp = s.otp ∧
    (settleRetest t pass firstFail s).src = s.src ∧
    (settleRetest t pass firstFail s).paceFrac = s.paceFrac ∧
    (settleRetest t pass firstFail s).mains = s.mains ∧
    (settleRetest t pass firstFail s).stitch = s.stitch ∧
    (settleRetest t pass firstFail s).chan = s.chan ∧
    (settleRetest t pass firstFail s).supply = s.supply ∧
    (settleRetest t pass firstFail s).sto = s.sto ∧
    (settleRetest t pass firstFail s).spread = s.spread ∧
    (settleRetest t pass firstFail s).supv = s.supv ∧
    (settleRetest t pass firstFail s).fb = s.fb ∧
    (settleRetest t pass firstFail s).cnv = s.cnv ∧
    (settleRetest t pass firstFail s).pin = s.pin ∧
    (settleRetest t pass firstFail s).seam = s.seam ∧
    (settleRetest t pass firstFail s).store = s.store ∧
    (settleRetest t pass firstFail s).bak = s.bak ∧
    (settleRetest t pass firstFail s).proof = s.proof := by
  unfold settleRetest; (try dsimp only); repeat' split
  all_goals (refine ⟨?_, ?_, ?_, ?_, ?_, ?_, ?_, ?_, ?_, ?_, ?_, ?_, ?_, ?_, ?_, ?_, ?_, ?_, ?_, ?_, ?_, ?_, ?_, ?_, ?_, ?_⟩ <;> simp)

@[simp] theorem leaveQueue_frame (u : TestUnit) (s : State) :
    (leaveQueue u s).pending = s.pending ∧
    (leaveQueue u s).now = s.now ∧
    (leaveQueue u s).free = s.free ∧
    (leaveQueue u s).power = s.power ∧
    (leaveQueue u s).host = s.host ∧
    (leaveQueue u s).lat = s.lat ∧
    (leaveQueue u s).win = s.win ∧
    (leaveQueue u s).cfg = s.cfg ∧
    (leaveQueue u s).boot = s.boot ∧
    (leaveQueue u s).otp = s.otp ∧
    (leaveQueue u s).src = s.src ∧
    (leaveQueue u s).paceFrac = s.paceFrac ∧
    (leaveQueue u s).mains = s.mains ∧
    (leaveQueue u s).stitch = s.stitch ∧
    (leaveQueue u s).axes = s.axes ∧
    (leaveQueue u s).chan = s.chan ∧
    (leaveQueue u s).supply = s.supply ∧
    (leaveQueue u s).sto = s.sto ∧
    (leaveQueue u s).spread = s.spread ∧
    (leaveQueue u s).supv = s.supv ∧
    (leaveQueue u s).fb = s.fb ∧
    (leaveQueue u s).cnv = s.cnv ∧
    (leaveQueue u s).pin = s.pin ∧
    (leaveQueue u s).seam = s.seam ∧
    (leaveQueue u s).store = s.store ∧
    (leaveQueue u s).bak = s.bak ∧
    (leaveQueue u s).proof = s.proof := by
  unfold leaveQueue; (try dsimp only); repeat' split
  all_goals (refine ⟨?_, ?_, ?_, ?_, ?_, ?_, ?_, ?_, ?_, ?_, ?_, ?_, ?_, ?_, ?_, ?_, ?_, ?_, ?_, ?_, ?_, ?_, ?_, ?_, ?_, ?_, ?_⟩ <;> simp)

@[simp] theorem judgeTest_frame (t : Test) (was pass : Bool) (codes : List Word) (firstFail : Word) (s : State) :
    (judgeTest t was pass codes firstFail s).pending = s.pending ∧
    (judgeTest t was pass codes firstFail s).now = s.now ∧
    (judgeTest t was pass codes firstFail s).free = s.free ∧
    (judgeTest t was pass codes firstFail s).power = s.power ∧
    (judgeTest t was pass codes firstFail s).host = s.host ∧
    (judgeTest t was pass codes firstFail s).lat = s.lat ∧
    (judgeTest t was pass codes firstFail s).win = s.win ∧
    (judgeTest t was pass codes firstFail s).cfg = s.cfg ∧
    (judgeTest t was pass codes firstFail s).boot = s.boot ∧
    (judgeTest t was pass codes firstFail s).src = s.src ∧
    (judgeTest t was pass codes firstFail s).paceFrac = s.paceFrac ∧
    (judgeTest t was pass codes firstFail s).mains = s.mains ∧
    (judgeTest t was pass codes firstFail s).stitch = s.stitch ∧
    (judgeTest t was pass codes firstFail s).chan = s.chan ∧
    (judgeTest t was pass codes firstFail s).supply = s.supply ∧
    (judgeTest t was pass codes firstFail s).sto = s.sto ∧
    (judgeTest t was pass codes firstFail s).spread = s.spread ∧
    (judgeTest t was pass codes firstFail s).supv = s.supv ∧
    (judgeTest t was pass codes firstFail s).fb = s.fb ∧
    (judgeTest t was pass codes firstFail s).cnv = s.cnv ∧
    (judgeTest t was pass codes firstFail s).pin = s.pin ∧
    (judgeTest t was pass codes firstFail s).seam = s.seam ∧
    (judgeTest t was pass codes firstFail s).bak = s.bak ∧
    (judgeTest t was pass codes firstFail s).proof = s.proof := by
  unfold judgeTest; (try dsimp only); repeat' split
  all_goals (refine ⟨?_, ?_, ?_, ?_, ?_, ?_, ?_, ?_, ?_, ?_, ?_, ?_, ?_, ?_, ?_, ?_, ?_, ?_, ?_, ?_, ?_, ?_, ?_, ?_⟩ <;> simp)

@[simp] theorem countProof_frame (t : Test) (pass : Bool) (s : State) :
    (countProof t pass s).pending = s.pending ∧
    (countProof t pass s).now = s.now ∧
    (countProof t pass s).free = s.free ∧
    (countProof t pass s).power = s.power ∧
    (countProof t pass s).host = s.host ∧
    (countProof t pass s).lat = s.lat ∧
    (countProof t pass s).win = s.win ∧
    (countProof t pass s).cfg = s.cfg ∧
    (countProof t pass s).boot = s.boot ∧
    (countProof t pass s).otp = s.otp ∧
    (countProof t pass s).src = s.src ∧
    (countProof t pass s).paceFrac = s.paceFrac ∧
    (countProof t pass s).mains = s.mains ∧
    (countProof t pass s).stitch = s.stitch ∧
    (countProof t pass s).axes = s.axes ∧
    (countProof t pass s).chan = s.chan ∧
    (countProof t pass s).supply = s.supply ∧
    (countProof t pass s).sto = s.sto ∧
    (countProof t pass s).spread = s.spread ∧
    (countProof t pass s).supv = s.supv ∧
    (countProof t pass s).fb = s.fb ∧
    (countProof t pass s).cnv = s.cnv ∧
    (countProof t pass s).pin = s.pin ∧
    (countProof t pass s).seam = s.seam ∧
    (countProof t pass s).flt = s.flt ∧
    (countProof t pass s).store = s.store ∧
    (countProof t pass s).bak = s.bak := by
  unfold countProof; (try dsimp only); repeat' split
  all_goals (refine ⟨?_, ?_, ?_, ?_, ?_, ?_, ?_, ?_, ?_, ?_, ?_, ?_, ?_, ?_, ?_, ?_, ?_, ?_, ?_, ?_, ?_, ?_, ?_, ?_, ?_, ?_, ?_⟩ <;> simp)

@[simp] theorem reportTest_frame (t : Test) (pass : Bool) (s : State) :
    (reportTest t pass s).pending = s.pending ∧
    (reportTest t pass s).now = s.now ∧
    (reportTest t pass s).free = s.free ∧
    (reportTest t pass s).power = s.power ∧
    (reportTest t pass s).host = s.host ∧
    (reportTest t pass s).lat = s.lat ∧
    (reportTest t pass s).win = s.win ∧
    (reportTest t pass s).cfg = s.cfg ∧
    (reportTest t pass s).boot = s.boot ∧
    (reportTest t pass s).otp = s.otp ∧
    (reportTest t pass s).src = s.src ∧
    (reportTest t pass s).paceFrac = s.paceFrac ∧
    (reportTest t pass s).mains = s.mains ∧
    (reportTest t pass s).stitch = s.stitch ∧
    (reportTest t pass s).axes = s.axes ∧
    (reportTest t pass s).chan = s.chan ∧
    (reportTest t pass s).supply = s.supply ∧
    (reportTest t pass s).sto = s.sto ∧
    (reportTest t pass s).spread = s.spread ∧
    (reportTest t pass s).supv = s.supv ∧
    (reportTest t pass s).fb = s.fb ∧
    (reportTest t pass s).cnv = s.cnv ∧
    (reportTest t pass s).pin = s.pin ∧
    (reportTest t pass s).seam = s.seam ∧
    (reportTest t pass s).store = s.store ∧
    (reportTest t pass s).bak = s.bak ∧
    (reportTest t pass s).proof = s.proof := by
  unfold reportTest; (try dsimp only); repeat' split
  all_goals (refine ⟨?_, ?_, ?_, ?_, ?_, ?_, ?_, ?_, ?_, ?_, ?_, ?_, ?_, ?_, ?_, ?_, ?_, ?_, ?_, ?_, ?_, ?_, ?_, ?_, ?_, ?_, ?_⟩ <;> simp)

@[simp] theorem leaveTest_frame (u : TestUnit) (s : State) :
    (leaveTest u s).pending = s.pending ∧
    (leaveTest u s).now = s.now ∧
    (leaveTest u s).free = s.free ∧
    (leaveTest u s).power = s.power ∧
    (leaveTest u s).host = s.host ∧
    (leaveTest u s).lat = s.lat ∧
    (leaveTest u s).win = s.win ∧
    (leaveTest u s).cfg = s.cfg ∧
    (leaveTest u s).boot = s.boot ∧
    (leaveTest u s).otp = s.otp ∧
    (leaveTest u s).src = s.src ∧
    (leaveTest u s).paceFrac = s.paceFrac ∧
    (leaveTest u s).mains = s.mains ∧
    (leaveTest u s).stitch = s.stitch ∧
    (leaveTest u s).chan = s.chan ∧
    (leaveTest u s).supply = s.supply ∧
    (leaveTest u s).sto = s.sto ∧
    (leaveTest u s).spread = s.spread ∧
    (leaveTest u s).supv = s.supv ∧
    (leaveTest u s).fb = s.fb ∧
    (leaveTest u s).cnv = s.cnv ∧
    (leaveTest u s).pin = s.pin ∧
    (leaveTest u s).seam = s.seam ∧
    (leaveTest u s).flt = s.flt ∧
    (leaveTest u s).store = s.store ∧
    (leaveTest u s).bak = s.bak ∧
    (leaveTest u s).proof = s.proof := by
  unfold leaveTest; (try dsimp only); repeat' split
  all_goals simp [ite_pending, ite_now, ite_free, ite_power, ite_host, ite_lat, ite_win, ite_cfg, ite_boot, ite_otp, ite_src, ite_paceFrac, ite_mains, ite_stitch, ite_axes, ite_chan, ite_supply, ite_sto, ite_spread, ite_supv, ite_fb, ite_cnv, ite_pin, ite_seam, ite_flt, ite_store, ite_bak, ite_proof]

@[simp] theorem completeTest_frame (u : TestUnit) (pass : Bool) (firstFail : Word) (s : State) :
    (completeTest u pass firstFail s).pending = s.pending ∧
    (completeTest u pass firstFail s).now = s.now ∧
    (completeTest u pass firstFail s).free = s.free ∧
    (completeTest u pass firstFail s).power = s.power ∧
    (completeTest u pass firstFail s).host = s.host ∧
    (completeTest u pass firstFail s).lat = s.lat ∧
    (completeTest u pass firstFail s).win = s.win ∧
    (completeTest u pass firstFail s).cfg = s.cfg ∧
    (completeTest u pass firstFail s).boot = s.boot ∧
    (completeTest u pass firstFail s).src = s.src ∧
    (completeTest u pass firstFail s).paceFrac = s.paceFrac ∧
    (completeTest u pass firstFail s).mains = s.mains ∧
    (completeTest u pass firstFail s).stitch = s.stitch ∧
    (completeTest u pass firstFail s).chan = s.chan ∧
    (completeTest u pass firstFail s).supply = s.supply ∧
    (completeTest u pass firstFail s).sto = s.sto ∧
    (completeTest u pass firstFail s).spread = s.spread ∧
    (completeTest u pass firstFail s).supv = s.supv ∧
    (completeTest u pass firstFail s).pin = s.pin ∧
    (completeTest u pass firstFail s).seam = s.seam ∧
    (completeTest u pass firstFail s).bak = s.bak := by
  unfold completeTest; (try dsimp only); repeat' split
  all_goals (refine ⟨?_, ?_, ?_, ?_, ?_, ?_, ?_, ?_, ?_, ?_, ?_, ?_, ?_, ?_, ?_, ?_, ?_, ?_, ?_, ?_, ?_⟩ <;> simp)

/-! ### Pwm -/

@[simp] theorem advancePeriod_frame (n : Fin 8) (s : State) :
    (advancePeriod n s).pending = s.pending ∧
    (advancePeriod n s).now = s.now ∧
    (advancePeriod n s).free = s.free ∧
    (advancePeriod n s).power = s.power ∧
    (advancePeriod n s).host = s.host ∧
    (advancePeriod n s).lat = s.lat ∧
    (advancePeriod n s).win = s.win ∧
    (advancePeriod n s).cfg = s.cfg ∧
    (advancePeriod n s).boot = s.boot ∧
    (advancePeriod n s).otp = s.otp ∧
    (advancePeriod n s).src = s.src ∧
    (advancePeriod n s).paceFrac = s.paceFrac ∧
    (advancePeriod n s).mains = s.mains ∧
    (advancePeriod n s).stitch = s.stitch ∧
    (advancePeriod n s).chan = s.chan ∧
    (advancePeriod n s).supply = s.supply ∧
    (advancePeriod n s).sto = s.sto ∧
    (advancePeriod n s).spread = s.spread ∧
    (advancePeriod n s).supv = s.supv ∧
    (advancePeriod n s).fb = s.fb ∧
    (advancePeriod n s).cnv = s.cnv ∧
    (advancePeriod n s).pin = s.pin ∧
    (advancePeriod n s).seam = s.seam ∧
    (advancePeriod n s).flt = s.flt ∧
    (advancePeriod n s).store = s.store ∧
    (advancePeriod n s).bak = s.bak ∧
    (advancePeriod n s).proof = s.proof := by
  unfold advancePeriod; (try dsimp only); repeat' split
  all_goals (refine ⟨?_, ?_, ?_, ?_, ?_, ?_, ?_, ?_, ?_, ?_, ?_, ?_, ?_, ?_, ?_, ?_, ?_, ?_, ?_, ?_, ?_, ?_, ?_, ?_, ?_, ?_, ?_⟩ <;> simp)

@[simp] theorem reseed_frame (n : Fin 8) (s : State) :
    (reseed n s).pending = s.pending ∧
    (reseed n s).now = s.now ∧
    (reseed n s).free = s.free ∧
    (reseed n s).power = s.power ∧
    (reseed n s).host = s.host ∧
    (reseed n s).lat = s.lat ∧
    (reseed n s).win = s.win ∧
    (reseed n s).cfg = s.cfg ∧
    (reseed n s).boot = s.boot ∧
    (reseed n s).otp = s.otp ∧
    (reseed n s).src = s.src ∧
    (reseed n s).paceFrac = s.paceFrac ∧
    (reseed n s).mains = s.mains ∧
    (reseed n s).stitch = s.stitch ∧
    (reseed n s).chan = s.chan ∧
    (reseed n s).supply = s.supply ∧
    (reseed n s).sto = s.sto ∧
    (reseed n s).spread = s.spread ∧
    (reseed n s).supv = s.supv ∧
    (reseed n s).fb = s.fb ∧
    (reseed n s).cnv = s.cnv ∧
    (reseed n s).pin = s.pin ∧
    (reseed n s).seam = s.seam ∧
    (reseed n s).flt = s.flt ∧
    (reseed n s).store = s.store ∧
    (reseed n s).bak = s.bak ∧
    (reseed n s).proof = s.proof := by
  unfold reseed; (try dsimp only); repeat' split
  all_goals (refine ⟨?_, ?_, ?_, ?_, ?_, ?_, ?_, ?_, ?_, ?_, ?_, ?_, ?_, ?_, ?_, ?_, ?_, ?_, ?_, ?_, ?_, ?_, ?_, ?_, ?_, ?_, ?_⟩ <;> simp)

@[simp] theorem refreshVmax_frame (s : State) :
    (refreshVmax s).pending = s.pending ∧
    (refreshVmax s).now = s.now ∧
    (refreshVmax s).free = s.free ∧
    (refreshVmax s).power = s.power ∧
    (refreshVmax s).host = s.host ∧
    (refreshVmax s).lat = s.lat ∧
    (refreshVmax s).win = s.win ∧
    (refreshVmax s).cfg = s.cfg ∧
    (refreshVmax s).boot = s.boot ∧
    (refreshVmax s).otp = s.otp ∧
    (refreshVmax s).src = s.src ∧
    (refreshVmax s).paceFrac = s.paceFrac ∧
    (refreshVmax s).mains = s.mains ∧
    (refreshVmax s).stitch = s.stitch ∧
    (refreshVmax s).chan = s.chan ∧
    (refreshVmax s).supply = s.supply ∧
    (refreshVmax s).sto = s.sto ∧
    (refreshVmax s).spread = s.spread ∧
    (refreshVmax s).supv = s.supv ∧
    (refreshVmax s).fb = s.fb ∧
    (refreshVmax s).cnv = s.cnv ∧
    (refreshVmax s).pin = s.pin ∧
    (refreshVmax s).seam = s.seam ∧
    (refreshVmax s).flt = s.flt ∧
    (refreshVmax s).store = s.store ∧
    (refreshVmax s).bak = s.bak ∧
    (refreshVmax s).proof = s.proof := by
  unfold refreshVmax; (try dsimp only); repeat' split
  all_goals (refine ⟨?_, ?_, ?_, ?_, ?_, ?_, ?_, ?_, ?_, ?_, ?_, ?_, ?_, ?_, ?_, ?_, ?_, ?_, ?_, ?_, ?_, ?_, ?_, ?_, ?_, ?_, ?_⟩ <;> simp)

@[simp] theorem loadPeriod_frame (n : Fin 8) (p e : Nat) (plan : Vector LegPlan 3) (s : State) :
    (loadPeriod n p e plan s).pending = s.pending ∧
    (loadPeriod n p e plan s).now = s.now ∧
    (loadPeriod n p e plan s).free = s.free ∧
    (loadPeriod n p e plan s).power = s.power ∧
    (loadPeriod n p e plan s).host = s.host ∧
    (loadPeriod n p e plan s).lat = s.lat ∧
    (loadPeriod n p e plan s).win = s.win ∧
    (loadPeriod n p e plan s).cfg = s.cfg ∧
    (loadPeriod n p e plan s).boot = s.boot ∧
    (loadPeriod n p e plan s).otp = s.otp ∧
    (loadPeriod n p e plan s).src = s.src ∧
    (loadPeriod n p e plan s).paceFrac = s.paceFrac ∧
    (loadPeriod n p e plan s).mains = s.mains ∧
    (loadPeriod n p e plan s).stitch = s.stitch ∧
    (loadPeriod n p e plan s).chan = s.chan ∧
    (loadPeriod n p e plan s).supply = s.supply ∧
    (loadPeriod n p e plan s).sto = s.sto ∧
    (loadPeriod n p e plan s).spread = s.spread ∧
    (loadPeriod n p e plan s).supv = s.supv ∧
    (loadPeriod n p e plan s).fb = s.fb ∧
    (loadPeriod n p e plan s).cnv = s.cnv ∧
    (loadPeriod n p e plan s).pin = s.pin ∧
    (loadPeriod n p e plan s).seam = s.seam ∧
    (loadPeriod n p e plan s).flt = s.flt ∧
    (loadPeriod n p e plan s).store = s.store ∧
    (loadPeriod n p e plan s).bak = s.bak ∧
    (loadPeriod n p e plan s).proof = s.proof := by
  unfold loadPeriod; (try dsimp only); repeat' split
  all_goals (refine ⟨?_, ?_, ?_, ?_, ?_, ?_, ?_, ?_, ?_, ?_, ?_, ?_, ?_, ?_, ?_, ?_, ?_, ?_, ?_, ?_, ?_, ?_, ?_, ?_, ?_, ?_, ?_⟩ <;> simp)

@[simp] theorem adoptLive_frame (n : Fin 8) (s : State) :
    (adoptLive n s).pending = s.pending ∧
    (adoptLive n s).now = s.now ∧
    (adoptLive n s).free = s.free ∧
    (adoptLive n s).power = s.power ∧
    (adoptLive n s).host = s.host ∧
    (adoptLive n s).lat = s.lat ∧
    (adoptLive n s).win = s.win ∧
    (adoptLive n s).cfg = s.cfg ∧
    (adoptLive n s).boot = s.boot ∧
    (adoptLive n s).otp = s.otp ∧
    (adoptLive n s).src = s.src ∧
    (adoptLive n s).paceFrac = s.paceFrac ∧
    (adoptLive n s).mains = s.mains ∧
    (adoptLive n s).stitch = s.stitch ∧
    (adoptLive n s).chan = s.chan ∧
    (adoptLive n s).supply = s.supply ∧
    (adoptLive n s).sto = s.sto ∧
    (adoptLive n s).spread = s.spread ∧
    (adoptLive n s).supv = s.supv ∧
    (adoptLive n s).fb = s.fb ∧
    (adoptLive n s).cnv = s.cnv ∧
    (adoptLive n s).pin = s.pin ∧
    (adoptLive n s).seam = s.seam ∧
    (adoptLive n s).flt = s.flt ∧
    (adoptLive n s).store = s.store ∧
    (adoptLive n s).bak = s.bak ∧
    (adoptLive n s).proof = s.proof := by
  unfold adoptLive; (try dsimp only); repeat' split
  all_goals (refine ⟨?_, ?_, ?_, ?_, ?_, ?_, ?_, ?_, ?_, ?_, ?_, ?_, ?_, ?_, ?_, ?_, ?_, ?_, ?_, ?_, ?_, ?_, ?_, ?_, ?_, ?_, ?_⟩ <;> simp)

/-! ### Trips -/

@[simp] theorem startTripAction_frame (n : Fin 8) (c : BitVec 10) (s : State) :
    (startTripAction n c s).pending = s.pending ∧
    (startTripAction n c s).now = s.now ∧
    (startTripAction n c s).free = s.free ∧
    (startTripAction n c s).power = s.power ∧
    (startTripAction n c s).host = s.host ∧
    (startTripAction n c s).lat = s.lat ∧
    (startTripAction n c s).win = s.win ∧
    (startTripAction n c s).cfg = s.cfg ∧
    (startTripAction n c s).boot = s.boot ∧
    (startTripAction n c s).otp = s.otp ∧
    (startTripAction n c s).src = s.src ∧
    (startTripAction n c s).paceFrac = s.paceFrac ∧
    (startTripAction n c s).mains = s.mains ∧
    (startTripAction n c s).stitch = s.stitch ∧
    (startTripAction n c s).chan = s.chan ∧
    (startTripAction n c s).supply = s.supply ∧
    (startTripAction n c s).sto = s.sto ∧
    (startTripAction n c s).spread = s.spread ∧
    (startTripAction n c s).supv = s.supv ∧
    (startTripAction n c s).fb = s.fb ∧
    (startTripAction n c s).cnv = s.cnv ∧
    (startTripAction n c s).pin = s.pin ∧
    (startTripAction n c s).seam = s.seam ∧
    (startTripAction n c s).flt = s.flt ∧
    (startTripAction n c s).bak = s.bak ∧
    (startTripAction n c s).proof = s.proof := by
  unfold startTripAction; (try dsimp only); repeat' split
  all_goals (refine ⟨?_, ?_, ?_, ?_, ?_, ?_, ?_, ?_, ?_, ?_, ?_, ?_, ?_, ?_, ?_, ?_, ?_, ?_, ?_, ?_, ?_, ?_, ?_, ?_, ?_, ?_⟩ <;> simp)

@[simp] theorem forceAllOff_frame (n : Fin 8) (s : State) :
    (forceAllOff n s).pending = s.pending ∧
    (forceAllOff n s).now = s.now ∧
    (forceAllOff n s).free = s.free ∧
    (forceAllOff n s).power = s.power ∧
    (forceAllOff n s).host = s.host ∧
    (forceAllOff n s).lat = s.lat ∧
    (forceAllOff n s).win = s.win ∧
    (forceAllOff n s).cfg = s.cfg ∧
    (forceAllOff n s).boot = s.boot ∧
    (forceAllOff n s).otp = s.otp ∧
    (forceAllOff n s).src = s.src ∧
    (forceAllOff n s).paceFrac = s.paceFrac ∧
    (forceAllOff n s).mains = s.mains ∧
    (forceAllOff n s).stitch = s.stitch ∧
    (forceAllOff n s).chan = s.chan ∧
    (forceAllOff n s).supply = s.supply ∧
    (forceAllOff n s).sto = s.sto ∧
    (forceAllOff n s).spread = s.spread ∧
    (forceAllOff n s).supv = s.supv ∧
    (forceAllOff n s).fb = s.fb ∧
    (forceAllOff n s).cnv = s.cnv ∧
    (forceAllOff n s).pin = s.pin ∧
    (forceAllOff n s).seam = s.seam ∧
    (forceAllOff n s).flt = s.flt ∧
    (forceAllOff n s).store = s.store ∧
    (forceAllOff n s).bak = s.bak ∧
    (forceAllOff n s).proof = s.proof := by
  unfold forceAllOff; (try dsimp only); repeat' split
  all_goals (refine ⟨?_, ?_, ?_, ?_, ?_, ?_, ?_, ?_, ?_, ?_, ?_, ?_, ?_, ?_, ?_, ?_, ?_, ?_, ?_, ?_, ?_, ?_, ?_, ?_, ?_, ?_, ?_⟩ <;> simp)

@[simp] theorem tripGroup_frame (new : Vector (BitVec 10) 8) (l : Fin 8) (s : State) :
    (tripGroup new l s).pending = s.pending ∧
    (tripGroup new l s).now = s.now ∧
    (tripGroup new l s).free = s.free ∧
    (tripGroup new l s).power = s.power ∧
    (tripGroup new l s).host = s.host ∧
    (tripGroup new l s).lat = s.lat ∧
    (tripGroup new l s).win = s.win ∧
    (tripGroup new l s).cfg = s.cfg ∧
    (tripGroup new l s).boot = s.boot ∧
    (tripGroup new l s).otp = s.otp ∧
    (tripGroup new l s).src = s.src ∧
    (tripGroup new l s).paceFrac = s.paceFrac ∧
    (tripGroup new l s).mains = s.mains ∧
    (tripGroup new l s).stitch = s.stitch ∧
    (tripGroup new l s).chan = s.chan ∧
    (tripGroup new l s).supply = s.supply ∧
    (tripGroup new l s).sto = s.sto ∧
    (tripGroup new l s).spread = s.spread ∧
    (tripGroup new l s).supv = s.supv ∧
    (tripGroup new l s).fb = s.fb ∧
    (tripGroup new l s).cnv = s.cnv ∧
    (tripGroup new l s).pin = s.pin ∧
    (tripGroup new l s).seam = s.seam ∧
    (tripGroup new l s).flt = s.flt ∧
    (tripGroup new l s).bak = s.bak ∧
    (tripGroup new l s).proof = s.proof := by
  unfold tripGroup; (try dsimp only); repeat' split
  all_goals simp [ite_pending, ite_now, ite_free, ite_power, ite_host, ite_lat, ite_win, ite_cfg, ite_boot, ite_otp, ite_src, ite_paceFrac, ite_mains, ite_stitch, ite_axes, ite_chan, ite_supply, ite_sto, ite_spread, ite_supv, ite_fb, ite_cnv, ite_pin, ite_seam, ite_flt, ite_store, ite_bak, ite_proof]

@[simp] theorem tripAll_frame (new : Vector (BitVec 10) 8) (s : State) :
    (tripAll new s).pending = s.pending ∧
    (tripAll new s).now = s.now ∧
    (tripAll new s).free = s.free ∧
    (tripAll new s).power = s.power ∧
    (tripAll new s).host = s.host ∧
    (tripAll new s).lat = s.lat ∧
    (tripAll new s).win = s.win ∧
    (tripAll new s).cfg = s.cfg ∧
    (tripAll new s).boot = s.boot ∧
    (tripAll new s).otp = s.otp ∧
    (tripAll new s).src = s.src ∧
    (tripAll new s).paceFrac = s.paceFrac ∧
    (tripAll new s).mains = s.mains ∧
    (tripAll new s).stitch = s.stitch ∧
    (tripAll new s).chan = s.chan ∧
    (tripAll new s).supply = s.supply ∧
    (tripAll new s).sto = s.sto ∧
    (tripAll new s).spread = s.spread ∧
    (tripAll new s).supv = s.supv ∧
    (tripAll new s).fb = s.fb ∧
    (tripAll new s).cnv = s.cnv ∧
    (tripAll new s).pin = s.pin ∧
    (tripAll new s).seam = s.seam ∧
    (tripAll new s).flt = s.flt ∧
    (tripAll new s).bak = s.bak ∧
    (tripAll new s).proof = s.proof := by
  unfold tripAll; (try dsimp only); repeat' split
  all_goals (refine ⟨?_, ?_, ?_, ?_, ?_, ?_, ?_, ?_, ?_, ?_, ?_, ?_, ?_, ?_, ?_, ?_, ?_, ?_, ?_, ?_, ?_, ?_, ?_, ?_, ?_, ?_⟩ <;> simp)

@[simp] theorem settleTrips_frame (old s : State) :
    (settleTrips old s).pending = s.pending ∧
    (settleTrips old s).now = s.now ∧
    (settleTrips old s).free = s.free ∧
    (settleTrips old s).power = s.power ∧
    (settleTrips old s).host = s.host ∧
    (settleTrips old s).lat = s.lat ∧
    (settleTrips old s).win = s.win ∧
    (settleTrips old s).cfg = s.cfg ∧
    (settleTrips old s).boot = s.boot ∧
    (settleTrips old s).otp = s.otp ∧
    (settleTrips old s).src = s.src ∧
    (settleTrips old s).paceFrac = s.paceFrac ∧
    (settleTrips old s).mains = s.mains ∧
    (settleTrips old s).stitch = s.stitch ∧
    (settleTrips old s).chan = s.chan ∧
    (settleTrips old s).supply = s.supply ∧
    (settleTrips old s).sto = s.sto ∧
    (settleTrips old s).spread = s.spread ∧
    (settleTrips old s).supv = s.supv ∧
    (settleTrips old s).fb = s.fb ∧
    (settleTrips old s).cnv = s.cnv ∧
    (settleTrips old s).pin = s.pin ∧
    (settleTrips old s).seam = s.seam ∧
    (settleTrips old s).flt = s.flt ∧
    (settleTrips old s).bak = s.bak ∧
    (settleTrips old s).proof = s.proof := by
  unfold settleTrips; (try dsimp only); repeat' split
  all_goals simp [ite_pending, ite_now, ite_free, ite_power, ite_host, ite_lat, ite_win, ite_cfg, ite_boot, ite_otp, ite_src, ite_paceFrac, ite_mains, ite_stitch, ite_axes, ite_chan, ite_supply, ite_sto, ite_spread, ite_supv, ite_fb, ite_cnv, ite_pin, ite_seam, ite_flt, ite_store, ite_bak, ite_proof]

@[simp] theorem withTrips_pending (f : State → State) (s : State) (h : (f s).pending = s.pending) :
    (withTrips f s).pending = s.pending := by
  simp [withTrips, h]

@[simp] theorem withTrips_now (f : State → State) (s : State) (h : (f s).now = s.now) :
    (withTrips f s).now = s.now := by
  simp [withTrips, h]

@[simp] theorem withTrips_free (f : State → State) (s : State) (h : (f s).free = s.free) :
    (withTrips f s).free = s.free := by
  simp [withTrips, h]

@[simp] theorem withTrips_power (f : State → State) (s : State) (h : (f s).power = s.power) :
    (withTrips f s).power = s.power := by
  simp [withTrips, h]

@[simp] theorem withTrips_host (f : State → State) (s : State) (h : (f s).host = s.host) :
    (withTrips f s).host = s.host := by
  simp [withTrips, h]

@[simp] theorem withTrips_lat (f : State → State) (s : State) (h : (f s).lat = s.lat) :
    (withTrips f s).lat = s.lat := by
  simp [withTrips, h]

@[simp] theorem withTrips_win (f : State → State) (s : State) (h : (f s).win = s.win) :
    (withTrips f s).win = s.win := by
  simp [withTrips, h]

@[simp] theorem withTrips_cfg (f : State → State) (s : State) (h : (f s).cfg = s.cfg) :
    (withTrips f s).cfg = s.cfg := by
  simp [withTrips, h]

@[simp] theorem withTrips_boot (f : State → State) (s : State) (h : (f s).boot = s.boot) :
    (withTrips f s).boot = s.boot := by
  simp [withTrips, h]

@[simp] theorem withTrips_otp (f : State → State) (s : State) (h : (f s).otp = s.otp) :
    (withTrips f s).otp = s.otp := by
  simp [withTrips, h]

@[simp] theorem withTrips_src (f : State → State) (s : State) (h : (f s).src = s.src) :
    (withTrips f s).src = s.src := by
  simp [withTrips, h]

@[simp] theorem withTrips_paceFrac (f : State → State) (s : State) (h : (f s).paceFrac = s.paceFrac) :
    (withTrips f s).paceFrac = s.paceFrac := by
  simp [withTrips, h]

@[simp] theorem withTrips_mains (f : State → State) (s : State) (h : (f s).mains = s.mains) :
    (withTrips f s).mains = s.mains := by
  simp [withTrips, h]

@[simp] theorem withTrips_stitch (f : State → State) (s : State) (h : (f s).stitch = s.stitch) :
    (withTrips f s).stitch = s.stitch := by
  simp [withTrips, h]

@[simp] theorem withTrips_chan (f : State → State) (s : State) (h : (f s).chan = s.chan) :
    (withTrips f s).chan = s.chan := by
  simp [withTrips, h]

@[simp] theorem withTrips_supply (f : State → State) (s : State) (h : (f s).supply = s.supply) :
    (withTrips f s).supply = s.supply := by
  simp [withTrips, h]

@[simp] theorem withTrips_sto (f : State → State) (s : State) (h : (f s).sto = s.sto) :
    (withTrips f s).sto = s.sto := by
  simp [withTrips, h]

@[simp] theorem withTrips_spread (f : State → State) (s : State) (h : (f s).spread = s.spread) :
    (withTrips f s).spread = s.spread := by
  simp [withTrips, h]

@[simp] theorem withTrips_supv (f : State → State) (s : State) (h : (f s).supv = s.supv) :
    (withTrips f s).supv = s.supv := by
  simp [withTrips, h]

@[simp] theorem withTrips_fb (f : State → State) (s : State) (h : (f s).fb = s.fb) :
    (withTrips f s).fb = s.fb := by
  simp [withTrips, h]

@[simp] theorem withTrips_cnv (f : State → State) (s : State) (h : (f s).cnv = s.cnv) :
    (withTrips f s).cnv = s.cnv := by
  simp [withTrips, h]

@[simp] theorem withTrips_pin (f : State → State) (s : State) (h : (f s).pin = s.pin) :
    (withTrips f s).pin = s.pin := by
  simp [withTrips, h]

@[simp] theorem withTrips_seam (f : State → State) (s : State) (h : (f s).seam = s.seam) :
    (withTrips f s).seam = s.seam := by
  simp [withTrips, h]

@[simp] theorem withTrips_flt (f : State → State) (s : State) (h : (f s).flt = s.flt) :
    (withTrips f s).flt = s.flt := by
  simp [withTrips, h]

@[simp] theorem withTrips_bak (f : State → State) (s : State) (h : (f s).bak = s.bak) :
    (withTrips f s).bak = s.bak := by
  simp [withTrips, h]

@[simp] theorem withTrips_proof (f : State → State) (s : State) (h : (f s).proof = s.proof) :
    (withTrips f s).proof = s.proof := by
  simp [withTrips, h]

@[simp] theorem noteExternal_frame (s : State) :
    (noteExternal s).pending = s.pending ∧
    (noteExternal s).now = s.now ∧
    (noteExternal s).free = s.free ∧
    (noteExternal s).power = s.power ∧
    (noteExternal s).host = s.host ∧
    (noteExternal s).lat = s.lat ∧
    (noteExternal s).win = s.win ∧
    (noteExternal s).cfg = s.cfg ∧
    (noteExternal s).boot = s.boot ∧
    (noteExternal s).otp = s.otp ∧
    (noteExternal s).src = s.src ∧
    (noteExternal s).paceFrac = s.paceFrac ∧
    (noteExternal s).mains = s.mains ∧
    (noteExternal s).stitch = s.stitch ∧
    (noteExternal s).chan = s.chan ∧
    (noteExternal s).supply = s.supply ∧
    (noteExternal s).sto = s.sto ∧
    (noteExternal s).spread = s.spread ∧
    (noteExternal s).supv = s.supv ∧
    (noteExternal s).fb = s.fb ∧
    (noteExternal s).cnv = s.cnv ∧
    (noteExternal s).pin = s.pin ∧
    (noteExternal s).seam = s.seam ∧
    (noteExternal s).flt = s.flt ∧
    (noteExternal s).store = s.store ∧
    (noteExternal s).bak = s.bak ∧
    (noteExternal s).proof = s.proof := by
  unfold noteExternal; (try dsimp only); repeat' split
  all_goals simp [ite_pending, ite_now, ite_free, ite_power, ite_host, ite_lat, ite_win, ite_cfg, ite_boot, ite_otp, ite_src, ite_paceFrac, ite_mains, ite_stitch, ite_axes, ite_chan, ite_supply, ite_sto, ite_spread, ite_supv, ite_fb, ite_cnv, ite_pin, ite_seam, ite_flt, ite_store, ite_bak, ite_proof]

@[simp] theorem rewatch_frame (n : Fin 8) (s : State) :
    (rewatch n s).pending = s.pending ∧
    (rewatch n s).now = s.now ∧
    (rewatch n s).free = s.free ∧
    (rewatch n s).power = s.power ∧
    (rewatch n s).host = s.host ∧
    (rewatch n s).lat = s.lat ∧
    (rewatch n s).win = s.win ∧
    (rewatch n s).cfg = s.cfg ∧
    (rewatch n s).boot = s.boot ∧
    (rewatch n s).otp = s.otp ∧
    (rewatch n s).src = s.src ∧
    (rewatch n s).paceFrac = s.paceFrac ∧
    (rewatch n s).mains = s.mains ∧
    (rewatch n s).stitch = s.stitch ∧
    (rewatch n s).chan = s.chan ∧
    (rewatch n s).supply = s.supply ∧
    (rewatch n s).sto = s.sto ∧
    (rewatch n s).spread = s.spread ∧
    (rewatch n s).supv = s.supv ∧
    (rewatch n s).fb = s.fb ∧
    (rewatch n s).cnv = s.cnv ∧
    (rewatch n s).pin = s.pin ∧
    (rewatch n s).seam = s.seam ∧
    (rewatch n s).flt = s.flt ∧
    (rewatch n s).bak = s.bak ∧
    (rewatch n s).proof = s.proof := by
  unfold rewatch; (try dsimp only); repeat' split
  all_goals (refine ⟨?_, ?_, ?_, ?_, ?_, ?_, ?_, ?_, ?_, ?_, ?_, ?_, ?_, ?_, ?_, ?_, ?_, ?_, ?_, ?_, ?_, ?_, ?_, ?_, ?_, ?_⟩ <;> simp)

@[simp] theorem rewatchFreed_frame (old s : State) :
    (rewatchFreed old s).pending = s.pending ∧
    (rewatchFreed old s).now = s.now ∧
    (rewatchFreed old s).free = s.free ∧
    (rewatchFreed old s).power = s.power ∧
    (rewatchFreed old s).host = s.host ∧
    (rewatchFreed old s).lat = s.lat ∧
    (rewatchFreed old s).win = s.win ∧
    (rewatchFreed old s).cfg = s.cfg ∧
    (rewatchFreed old s).boot = s.boot ∧
    (rewatchFreed old s).otp = s.otp ∧
    (rewatchFreed old s).src = s.src ∧
    (rewatchFreed old s).paceFrac = s.paceFrac ∧
    (rewatchFreed old s).mains = s.mains ∧
    (rewatchFreed old s).stitch = s.stitch ∧
    (rewatchFreed old s).chan = s.chan ∧
    (rewatchFreed old s).supply = s.supply ∧
    (rewatchFreed old s).sto = s.sto ∧
    (rewatchFreed old s).spread = s.spread ∧
    (rewatchFreed old s).supv = s.supv ∧
    (rewatchFreed old s).fb = s.fb ∧
    (rewatchFreed old s).cnv = s.cnv ∧
    (rewatchFreed old s).pin = s.pin ∧
    (rewatchFreed old s).seam = s.seam ∧
    (rewatchFreed old s).flt = s.flt ∧
    (rewatchFreed old s).bak = s.bak ∧
    (rewatchFreed old s).proof = s.proof := by
  unfold rewatchFreed; (try dsimp only); repeat' split
  all_goals (refine ⟨?_, ?_, ?_, ?_, ?_, ?_, ?_, ?_, ?_, ?_, ?_, ?_, ?_, ?_, ?_, ?_, ?_, ?_, ?_, ?_, ?_, ?_, ?_, ?_, ?_, ?_⟩ <;> simp)

@[simp] theorem tripInternal_frame (n : Fin 8) (s : State) :
    (tripInternal n s).pending = s.pending ∧
    (tripInternal n s).now = s.now ∧
    (tripInternal n s).free = s.free ∧
    (tripInternal n s).power = s.power ∧
    (tripInternal n s).host = s.host ∧
    (tripInternal n s).lat = s.lat ∧
    (tripInternal n s).win = s.win ∧
    (tripInternal n s).cfg = s.cfg ∧
    (tripInternal n s).boot = s.boot ∧
    (tripInternal n s).otp = s.otp ∧
    (tripInternal n s).src = s.src ∧
    (tripInternal n s).paceFrac = s.paceFrac ∧
    (tripInternal n s).mains = s.mains ∧
    (tripInternal n s).stitch = s.stitch ∧
    (tripInternal n s).chan = s.chan ∧
    (tripInternal n s).supply = s.supply ∧
    (tripInternal n s).sto = s.sto ∧
    (tripInternal n s).spread = s.spread ∧
    (tripInternal n s).supv = s.supv ∧
    (tripInternal n s).fb = s.fb ∧
    (tripInternal n s).cnv = s.cnv ∧
    (tripInternal n s).pin = s.pin ∧
    (tripInternal n s).seam = s.seam ∧
    (tripInternal n s).flt = s.flt ∧
    (tripInternal n s).bak = s.bak ∧
    (tripInternal n s).proof = s.proof := by
  unfold tripInternal; (try dsimp only); repeat' split
  all_goals (refine ⟨?_, ?_, ?_, ?_, ?_, ?_, ?_, ?_, ?_, ?_, ?_, ?_, ?_, ?_, ?_, ?_, ?_, ?_, ?_, ?_, ?_, ?_, ?_, ?_, ?_, ?_⟩ <;> simp)

@[simp] theorem finishClear_frame (l : Fin 8) (s : State) :
    (finishClear l s).pending = s.pending ∧
    (finishClear l s).now = s.now ∧
    (finishClear l s).free = s.free ∧
    (finishClear l s).power = s.power ∧
    (finishClear l s).host = s.host ∧
    (finishClear l s).lat = s.lat ∧
    (finishClear l s).win = s.win ∧
    (finishClear l s).cfg = s.cfg ∧
    (finishClear l s).boot = s.boot ∧
    (finishClear l s).otp = s.otp ∧
    (finishClear l s).src = s.src ∧
    (finishClear l s).paceFrac = s.paceFrac ∧
    (finishClear l s).mains = s.mains ∧
    (finishClear l s).stitch = s.stitch ∧
    (finishClear l s).chan = s.chan ∧
    (finishClear l s).supply = s.supply ∧
    (finishClear l s).sto = s.sto ∧
    (finishClear l s).spread = s.spread ∧
    (finishClear l s).supv = s.supv ∧
    (finishClear l s).fb = s.fb ∧
    (finishClear l s).cnv = s.cnv ∧
    (finishClear l s).pin = s.pin ∧
    (finishClear l s).seam = s.seam ∧
    (finishClear l s).flt = s.flt ∧
    (finishClear l s).store = s.store ∧
    (finishClear l s).bak = s.bak ∧
    (finishClear l s).proof = s.proof := by
  unfold finishClear; (try dsimp only); repeat' split
  all_goals (refine ⟨?_, ?_, ?_, ?_, ?_, ?_, ?_, ?_, ?_, ?_, ?_, ?_, ?_, ?_, ?_, ?_, ?_, ?_, ?_, ?_, ?_, ?_, ?_, ?_, ?_, ?_, ?_⟩ <;> simp)

@[simp] theorem clearTrip_frame (n : Fin 8) (data : Word) (s : State) :
    (clearTrip n data s).pending = s.pending ∧
    (clearTrip n data s).now = s.now ∧
    (clearTrip n data s).free = s.free ∧
    (clearTrip n data s).power = s.power ∧
    (clearTrip n data s).host = s.host ∧
    (clearTrip n data s).lat = s.lat ∧
    (clearTrip n data s).win = s.win ∧
    (clearTrip n data s).cfg = s.cfg ∧
    (clearTrip n data s).boot = s.boot ∧
    (clearTrip n data s).otp = s.otp ∧
    (clearTrip n data s).src = s.src ∧
    (clearTrip n data s).paceFrac = s.paceFrac ∧
    (clearTrip n data s).mains = s.mains ∧
    (clearTrip n data s).stitch = s.stitch ∧
    (clearTrip n data s).chan = s.chan ∧
    (clearTrip n data s).supply = s.supply ∧
    (clearTrip n data s).sto = s.sto ∧
    (clearTrip n data s).spread = s.spread ∧
    (clearTrip n data s).supv = s.supv ∧
    (clearTrip n data s).fb = s.fb ∧
    (clearTrip n data s).cnv = s.cnv ∧
    (clearTrip n data s).pin = s.pin ∧
    (clearTrip n data s).seam = s.seam ∧
    (clearTrip n data s).flt = s.flt ∧
    (clearTrip n data s).store = s.store ∧
    (clearTrip n data s).bak = s.bak ∧
    (clearTrip n data s).proof = s.proof := by
  unfold clearTrip; (try dsimp only); repeat' split
  all_goals (refine ⟨?_, ?_, ?_, ?_, ?_, ?_, ?_, ?_, ?_, ?_, ?_, ?_, ?_, ?_, ?_, ?_, ?_, ?_, ?_, ?_, ?_, ?_, ?_, ?_, ?_, ?_, ?_⟩ <;> simp)

@[simp] theorem raiseOn_frame (n : Fin 8) (code : Word) (u : TestUnit) (meas : Word) (s : State) :
    (raiseOn n code u meas s).pending = s.pending ∧
    (raiseOn n code u meas s).now = s.now ∧
    (raiseOn n code u meas s).free = s.free ∧
    (raiseOn n code u meas s).power = s.power ∧
    (raiseOn n code u meas s).host = s.host ∧
    (raiseOn n code u meas s).lat = s.lat ∧
    (raiseOn n code u meas s).win = s.win ∧
    (raiseOn n code u meas s).cfg = s.cfg ∧
    (raiseOn n code u meas s).boot = s.boot ∧
    (raiseOn n code u meas s).otp = s.otp ∧
    (raiseOn n code u meas s).src = s.src ∧
    (raiseOn n code u meas s).paceFrac = s.paceFrac ∧
    (raiseOn n code u meas s).mains = s.mains ∧
    (raiseOn n code u meas s).stitch = s.stitch ∧
    (raiseOn n code u meas s).axes = s.axes ∧
    (raiseOn n code u meas s).chan = s.chan ∧
    (raiseOn n code u meas s).supply = s.supply ∧
    (raiseOn n code u meas s).sto = s.sto ∧
    (raiseOn n code u meas s).spread = s.spread ∧
    (raiseOn n code u meas s).supv = s.supv ∧
    (raiseOn n code u meas s).pin = s.pin ∧
    (raiseOn n code u meas s).seam = s.seam ∧
    (raiseOn n code u meas s).store = s.store ∧
    (raiseOn n code u meas s).bak = s.bak ∧
    (raiseOn n code u meas s).proof = s.proof := by
  unfold raiseOn; (try dsimp only); repeat' split
  all_goals (refine ⟨?_, ?_, ?_, ?_, ?_, ?_, ?_, ?_, ?_, ?_, ?_, ?_, ?_, ?_, ?_, ?_, ?_, ?_, ?_, ?_, ?_, ?_, ?_, ?_, ?_⟩ <;> simp)

@[simp] theorem desatDetect_frame (k : Fin 48) (s : State) :
    (desatDetect k s).pending = s.pending ∧
    (desatDetect k s).now = s.now ∧
    (desatDetect k s).free = s.free ∧
    (desatDetect k s).power = s.power ∧
    (desatDetect k s).host = s.host ∧
    (desatDetect k s).lat = s.lat ∧
    (desatDetect k s).win = s.win ∧
    (desatDetect k s).cfg = s.cfg ∧
    (desatDetect k s).boot = s.boot ∧
    (desatDetect k s).otp = s.otp ∧
    (desatDetect k s).src = s.src ∧
    (desatDetect k s).paceFrac = s.paceFrac ∧
    (desatDetect k s).mains = s.mains ∧
    (desatDetect k s).stitch = s.stitch ∧
    (desatDetect k s).supply = s.supply ∧
    (desatDetect k s).sto = s.sto ∧
    (desatDetect k s).spread = s.spread ∧
    (desatDetect k s).supv = s.supv ∧
    (desatDetect k s).pin = s.pin ∧
    (desatDetect k s).seam = s.seam ∧
    (desatDetect k s).bak = s.bak ∧
    (desatDetect k s).proof = s.proof := by
  unfold desatDetect; (try dsimp only); repeat' split
  all_goals (refine ⟨?_, ?_, ?_, ?_, ?_, ?_, ?_, ?_, ?_, ?_, ?_, ?_, ?_, ?_, ?_, ?_, ?_, ?_, ?_, ?_, ?_, ?_⟩ <;> simp)

@[simp] theorem raiseOrBoot_frame (n : Fin 8) (code : Word) (u : TestUnit) (s : State) :
    (raiseOrBoot n code u s).pending = s.pending ∧
    (raiseOrBoot n code u s).now = s.now ∧
    (raiseOrBoot n code u s).free = s.free ∧
    (raiseOrBoot n code u s).power = s.power ∧
    (raiseOrBoot n code u s).host = s.host ∧
    (raiseOrBoot n code u s).lat = s.lat ∧
    (raiseOrBoot n code u s).win = s.win ∧
    (raiseOrBoot n code u s).cfg = s.cfg ∧
    (raiseOrBoot n code u s).boot = s.boot ∧
    (raiseOrBoot n code u s).otp = s.otp ∧
    (raiseOrBoot n code u s).src = s.src ∧
    (raiseOrBoot n code u s).paceFrac = s.paceFrac ∧
    (raiseOrBoot n code u s).mains = s.mains ∧
    (raiseOrBoot n code u s).stitch = s.stitch ∧
    (raiseOrBoot n code u s).axes = s.axes ∧
    (raiseOrBoot n code u s).chan = s.chan ∧
    (raiseOrBoot n code u s).supply = s.supply ∧
    (raiseOrBoot n code u s).sto = s.sto ∧
    (raiseOrBoot n code u s).spread = s.spread ∧
    (raiseOrBoot n code u s).supv = s.supv ∧
    (raiseOrBoot n code u s).pin = s.pin ∧
    (raiseOrBoot n code u s).seam = s.seam ∧
    (raiseOrBoot n code u s).store = s.store ∧
    (raiseOrBoot n code u s).bak = s.bak ∧
    (raiseOrBoot n code u s).proof = s.proof := by
  unfold raiseOrBoot; (try dsimp only); repeat' split
  all_goals (refine ⟨?_, ?_, ?_, ?_, ?_, ?_, ?_, ?_, ?_, ?_, ?_, ?_, ?_, ?_, ?_, ?_, ?_, ?_, ?_, ?_, ?_, ?_, ?_, ?_, ?_⟩ <;> simp)

@[simp] theorem supplyUndervoltage_frame (p : Fin 32) (offRail : Bool) (s : State) :
    (supplyUndervoltage p offRail s).pending = s.pending ∧
    (supplyUndervoltage p offRail s).now = s.now ∧
    (supplyUndervoltage p offRail s).free = s.free ∧
    (supplyUndervoltage p offRail s).power = s.power ∧
    (supplyUndervoltage p offRail s).host = s.host ∧
    (supplyUndervoltage p offRail s).lat = s.lat ∧
    (supplyUndervoltage p offRail s).win = s.win ∧
    (supplyUndervoltage p offRail s).cfg = s.cfg ∧
    (supplyUndervoltage p offRail s).boot = s.boot ∧
    (supplyUndervoltage p offRail s).otp = s.otp ∧
    (supplyUndervoltage p offRail s).src = s.src ∧
    (supplyUndervoltage p offRail s).paceFrac = s.paceFrac ∧
    (supplyUndervoltage p offRail s).mains = s.mains ∧
    (supplyUndervoltage p offRail s).stitch = s.stitch ∧
    (supplyUndervoltage p offRail s).chan = s.chan ∧
    (supplyUndervoltage p offRail s).sto = s.sto ∧
    (supplyUndervoltage p offRail s).spread = s.spread ∧
    (supplyUndervoltage p offRail s).supv = s.supv ∧
    (supplyUndervoltage p offRail s).pin = s.pin ∧
    (supplyUndervoltage p offRail s).seam = s.seam ∧
    (supplyUndervoltage p offRail s).bak = s.bak ∧
    (supplyUndervoltage p offRail s).proof = s.proof := by
  unfold supplyUndervoltage; (try dsimp only); repeat' split
  all_goals (refine ⟨?_, ?_, ?_, ?_, ?_, ?_, ?_, ?_, ?_, ?_, ?_, ?_, ?_, ?_, ?_, ?_, ?_, ?_, ?_, ?_, ?_, ?_⟩ <;> simp)

@[simp] theorem gateVoltageFault_frame (k : Fin 48) (v : Word) (s : State) :
    (gateVoltageFault k v s).pending = s.pending ∧
    (gateVoltageFault k v s).now = s.now ∧
    (gateVoltageFault k v s).free = s.free ∧
    (gateVoltageFault k v s).power = s.power ∧
    (gateVoltageFault k v s).host = s.host ∧
    (gateVoltageFault k v s).lat = s.lat ∧
    (gateVoltageFault k v s).win = s.win ∧
    (gateVoltageFault k v s).cfg = s.cfg ∧
    (gateVoltageFault k v s).boot = s.boot ∧
    (gateVoltageFault k v s).otp = s.otp ∧
    (gateVoltageFault k v s).src = s.src ∧
    (gateVoltageFault k v s).paceFrac = s.paceFrac ∧
    (gateVoltageFault k v s).mains = s.mains ∧
    (gateVoltageFault k v s).stitch = s.stitch ∧
    (gateVoltageFault k v s).supply = s.supply ∧
    (gateVoltageFault k v s).sto = s.sto ∧
    (gateVoltageFault k v s).spread = s.spread ∧
    (gateVoltageFault k v s).supv = s.supv ∧
    (gateVoltageFault k v s).pin = s.pin ∧
    (gateVoltageFault k v s).seam = s.seam ∧
    (gateVoltageFault k v s).bak = s.bak ∧
    (gateVoltageFault k v s).proof = s.proof := by
  unfold gateVoltageFault; (try dsimp only); repeat' split
  all_goals (refine ⟨?_, ?_, ?_, ?_, ?_, ?_, ?_, ?_, ?_, ?_, ?_, ?_, ?_, ?_, ?_, ?_, ?_, ?_, ?_, ?_, ?_, ?_⟩ <;> simp)

@[simp] theorem channelTemperature_frame (k : Fin 48) (v : Word) (s : State) :
    (channelTemperature k v s).pending = s.pending ∧
    (channelTemperature k v s).now = s.now ∧
    (channelTemperature k v s).free = s.free ∧
    (channelTemperature k v s).power = s.power ∧
    (channelTemperature k v s).host = s.host ∧
    (channelTemperature k v s).lat = s.lat ∧
    (channelTemperature k v s).win = s.win ∧
    (channelTemperature k v s).cfg = s.cfg ∧
    (channelTemperature k v s).boot = s.boot ∧
    (channelTemperature k v s).otp = s.otp ∧
    (channelTemperature k v s).src = s.src ∧
    (channelTemperature k v s).paceFrac = s.paceFrac ∧
    (channelTemperature k v s).mains = s.mains ∧
    (channelTemperature k v s).stitch = s.stitch ∧
    (channelTemperature k v s).supply = s.supply ∧
    (channelTemperature k v s).sto = s.sto ∧
    (channelTemperature k v s).spread = s.spread ∧
    (channelTemperature k v s).supv = s.supv ∧
    (channelTemperature k v s).pin = s.pin ∧
    (channelTemperature k v s).seam = s.seam ∧
    (channelTemperature k v s).bak = s.bak ∧
    (channelTemperature k v s).proof = s.proof := by
  unfold channelTemperature; (try dsimp only); repeat' split
  all_goals (refine ⟨?_, ?_, ?_, ?_, ?_, ?_, ?_, ?_, ?_, ?_, ?_, ?_, ?_, ?_, ?_, ?_, ?_, ?_, ?_, ?_, ?_, ?_⟩ <;> simp)

@[simp] theorem externalTrip_frame (k : Fin 4) (s : State) :
    (externalTrip k s).pending = s.pending ∧
    (externalTrip k s).now = s.now ∧
    (externalTrip k s).free = s.free ∧
    (externalTrip k s).power = s.power ∧
    (externalTrip k s).host = s.host ∧
    (externalTrip k s).lat = s.lat ∧
    (externalTrip k s).win = s.win ∧
    (externalTrip k s).cfg = s.cfg ∧
    (externalTrip k s).boot = s.boot ∧
    (externalTrip k s).otp = s.otp ∧
    (externalTrip k s).src = s.src ∧
    (externalTrip k s).paceFrac = s.paceFrac ∧
    (externalTrip k s).mains = s.mains ∧
    (externalTrip k s).stitch = s.stitch ∧
    (externalTrip k s).chan = s.chan ∧
    (externalTrip k s).supply = s.supply ∧
    (externalTrip k s).sto = s.sto ∧
    (externalTrip k s).spread = s.spread ∧
    (externalTrip k s).supv = s.supv ∧
    (externalTrip k s).fb = s.fb ∧
    (externalTrip k s).cnv = s.cnv ∧
    (externalTrip k s).seam = s.seam ∧
    (externalTrip k s).flt = s.flt ∧
    (externalTrip k s).bak = s.bak ∧
    (externalTrip k s).proof = s.proof := by
  unfold externalTrip; (try dsimp only); repeat' split
  all_goals (refine ⟨?_, ?_, ?_, ?_, ?_, ?_, ?_, ?_, ?_, ?_, ?_, ?_, ?_, ?_, ?_, ?_, ?_, ?_, ?_, ?_, ?_, ?_, ?_, ?_, ?_⟩ <;> simp)

@[simp] theorem tripSourceQuiet_frame (n : Fin 8) (s : State) :
    (tripSourceQuiet n s).pending = s.pending ∧
    (tripSourceQuiet n s).now = s.now ∧
    (tripSourceQuiet n s).free = s.free ∧
    (tripSourceQuiet n s).power = s.power ∧
    (tripSourceQuiet n s).host = s.host ∧
    (tripSourceQuiet n s).lat = s.lat ∧
    (tripSourceQuiet n s).win = s.win ∧
    (tripSourceQuiet n s).cfg = s.cfg ∧
    (tripSourceQuiet n s).boot = s.boot ∧
    (tripSourceQuiet n s).otp = s.otp ∧
    (tripSourceQuiet n s).src = s.src ∧
    (tripSourceQuiet n s).paceFrac = s.paceFrac ∧
    (tripSourceQuiet n s).mains = s.mains ∧
    (tripSourceQuiet n s).stitch = s.stitch ∧
    (tripSourceQuiet n s).chan = s.chan ∧
    (tripSourceQuiet n s).supply = s.supply ∧
    (tripSourceQuiet n s).sto = s.sto ∧
    (tripSourceQuiet n s).spread = s.spread ∧
    (tripSourceQuiet n s).supv = s.supv ∧
    (tripSourceQuiet n s).fb = s.fb ∧
    (tripSourceQuiet n s).cnv = s.cnv ∧
    (tripSourceQuiet n s).pin = s.pin ∧
    (tripSourceQuiet n s).seam = s.seam ∧
    (tripSourceQuiet n s).flt = s.flt ∧
    (tripSourceQuiet n s).store = s.store ∧
    (tripSourceQuiet n s).bak = s.bak ∧
    (tripSourceQuiet n s).proof = s.proof := by
  unfold tripSourceQuiet; (try dsimp only); repeat' split
  all_goals (refine ⟨?_, ?_, ?_, ?_, ?_, ?_, ?_, ?_, ?_, ?_, ?_, ?_, ?_, ?_, ?_, ?_, ?_, ?_, ?_, ?_, ?_, ?_, ?_, ?_, ?_, ?_, ?_⟩ <;> simp)

@[simp] theorem modSto_frame (f : Sto → Sto) (s : State) :
    (modSto f s).pending = s.pending ∧
    (modSto f s).now = s.now ∧
    (modSto f s).free = s.free ∧
    (modSto f s).power = s.power ∧
    (modSto f s).host = s.host ∧
    (modSto f s).lat = s.lat ∧
    (modSto f s).win = s.win ∧
    (modSto f s).cfg = s.cfg ∧
    (modSto f s).boot = s.boot ∧
    (modSto f s).otp = s.otp ∧
    (modSto f s).src = s.src ∧
    (modSto f s).paceFrac = s.paceFrac ∧
    (modSto f s).mains = s.mains ∧
    (modSto f s).stitch = s.stitch ∧
    (modSto f s).chan = s.chan ∧
    (modSto f s).supply = s.supply ∧
    (modSto f s).spread = s.spread ∧
    (modSto f s).supv = s.supv ∧
    (modSto f s).fb = s.fb ∧
    (modSto f s).cnv = s.cnv ∧
    (modSto f s).pin = s.pin ∧
    (modSto f s).seam = s.seam ∧
    (modSto f s).flt = s.flt ∧
    (modSto f s).bak = s.bak ∧
    (modSto f s).proof = s.proof := by
  unfold modSto; (try dsimp only); repeat' split
  all_goals (refine ⟨?_, ?_, ?_, ?_, ?_, ?_, ?_, ?_, ?_, ?_, ?_, ?_, ?_, ?_, ?_, ?_, ?_, ?_, ?_, ?_, ?_, ?_, ?_, ?_, ?_⟩ <;> simp)

@[simp] theorem stoInputChange_frame (which : Fin 2) (high : Bool) (s : State) :
    (stoInputChange which high s).pending = s.pending ∧
    (stoInputChange which high s).now = s.now ∧
    (stoInputChange which high s).free = s.free ∧
    (stoInputChange which high s).power = s.power ∧
    (stoInputChange which high s).host = s.host ∧
    (stoInputChange which high s).lat = s.lat ∧
    (stoInputChange which high s).win = s.win ∧
    (stoInputChange which high s).cfg = s.cfg ∧
    (stoInputChange which high s).boot = s.boot ∧
    (stoInputChange which high s).otp = s.otp ∧
    (stoInputChange which high s).src = s.src ∧
    (stoInputChange which high s).paceFrac = s.paceFrac ∧
    (stoInputChange which high s).mains = s.mains ∧
    (stoInputChange which high s).stitch = s.stitch ∧
    (stoInputChange which high s).chan = s.chan ∧
    (stoInputChange which high s).supply = s.supply ∧
    (stoInputChange which high s).spread = s.spread ∧
    (stoInputChange which high s).supv = s.supv ∧
    (stoInputChange which high s).fb = s.fb ∧
    (stoInputChange which high s).cnv = s.cnv ∧
    (stoInputChange which high s).pin = s.pin ∧
    (stoInputChange which high s).seam = s.seam ∧
    (stoInputChange which high s).flt = s.flt ∧
    (stoInputChange which high s).bak = s.bak ∧
    (stoInputChange which high s).proof = s.proof := by
  unfold stoInputChange; (try dsimp only); repeat' split
  all_goals (refine ⟨?_, ?_, ?_, ?_, ?_, ?_, ?_, ?_, ?_, ?_, ?_, ?_, ?_, ?_, ?_, ?_, ?_, ?_, ?_, ?_, ?_, ?_, ?_, ?_, ?_⟩ <;> simp)

@[simp] theorem stoDemand_frame (s : State) :
    (stoDemand s).pending = s.pending ∧
    (stoDemand s).now = s.now ∧
    (stoDemand s).free = s.free ∧
    (stoDemand s).power = s.power ∧
    (stoDemand s).host = s.host ∧
    (stoDemand s).lat = s.lat ∧
    (stoDemand s).win = s.win ∧
    (stoDemand s).cfg = s.cfg ∧
    (stoDemand s).boot = s.boot ∧
    (stoDemand s).otp = s.otp ∧
    (stoDemand s).src = s.src ∧
    (stoDemand s).paceFrac = s.paceFrac ∧
    (stoDemand s).mains = s.mains ∧
    (stoDemand s).stitch = s.stitch ∧
    (stoDemand s).chan = s.chan ∧
    (stoDemand s).supply = s.supply ∧
    (stoDemand s).spread = s.spread ∧
    (stoDemand s).supv = s.supv ∧
    (stoDemand s).fb = s.fb ∧
    (stoDemand s).cnv = s.cnv ∧
    (stoDemand s).pin = s.pin ∧
    (stoDemand s).seam = s.seam ∧
    (stoDemand s).flt = s.flt ∧
    (stoDemand s).bak = s.bak ∧
    (stoDemand s).proof = s.proof := by
  unfold stoDemand; (try dsimp only); repeat' split
  all_goals (refine ⟨?_, ?_, ?_, ?_, ?_, ?_, ?_, ?_, ?_, ?_, ?_, ?_, ?_, ?_, ?_, ?_, ?_, ?_, ?_, ?_, ?_, ?_, ?_, ?_, ?_⟩ <;> simp)

@[simp] theorem stoSingleTimeout_frame (which : Fin 2) (s : State) :
    (stoSingleTimeout which s).pending = s.pending ∧
    (stoSingleTimeout which s).now = s.now ∧
    (stoSingleTimeout which s).free = s.free ∧
    (stoSingleTimeout which s).power = s.power ∧
    (stoSingleTimeout which s).host = s.host ∧
    (stoSingleTimeout which s).lat = s.lat ∧
    (stoSingleTimeout which s).win = s.win ∧
    (stoSingleTimeout which s).cfg = s.cfg ∧
    (stoSingleTimeout which s).boot = s.boot ∧
    (stoSingleTimeout which s).otp = s.otp ∧
    (stoSingleTimeout which s).src = s.src ∧
    (stoSingleTimeout which s).paceFrac = s.paceFrac ∧
    (stoSingleTimeout which s).mains = s.mains ∧
    (stoSingleTimeout which s).stitch = s.stitch ∧
    (stoSingleTimeout which s).chan = s.chan ∧
    (stoSingleTimeout which s).supply = s.supply ∧
    (stoSingleTimeout which s).spread = s.spread ∧
    (stoSingleTimeout which s).supv = s.supv ∧
    (stoSingleTimeout which s).fb = s.fb ∧
    (stoSingleTimeout which s).cnv = s.cnv ∧
    (stoSingleTimeout which s).pin = s.pin ∧
    (stoSingleTimeout which s).seam = s.seam ∧
    (stoSingleTimeout which s).flt = s.flt ∧
    (stoSingleTimeout which s).bak = s.bak ∧
    (stoSingleTimeout which s).proof = s.proof := by
  unfold stoSingleTimeout; (try dsimp only); repeat' split
  all_goals (refine ⟨?_, ?_, ?_, ?_, ?_, ?_, ?_, ?_, ?_, ?_, ?_, ?_, ?_, ?_, ?_, ?_, ?_, ?_, ?_, ?_, ?_, ?_, ?_, ?_, ?_⟩ <;> simp)

@[simp] theorem stoDiscrepancy_frame (which : Fin 2) (s : State) :
    (stoDiscrepancy which s).pending = s.pending ∧
    (stoDiscrepancy which s).now = s.now ∧
    (stoDiscrepancy which s).free = s.free ∧
    (stoDiscrepancy which s).power = s.power ∧
    (stoDiscrepancy which s).host = s.host ∧
    (stoDiscrepancy which s).lat = s.lat ∧
    (stoDiscrepancy which s).win = s.win ∧
    (stoDiscrepancy which s).cfg = s.cfg ∧
    (stoDiscrepancy which s).boot = s.boot ∧
    (stoDiscrepancy which s).otp = s.otp ∧
    (stoDiscrepancy which s).src = s.src ∧
    (stoDiscrepancy which s).paceFrac = s.paceFrac ∧
    (stoDiscrepancy which s).mains = s.mains ∧
    (stoDiscrepancy which s).stitch = s.stitch ∧
    (stoDiscrepancy which s).chan = s.chan ∧
    (stoDiscrepancy which s).supply = s.supply ∧
    (stoDiscrepancy which s).spread = s.spread ∧
    (stoDiscrepancy which s).supv = s.supv ∧
    (stoDiscrepancy which s).pin = s.pin ∧
    (stoDiscrepancy which s).seam = s.seam ∧
    (stoDiscrepancy which s).bak = s.bak ∧
    (stoDiscrepancy which s).proof = s.proof := by
  unfold stoDiscrepancy; (try dsimp only); repeat' split
  all_goals (refine ⟨?_, ?_, ?_, ?_, ?_, ?_, ?_, ?_, ?_, ?_, ?_, ?_, ?_, ?_, ?_, ?_, ?_, ?_, ?_, ?_, ?_, ?_⟩ <;> simp)

/-! ### Drive -/

@[simp] theorem bemfSectorEnd_frame (n : Fin 8) (sec : Nat) (s : State) :
    (bemfSectorEnd n sec s).pending = s.pending ∧
    (bemfSectorEnd n sec s).now = s.now ∧
    (bemfSectorEnd n sec s).free = s.free ∧
    (bemfSectorEnd n sec s).power = s.power ∧
    (bemfSectorEnd n sec s).host = s.host ∧
    (bemfSectorEnd n sec s).lat = s.lat ∧
    (bemfSectorEnd n sec s).win = s.win ∧
    (bemfSectorEnd n sec s).cfg = s.cfg ∧
    (bemfSectorEnd n sec s).boot = s.boot ∧
    (bemfSectorEnd n sec s).otp = s.otp ∧
    (bemfSectorEnd n sec s).src = s.src ∧
    (bemfSectorEnd n sec s).paceFrac = s.paceFrac ∧
    (bemfSectorEnd n sec s).mains = s.mains ∧
    (bemfSectorEnd n sec s).stitch = s.stitch ∧
    (bemfSectorEnd n sec s).chan = s.chan ∧
    (bemfSectorEnd n sec s).supply = s.supply ∧
    (bemfSectorEnd n sec s).sto = s.sto ∧
    (bemfSectorEnd n sec s).spread = s.spread ∧
    (bemfSectorEnd n sec s).supv = s.supv ∧
    (bemfSectorEnd n sec s).fb = s.fb ∧
    (bemfSectorEnd n sec s).cnv = s.cnv ∧
    (bemfSectorEnd n sec s).pin = s.pin ∧
    (bemfSectorEnd n sec s).seam = s.seam ∧
    (bemfSectorEnd n sec s).flt = s.flt ∧
    (bemfSectorEnd n sec s).store = s.store ∧
    (bemfSectorEnd n sec s).bak = s.bak ∧
    (bemfSectorEnd n sec s).proof = s.proof := by
  unfold bemfSectorEnd; (try dsimp only); repeat' split
  all_goals (refine ⟨?_, ?_, ?_, ?_, ?_, ?_, ?_, ?_, ?_, ?_, ?_, ?_, ?_, ?_, ?_, ?_, ?_, ?_, ?_, ?_, ?_, ?_, ?_, ?_, ?_, ?_, ?_⟩ <;> simp)

@[simp] theorem commuteAxis_frame (n : Fin 8) (sector : Nat) (s : State) :
    (commuteAxis n sector s).pending = s.pending ∧
    (commuteAxis n sector s).now = s.now ∧
    (commuteAxis n sector s).free = s.free ∧
    (commuteAxis n sector s).power = s.power ∧
    (commuteAxis n sector s).host = s.host ∧
    (commuteAxis n sector s).lat = s.lat ∧
    (commuteAxis n sector s).win = s.win ∧
    (commuteAxis n sector s).cfg = s.cfg ∧
    (commuteAxis n sector s).boot = s.boot ∧
    (commuteAxis n sector s).otp = s.otp ∧
    (commuteAxis n sector s).src = s.src ∧
    (commuteAxis n sector s).paceFrac = s.paceFrac ∧
    (commuteAxis n sector s).mains = s.mains ∧
    (commuteAxis n sector s).stitch = s.stitch ∧
    (commuteAxis n sector s).chan = s.chan ∧
    (commuteAxis n sector s).supply = s.supply ∧
    (commuteAxis n sector s).sto = s.sto ∧
    (commuteAxis n sector s).spread = s.spread ∧
    (commuteAxis n sector s).supv = s.supv ∧
    (commuteAxis n sector s).fb = s.fb ∧
    (commuteAxis n sector s).cnv = s.cnv ∧
    (commuteAxis n sector s).pin = s.pin ∧
    (commuteAxis n sector s).seam = s.seam ∧
    (commuteAxis n sector s).flt = s.flt ∧
    (commuteAxis n sector s).store = s.store ∧
    (commuteAxis n sector s).bak = s.bak ∧
    (commuteAxis n sector s).proof = s.proof := by
  unfold commuteAxis; (try dsimp only); repeat' split
  all_goals (refine ⟨?_, ?_, ?_, ?_, ?_, ?_, ?_, ?_, ?_, ?_, ?_, ?_, ?_, ?_, ?_, ?_, ?_, ?_, ?_, ?_, ?_, ?_, ?_, ?_, ?_, ?_, ?_⟩ <;> simp)

@[simp] theorem setInput_frame (n : Fin 8) (x : Nat) (s : State) :
    (setInput n x s).pending = s.pending ∧
    (setInput n x s).now = s.now ∧
    (setInput n x s).free = s.free ∧
    (setInput n x s).power = s.power ∧
    (setInput n x s).host = s.host ∧
    (setInput n x s).lat = s.lat ∧
    (setInput n x s).win = s.win ∧
    (setInput n x s).cfg = s.cfg ∧
    (setInput n x s).boot = s.boot ∧
    (setInput n x s).otp = s.otp ∧
    (setInput n x s).src = s.src ∧
    (setInput n x s).paceFrac = s.paceFrac ∧
    (setInput n x s).mains = s.mains ∧
    (setInput n x s).stitch = s.stitch ∧
    (setInput n x s).chan = s.chan ∧
    (setInput n x s).supply = s.supply ∧
    (setInput n x s).sto = s.sto ∧
    (setInput n x s).spread = s.spread ∧
    (setInput n x s).supv = s.supv ∧
    (setInput n x s).fb = s.fb ∧
    (setInput n x s).cnv = s.cnv ∧
    (setInput n x s).pin = s.pin ∧
    (setInput n x s).seam = s.seam ∧
    (setInput n x s).flt = s.flt ∧
    (setInput n x s).store = s.store ∧
    (setInput n x s).bak = s.bak ∧
    (setInput n x s).proof = s.proof := by
  unfold setInput; (try dsimp only); repeat' split
  all_goals (refine ⟨?_, ?_, ?_, ?_, ?_, ?_, ?_, ?_, ?_, ?_, ?_, ?_, ?_, ?_, ?_, ?_, ?_, ?_, ?_, ?_, ?_, ?_, ?_, ?_, ?_, ?_, ?_⟩ <;> simp)

@[simp] theorem freshInput_frame (n : Fin 8) (x : Nat) (s : State) :
    (freshInput n x s).pending = s.pending ∧
    (freshInput n x s).now = s.now ∧
    (freshInput n x s).free = s.free ∧
    (freshInput n x s).power = s.power ∧
    (freshInput n x s).host = s.host ∧
    (freshInput n x s).lat = s.lat ∧
    (freshInput n x s).win = s.win ∧
    (freshInput n x s).cfg = s.cfg ∧
    (freshInput n x s).boot = s.boot ∧
    (freshInput n x s).otp = s.otp ∧
    (freshInput n x s).src = s.src ∧
    (freshInput n x s).paceFrac = s.paceFrac ∧
    (freshInput n x s).mains = s.mains ∧
    (freshInput n x s).stitch = s.stitch ∧
    (freshInput n x s).chan = s.chan ∧
    (freshInput n x s).supply = s.supply ∧
    (freshInput n x s).sto = s.sto ∧
    (freshInput n x s).spread = s.spread ∧
    (freshInput n x s).supv = s.supv ∧
    (freshInput n x s).fb = s.fb ∧
    (freshInput n x s).cnv = s.cnv ∧
    (freshInput n x s).pin = s.pin ∧
    (freshInput n x s).seam = s.seam ∧
    (freshInput n x s).flt = s.flt ∧
    (freshInput n x s).store = s.store ∧
    (freshInput n x s).bak = s.bak ∧
    (freshInput n x s).proof = s.proof := by
  unfold freshInput; (try dsimp only); repeat' split
  all_goals (refine ⟨?_, ?_, ?_, ?_, ?_, ?_, ?_, ?_, ?_, ?_, ?_, ?_, ?_, ?_, ?_, ?_, ?_, ?_, ?_, ?_, ?_, ?_, ?_, ?_, ?_, ?_, ?_⟩ <;> simp)

@[simp] theorem stepInput_frame (n : Fin 8) (s : State) :
    (stepInput n s).pending = s.pending ∧
    (stepInput n s).now = s.now ∧
    (stepInput n s).free = s.free ∧
    (stepInput n s).power = s.power ∧
    (stepInput n s).host = s.host ∧
    (stepInput n s).lat = s.lat ∧
    (stepInput n s).win = s.win ∧
    (stepInput n s).cfg = s.cfg ∧
    (stepInput n s).boot = s.boot ∧
    (stepInput n s).otp = s.otp ∧
    (stepInput n s).src = s.src ∧
    (stepInput n s).paceFrac = s.paceFrac ∧
    (stepInput n s).mains = s.mains ∧
    (stepInput n s).stitch = s.stitch ∧
    (stepInput n s).chan = s.chan ∧
    (stepInput n s).supply = s.supply ∧
    (stepInput n s).sto = s.sto ∧
    (stepInput n s).spread = s.spread ∧
    (stepInput n s).supv = s.supv ∧
    (stepInput n s).fb = s.fb ∧
    (stepInput n s).cnv = s.cnv ∧
    (stepInput n s).pin = s.pin ∧
    (stepInput n s).seam = s.seam ∧
    (stepInput n s).flt = s.flt ∧
    (stepInput n s).store = s.store ∧
    (stepInput n s).bak = s.bak ∧
    (stepInput n s).proof = s.proof := by
  unfold stepInput; (try dsimp only); repeat' split
  all_goals (refine ⟨?_, ?_, ?_, ?_, ?_, ?_, ?_, ?_, ?_, ?_, ?_, ?_, ?_, ?_, ?_, ?_, ?_, ?_, ?_, ?_, ?_, ?_, ?_, ?_, ?_, ?_, ?_⟩ <;> simp)

@[simp] theorem readyNext_frame (n : Fin 8) (s : State) :
    (readyNext n s).pending = s.pending ∧
    (readyNext n s).now = s.now ∧
    (readyNext n s).free = s.free ∧
    (readyNext n s).power = s.power ∧
    (readyNext n s).host = s.host ∧
    (readyNext n s).lat = s.lat ∧
    (readyNext n s).win = s.win ∧
    (readyNext n s).cfg = s.cfg ∧
    (readyNext n s).boot = s.boot ∧
    (readyNext n s).otp = s.otp ∧
    (readyNext n s).src = s.src ∧
    (readyNext n s).paceFrac = s.paceFrac ∧
    (readyNext n s).mains = s.mains ∧
    (readyNext n s).stitch = s.stitch ∧
    (readyNext n s).chan = s.chan ∧
    (readyNext n s).supply = s.supply ∧
    (readyNext n s).sto = s.sto ∧
    (readyNext n s).spread = s.spread ∧
    (readyNext n s).supv = s.supv ∧
    (readyNext n s).fb = s.fb ∧
    (readyNext n s).cnv = s.cnv ∧
    (readyNext n s).pin = s.pin ∧
    (readyNext n s).seam = s.seam ∧
    (readyNext n s).flt = s.flt ∧
    (readyNext n s).store = s.store ∧
    (readyNext n s).bak = s.bak ∧
    (readyNext n s).proof = s.proof := by
  unfold readyNext; (try dsimp only); repeat' split
  all_goals (refine ⟨?_, ?_, ?_, ?_, ?_, ?_, ?_, ?_, ?_, ?_, ?_, ?_, ?_, ?_, ?_, ?_, ?_, ?_, ?_, ?_, ?_, ?_, ?_, ?_, ?_, ?_, ?_⟩ <;> simp)

@[simp] theorem endRide_frame (n : Fin 8) (hold : Bool) (s : State) :
    (endRide n hold s).pending = s.pending ∧
    (endRide n hold s).now = s.now ∧
    (endRide n hold s).free = s.free ∧
    (endRide n hold s).power = s.power ∧
    (endRide n hold s).host = s.host ∧
    (endRide n hold s).lat = s.lat ∧
    (endRide n hold s).win = s.win ∧
    (endRide n hold s).cfg = s.cfg ∧
    (endRide n hold s).boot = s.boot ∧
    (endRide n hold s).otp = s.otp ∧
    (endRide n hold s).src = s.src ∧
    (endRide n hold s).paceFrac = s.paceFrac ∧
    (endRide n hold s).mains = s.mains ∧
    (endRide n hold s).stitch = s.stitch ∧
    (endRide n hold s).chan = s.chan ∧
    (endRide n hold s).supply = s.supply ∧
    (endRide n hold s).sto = s.sto ∧
    (endRide n hold s).spread = s.spread ∧
    (endRide n hold s).supv = s.supv ∧
    (endRide n hold s).fb = s.fb ∧
    (endRide n hold s).cnv = s.cnv ∧
    (endRide n hold s).pin = s.pin ∧
    (endRide n hold s).seam = s.seam ∧
    (endRide n hold s).flt = s.flt ∧
    (endRide n hold s).store = s.store ∧
    (endRide n hold s).bak = s.bak ∧
    (endRide n hold s).proof = s.proof := by
  unfold endRide; (try dsimp only); repeat' split
  all_goals (refine ⟨?_, ?_, ?_, ?_, ?_, ?_, ?_, ?_, ?_, ?_, ?_, ?_, ?_, ?_, ?_, ?_, ?_, ?_, ?_, ?_, ?_, ?_, ?_, ?_, ?_, ?_, ?_⟩ <;> simp)

@[simp] theorem enterStopping_frame (n : Fin 8) (how : StopKind) (s : State) :
    (enterStopping n how s).pending = s.pending ∧
    (enterStopping n how s).now = s.now ∧
    (enterStopping n how s).free = s.free ∧
    (enterStopping n how s).power = s.power ∧
    (enterStopping n how s).host = s.host ∧
    (enterStopping n how s).lat = s.lat ∧
    (enterStopping n how s).win = s.win ∧
    (enterStopping n how s).cfg = s.cfg ∧
    (enterStopping n how s).boot = s.boot ∧
    (enterStopping n how s).otp = s.otp ∧
    (enterStopping n how s).src = s.src ∧
    (enterStopping n how s).paceFrac = s.paceFrac ∧
    (enterStopping n how s).mains = s.mains ∧
    (enterStopping n how s).stitch = s.stitch ∧
    (enterStopping n how s).chan = s.chan ∧
    (enterStopping n how s).supply = s.supply ∧
    (enterStopping n how s).sto = s.sto ∧
    (enterStopping n how s).spread = s.spread ∧
    (enterStopping n how s).supv = s.supv ∧
    (enterStopping n how s).fb = s.fb ∧
    (enterStopping n how s).cnv = s.cnv ∧
    (enterStopping n how s).pin = s.pin ∧
    (enterStopping n how s).seam = s.seam ∧
    (enterStopping n how s).flt = s.flt ∧
    (enterStopping n how s).store = s.store ∧
    (enterStopping n how s).bak = s.bak ∧
    (enterStopping n how s).proof = s.proof := by
  unfold enterStopping; (try dsimp only); repeat' split
  all_goals (refine ⟨?_, ?_, ?_, ?_, ?_, ?_, ?_, ?_, ?_, ?_, ?_, ?_, ?_, ?_, ?_, ?_, ?_, ?_, ?_, ?_, ?_, ?_, ?_, ?_, ?_, ?_, ?_⟩ <;> simp)

@[simp] theorem forcedStop_frame (n : Fin 8) (s : State) :
    (forcedStop n s).pending = s.pending ∧
    (forcedStop n s).now = s.now ∧
    (forcedStop n s).free = s.free ∧
    (forcedStop n s).power = s.power ∧
    (forcedStop n s).host = s.host ∧
    (forcedStop n s).lat = s.lat ∧
    (forcedStop n s).win = s.win ∧
    (forcedStop n s).cfg = s.cfg ∧
    (forcedStop n s).boot = s.boot ∧
    (forcedStop n s).otp = s.otp ∧
    (forcedStop n s).src = s.src ∧
    (forcedStop n s).paceFrac = s.paceFrac ∧
    (forcedStop n s).mains = s.mains ∧
    (forcedStop n s).stitch = s.stitch ∧
    (forcedStop n s).chan = s.chan ∧
    (forcedStop n s).supply = s.supply ∧
    (forcedStop n s).sto = s.sto ∧
    (forcedStop n s).spread = s.spread ∧
    (forcedStop n s).supv = s.supv ∧
    (forcedStop n s).fb = s.fb ∧
    (forcedStop n s).cnv = s.cnv ∧
    (forcedStop n s).pin = s.pin ∧
    (forcedStop n s).seam = s.seam ∧
    (forcedStop n s).flt = s.flt ∧
    (forcedStop n s).store = s.store ∧
    (forcedStop n s).bak = s.bak ∧
    (forcedStop n s).proof = s.proof := by
  unfold forcedStop; (try dsimp only); repeat' split
  all_goals (refine ⟨?_, ?_, ?_, ?_, ?_, ?_, ?_, ?_, ?_, ?_, ?_, ?_, ?_, ?_, ?_, ?_, ?_, ?_, ?_, ?_, ?_, ?_, ?_, ?_, ?_, ?_, ?_⟩ <;> simp)

@[simp] theorem commandLost_frame (n : Fin 8) (s : State) :
    (commandLost n s).pending = s.pending ∧
    (commandLost n s).now = s.now ∧
    (commandLost n s).free = s.free ∧
    (commandLost n s).power = s.power ∧
    (commandLost n s).host = s.host ∧
    (commandLost n s).lat = s.lat ∧
    (commandLost n s).win = s.win ∧
    (commandLost n s).cfg = s.cfg ∧
    (commandLost n s).boot = s.boot ∧
    (commandLost n s).otp = s.otp ∧
    (commandLost n s).src = s.src ∧
    (commandLost n s).paceFrac = s.paceFrac ∧
    (commandLost n s).mains = s.mains ∧
    (commandLost n s).stitch = s.stitch ∧
    (commandLost n s).chan = s.chan ∧
    (commandLost n s).supply = s.supply ∧
    (commandLost n s).sto = s.sto ∧
    (commandLost n s).spread = s.spread ∧
    (commandLost n s).supv = s.supv ∧
    (commandLost n s).pin = s.pin ∧
    (commandLost n s).seam = s.seam ∧
    (commandLost n s).store = s.store ∧
    (commandLost n s).bak = s.bak ∧
    (commandLost n s).proof = s.proof := by
  unfold commandLost; (try dsimp only); repeat' split
  all_goals (refine ⟨?_, ?_, ?_, ?_, ?_, ?_, ?_, ?_, ?_, ?_, ?_, ?_, ?_, ?_, ?_, ?_, ?_, ?_, ?_, ?_, ?_, ?_, ?_, ?_⟩ <;> simp)

@[simp] theorem checkCommand_frame (n : Fin 8) (s : State) :
    (checkCommand n s).pending = s.pending ∧
    (checkCommand n s).now = s.now ∧
    (checkCommand n s).free = s.free ∧
    (checkCommand n s).power = s.power ∧
    (checkCommand n s).host = s.host ∧
    (checkCommand n s).lat = s.lat ∧
    (checkCommand n s).win = s.win ∧
    (checkCommand n s).cfg = s.cfg ∧
    (checkCommand n s).boot = s.boot ∧
    (checkCommand n s).otp = s.otp ∧
    (checkCommand n s).src = s.src ∧
    (checkCommand n s).paceFrac = s.paceFrac ∧
    (checkCommand n s).mains = s.mains ∧
    (checkCommand n s).stitch = s.stitch ∧
    (checkCommand n s).chan = s.chan ∧
    (checkCommand n s).supply = s.supply ∧
    (checkCommand n s).sto = s.sto ∧
    (checkCommand n s).spread = s.spread ∧
    (checkCommand n s).supv = s.supv ∧
    (checkCommand n s).pin = s.pin ∧
    (checkCommand n s).seam = s.seam ∧
    (checkCommand n s).store = s.store ∧
    (checkCommand n s).bak = s.bak ∧
    (checkCommand n s).proof = s.proof := by
  unfold checkCommand; (try dsimp only); repeat' split
  all_goals (refine ⟨?_, ?_, ?_, ?_, ?_, ?_, ?_, ?_, ?_, ?_, ?_, ?_, ?_, ?_, ?_, ?_, ?_, ?_, ?_, ?_, ?_, ?_, ?_, ?_⟩ <;> simp)

@[simp] theorem enterStart_frame (n : Fin 8) (s : State) :
    (enterStart n s).pending = s.pending ∧
    (enterStart n s).now = s.now ∧
    (enterStart n s).free = s.free ∧
    (enterStart n s).power = s.power ∧
    (enterStart n s).host = s.host ∧
    (enterStart n s).lat = s.lat ∧
    (enterStart n s).win = s.win ∧
    (enterStart n s).cfg = s.cfg ∧
    (enterStart n s).boot = s.boot ∧
    (enterStart n s).otp = s.otp ∧
    (enterStart n s).src = s.src ∧
    (enterStart n s).paceFrac = s.paceFrac ∧
    (enterStart n s).mains = s.mains ∧
    (enterStart n s).stitch = s.stitch ∧
    (enterStart n s).chan = s.chan ∧
    (enterStart n s).supply = s.supply ∧
    (enterStart n s).sto = s.sto ∧
    (enterStart n s).spread = s.spread ∧
    (enterStart n s).supv = s.supv ∧
    (enterStart n s).pin = s.pin ∧
    (enterStart n s).seam = s.seam ∧
    (enterStart n s).bak = s.bak ∧
    (enterStart n s).proof = s.proof := by
  unfold enterStart; (try dsimp only); repeat' split
  all_goals (refine ⟨?_, ?_, ?_, ?_, ?_, ?_, ?_, ?_, ?_, ?_, ?_, ?_, ?_, ?_, ?_, ?_, ?_, ?_, ?_, ?_, ?_, ?_, ?_⟩ <;> simp)

@[simp] theorem enterRun_frame (n : Fin 8) (s : State) :
    (enterRun n s).pending = s.pending ∧
    (enterRun n s).now = s.now ∧
    (enterRun n s).free = s.free ∧
    (enterRun n s).power = s.power ∧
    (enterRun n s).host = s.host ∧
    (enterRun n s).lat = s.lat ∧
    (enterRun n s).win = s.win ∧
    (enterRun n s).cfg = s.cfg ∧
    (enterRun n s).boot = s.boot ∧
    (enterRun n s).otp = s.otp ∧
    (enterRun n s).src = s.src ∧
    (enterRun n s).paceFrac = s.paceFrac ∧
    (enterRun n s).mains = s.mains ∧
    (enterRun n s).stitch = s.stitch ∧
    (enterRun n s).chan = s.chan ∧
    (enterRun n s).supply = s.supply ∧
    (enterRun n s).sto = s.sto ∧
    (enterRun n s).spread = s.spread ∧
    (enterRun n s).supv = s.supv ∧
    (enterRun n s).fb = s.fb ∧
    (enterRun n s).cnv = s.cnv ∧
    (enterRun n s).pin = s.pin ∧
    (enterRun n s).seam = s.seam ∧
    (enterRun n s).flt = s.flt ∧
    (enterRun n s).store = s.store ∧
    (enterRun n s).bak = s.bak ∧
    (enterRun n s).proof = s.proof := by
  unfold enterRun; (try dsimp only); repeat' split
  all_goals (refine ⟨?_, ?_, ?_, ?_, ?_, ?_, ?_, ?_, ?_, ?_, ?_, ?_, ?_, ?_, ?_, ?_, ?_, ?_, ?_, ?_, ?_, ?_, ?_, ?_, ?_, ?_, ?_⟩ <;> simp)

@[simp] theorem enterDirect_frame (n : Fin 8) (s : State) :
    (enterDirect n s).pending = s.pending ∧
    (enterDirect n s).now = s.now ∧
    (enterDirect n s).free = s.free ∧
    (enterDirect n s).power = s.power ∧
    (enterDirect n s).host = s.host ∧
    (enterDirect n s).lat = s.lat ∧
    (enterDirect n s).win = s.win ∧
    (enterDirect n s).cfg = s.cfg ∧
    (enterDirect n s).boot = s.boot ∧
    (enterDirect n s).otp = s.otp ∧
    (enterDirect n s).src = s.src ∧
    (enterDirect n s).paceFrac = s.paceFrac ∧
    (enterDirect n s).mains = s.mains ∧
    (enterDirect n s).stitch = s.stitch ∧
    (enterDirect n s).chan = s.chan ∧
    (enterDirect n s).supply = s.supply ∧
    (enterDirect n s).sto = s.sto ∧
    (enterDirect n s).spread = s.spread ∧
    (enterDirect n s).supv = s.supv ∧
    (enterDirect n s).pin = s.pin ∧
    (enterDirect n s).seam = s.seam ∧
    (enterDirect n s).bak = s.bak ∧
    (enterDirect n s).proof = s.proof := by
  unfold enterDirect; (try dsimp only); repeat' split
  all_goals (refine ⟨?_, ?_, ?_, ?_, ?_, ?_, ?_, ?_, ?_, ?_, ?_, ?_, ?_, ?_, ?_, ?_, ?_, ?_, ?_, ?_, ?_, ?_, ?_⟩ <;> simp)

@[simp] theorem brakeReleased_frame (n : Fin 8) (s : State) :
    (brakeReleased n s).pending = s.pending ∧
    (brakeReleased n s).now = s.now ∧
    (brakeReleased n s).free = s.free ∧
    (brakeReleased n s).power = s.power ∧
    (brakeReleased n s).host = s.host ∧
    (brakeReleased n s).lat = s.lat ∧
    (brakeReleased n s).win = s.win ∧
    (brakeReleased n s).cfg = s.cfg ∧
    (brakeReleased n s).boot = s.boot ∧
    (brakeReleased n s).otp = s.otp ∧
    (brakeReleased n s).src = s.src ∧
    (brakeReleased n s).paceFrac = s.paceFrac ∧
    (brakeReleased n s).mains = s.mains ∧
    (brakeReleased n s).stitch = s.stitch ∧
    (brakeReleased n s).chan = s.chan ∧
    (brakeReleased n s).supply = s.supply ∧
    (brakeReleased n s).sto = s.sto ∧
    (brakeReleased n s).spread = s.spread ∧
    (brakeReleased n s).supv = s.supv ∧
    (brakeReleased n s).fb = s.fb ∧
    (brakeReleased n s).cnv = s.cnv ∧
    (brakeReleased n s).pin = s.pin ∧
    (brakeReleased n s).seam = s.seam ∧
    (brakeReleased n s).flt = s.flt ∧
    (brakeReleased n s).store = s.store ∧
    (brakeReleased n s).bak = s.bak ∧
    (brakeReleased n s).proof = s.proof := by
  unfold brakeReleased; (try dsimp only); repeat' split
  all_goals (refine ⟨?_, ?_, ?_, ?_, ?_, ?_, ?_, ?_, ?_, ?_, ?_, ?_, ?_, ?_, ?_, ?_, ?_, ?_, ?_, ?_, ?_, ?_, ?_, ?_, ?_, ?_, ?_⟩ <;> simp)

@[simp] theorem brakeTimeEnd_frame (n : Fin 8) (s : State) :
    (brakeTimeEnd n s).pending = s.pending ∧
    (brakeTimeEnd n s).now = s.now ∧
    (brakeTimeEnd n s).free = s.free ∧
    (brakeTimeEnd n s).power = s.power ∧
    (brakeTimeEnd n s).host = s.host ∧
    (brakeTimeEnd n s).lat = s.lat ∧
    (brakeTimeEnd n s).win = s.win ∧
    (brakeTimeEnd n s).cfg = s.cfg ∧
    (brakeTimeEnd n s).boot = s.boot ∧
    (brakeTimeEnd n s).otp = s.otp ∧
    (brakeTimeEnd n s).src = s.src ∧
    (brakeTimeEnd n s).paceFrac = s.paceFrac ∧
    (brakeTimeEnd n s).mains = s.mains ∧
    (brakeTimeEnd n s).stitch = s.stitch ∧
    (brakeTimeEnd n s).chan = s.chan ∧
    (brakeTimeEnd n s).supply = s.supply ∧
    (brakeTimeEnd n s).sto = s.sto ∧
    (brakeTimeEnd n s).spread = s.spread ∧
    (brakeTimeEnd n s).supv = s.supv ∧
    (brakeTimeEnd n s).fb = s.fb ∧
    (brakeTimeEnd n s).cnv = s.cnv ∧
    (brakeTimeEnd n s).pin = s.pin ∧
    (brakeTimeEnd n s).seam = s.seam ∧
    (brakeTimeEnd n s).flt = s.flt ∧
    (brakeTimeEnd n s).store = s.store ∧
    (brakeTimeEnd n s).bak = s.bak ∧
    (brakeTimeEnd n s).proof = s.proof := by
  unfold brakeTimeEnd; (try dsimp only); repeat' split
  all_goals (refine ⟨?_, ?_, ?_, ?_, ?_, ?_, ?_, ?_, ?_, ?_, ?_, ?_, ?_, ?_, ?_, ?_, ?_, ?_, ?_, ?_, ?_, ?_, ?_, ?_, ?_, ?_, ?_⟩ <;> simp)

@[simp] theorem lockedRotor_frame (n : Fin 8) (s : State) :
    (lockedRotor n s).pending = s.pending ∧
    (lockedRotor n s).now = s.now ∧
    (lockedRotor n s).free = s.free ∧
    (lockedRotor n s).power = s.power ∧
    (lockedRotor n s).host = s.host ∧
    (lockedRotor n s).lat = s.lat ∧
    (lockedRotor n s).win = s.win ∧
    (lockedRotor n s).cfg = s.cfg ∧
    (lockedRotor n s).boot = s.boot ∧
    (lockedRotor n s).otp = s.otp ∧
    (lockedRotor n s).src = s.src ∧
    (lockedRotor n s).paceFrac = s.paceFrac ∧
    (lockedRotor n s).mains = s.mains ∧
    (lockedRotor n s).stitch = s.stitch ∧
    (lockedRotor n s).chan = s.chan ∧
    (lockedRotor n s).supply = s.supply ∧
    (lockedRotor n s).sto = s.sto ∧
    (lockedRotor n s).spread = s.spread ∧
    (lockedRotor n s).supv = s.supv ∧
    (lockedRotor n s).pin = s.pin ∧
    (lockedRotor n s).seam = s.seam ∧
    (lockedRotor n s).store = s.store ∧
    (lockedRotor n s).bak = s.bak ∧
    (lockedRotor n s).proof = s.proof := by
  unfold lockedRotor; (try dsimp only); repeat' split
  all_goals (refine ⟨?_, ?_, ?_, ?_, ?_, ?_, ?_, ?_, ?_, ?_, ?_, ?_, ?_, ?_, ?_, ?_, ?_, ?_, ?_, ?_, ?_, ?_, ?_, ?_⟩ <;> simp)

@[simp] theorem commandLoss_frame (n : Fin 8) (s : State) :
    (commandLoss n s).pending = s.pending ∧
    (commandLoss n s).now = s.now ∧
    (commandLoss n s).free = s.free ∧
    (commandLoss n s).power = s.power ∧
    (commandLoss n s).host = s.host ∧
    (commandLoss n s).lat = s.lat ∧
    (commandLoss n s).win = s.win ∧
    (commandLoss n s).cfg = s.cfg ∧
    (commandLoss n s).boot = s.boot ∧
    (commandLoss n s).otp = s.otp ∧
    (commandLoss n s).src = s.src ∧
    (commandLoss n s).paceFrac = s.paceFrac ∧
    (commandLoss n s).mains = s.mains ∧
    (commandLoss n s).stitch = s.stitch ∧
    (commandLoss n s).chan = s.chan ∧
    (commandLoss n s).supply = s.supply ∧
    (commandLoss n s).sto = s.sto ∧
    (commandLoss n s).spread = s.spread ∧
    (commandLoss n s).supv = s.supv ∧
    (commandLoss n s).pin = s.pin ∧
    (commandLoss n s).seam = s.seam ∧
    (commandLoss n s).store = s.store ∧
    (commandLoss n s).bak = s.bak ∧
    (commandLoss n s).proof = s.proof := by
  unfold commandLoss; (try dsimp only); repeat' split
  all_goals (refine ⟨?_, ?_, ?_, ?_, ?_, ?_, ?_, ?_, ?_, ?_, ?_, ?_, ?_, ?_, ?_, ?_, ?_, ?_, ?_, ?_, ?_, ?_, ?_, ?_⟩ <;> simp)

@[simp] theorem commandEdge_frame (n : Fin 8) (period high : Nat) (s : State) :
    (commandEdge n period high s).pending = s.pending ∧
    (commandEdge n period high s).now = s.now ∧
    (commandEdge n period high s).free = s.free ∧
    (commandEdge n period high s).power = s.power ∧
    (commandEdge n period high s).host = s.host ∧
    (commandEdge n period high s).lat = s.lat ∧
    (commandEdge n period high s).win = s.win ∧
    (commandEdge n period high s).cfg = s.cfg ∧
    (commandEdge n period high s).boot = s.boot ∧
    (commandEdge n period high s).otp = s.otp ∧
    (commandEdge n period high s).src = s.src ∧
    (commandEdge n period high s).paceFrac = s.paceFrac ∧
    (commandEdge n period high s).mains = s.mains ∧
    (commandEdge n period high s).stitch = s.stitch ∧
    (commandEdge n period high s).chan = s.chan ∧
    (commandEdge n period high s).supply = s.supply ∧
    (commandEdge n period high s).sto = s.sto ∧
    (commandEdge n period high s).spread = s.spread ∧
    (commandEdge n period high s).supv = s.supv ∧
    (commandEdge n period high s).fb = s.fb ∧
    (commandEdge n period high s).cnv = s.cnv ∧
    (commandEdge n period high s).pin = s.pin ∧
    (commandEdge n period high s).seam = s.seam ∧
    (commandEdge n period high s).flt = s.flt ∧
    (commandEdge n period high s).store = s.store ∧
    (commandEdge n period high s).bak = s.bak ∧
    (commandEdge n period high s).proof = s.proof := by
  unfold commandEdge; (try dsimp only); repeat' split
  all_goals (refine ⟨?_, ?_, ?_, ?_, ?_, ?_, ?_, ?_, ?_, ?_, ?_, ?_, ?_, ?_, ?_, ?_, ?_, ?_, ?_, ?_, ?_, ?_, ?_, ?_, ?_, ?_, ?_⟩ <;> simp)

@[simp] theorem speedLoop_frame (n : Fin 8) (s : State) :
    (speedLoop n s).pending = s.pending ∧
    (speedLoop n s).now = s.now ∧
    (speedLoop n s).free = s.free ∧
    (speedLoop n s).power = s.power ∧
    (speedLoop n s).host = s.host ∧
    (speedLoop n s).lat = s.lat ∧
    (speedLoop n s).win = s.win ∧
    (speedLoop n s).cfg = s.cfg ∧
    (speedLoop n s).boot = s.boot ∧
    (speedLoop n s).otp = s.otp ∧
    (speedLoop n s).src = s.src ∧
    (speedLoop n s).paceFrac = s.paceFrac ∧
    (speedLoop n s).mains = s.mains ∧
    (speedLoop n s).stitch = s.stitch ∧
    (speedLoop n s).chan = s.chan ∧
    (speedLoop n s).supply = s.supply ∧
    (speedLoop n s).sto = s.sto ∧
    (speedLoop n s).spread = s.spread ∧
    (speedLoop n s).supv = s.supv ∧
    (speedLoop n s).fb = s.fb ∧
    (speedLoop n s).cnv = s.cnv ∧
    (speedLoop n s).pin = s.pin ∧
    (speedLoop n s).seam = s.seam ∧
    (speedLoop n s).flt = s.flt ∧
    (speedLoop n s).store = s.store ∧
    (speedLoop n s).bak = s.bak ∧
    (speedLoop n s).proof = s.proof := by
  unfold speedLoop; (try dsimp only); repeat' split
  all_goals (refine ⟨?_, ?_, ?_, ?_, ?_, ?_, ?_, ?_, ?_, ?_, ?_, ?_, ?_, ?_, ?_, ?_, ?_, ?_, ?_, ?_, ?_, ?_, ?_, ?_, ?_, ?_, ?_⟩ <;> simp)

@[simp] theorem stepReference_frame (n : Fin 8) (dt : Nat) (s : State) :
    (stepReference n dt s).pending = s.pending ∧
    (stepReference n dt s).now = s.now ∧
    (stepReference n dt s).free = s.free ∧
    (stepReference n dt s).power = s.power ∧
    (stepReference n dt s).host = s.host ∧
    (stepReference n dt s).lat = s.lat ∧
    (stepReference n dt s).win = s.win ∧
    (stepReference n dt s).cfg = s.cfg ∧
    (stepReference n dt s).boot = s.boot ∧
    (stepReference n dt s).otp = s.otp ∧
    (stepReference n dt s).src = s.src ∧
    (stepReference n dt s).paceFrac = s.paceFrac ∧
    (stepReference n dt s).mains = s.mains ∧
    (stepReference n dt s).stitch = s.stitch ∧
    (stepReference n dt s).chan = s.chan ∧
    (stepReference n dt s).supply = s.supply ∧
    (stepReference n dt s).sto = s.sto ∧
    (stepReference n dt s).spread = s.spread ∧
    (stepReference n dt s).supv = s.supv ∧
    (stepReference n dt s).fb = s.fb ∧
    (stepReference n dt s).pin = s.pin ∧
    (stepReference n dt s).seam = s.seam ∧
    (stepReference n dt s).flt = s.flt ∧
    (stepReference n dt s).store = s.store ∧
    (stepReference n dt s).bak = s.bak ∧
    (stepReference n dt s).proof = s.proof ∧
    (stepReference n dt s).cnv = s.cnv := by
  unfold stepReference; (try dsimp only); repeat' split
  all_goals (refine ⟨?_, ?_, ?_, ?_, ?_, ?_, ?_, ?_, ?_, ?_, ?_, ?_, ?_, ?_, ?_, ?_, ?_, ?_, ?_, ?_, ?_, ?_, ?_, ?_, ?_, ?_, ?_⟩ <;> simp)

@[simp] theorem currentLoop_frame (n : Fin 8) (s : State) :
    (currentLoop n s).pending = s.pending ∧
    (currentLoop n s).now = s.now ∧
    (currentLoop n s).free = s.free ∧
    (currentLoop n s).power = s.power ∧
    (currentLoop n s).host = s.host ∧
    (currentLoop n s).lat = s.lat ∧
    (currentLoop n s).win = s.win ∧
    (currentLoop n s).cfg = s.cfg ∧
    (currentLoop n s).boot = s.boot ∧
    (currentLoop n s).otp = s.otp ∧
    (currentLoop n s).src = s.src ∧
    (currentLoop n s).paceFrac = s.paceFrac ∧
    (currentLoop n s).mains = s.mains ∧
    (currentLoop n s).stitch = s.stitch ∧
    (currentLoop n s).chan = s.chan ∧
    (currentLoop n s).supply = s.supply ∧
    (currentLoop n s).sto = s.sto ∧
    (currentLoop n s).spread = s.spread ∧
    (currentLoop n s).supv = s.supv ∧
    (currentLoop n s).fb = s.fb ∧
    (currentLoop n s).cnv = s.cnv ∧
    (currentLoop n s).pin = s.pin ∧
    (currentLoop n s).seam = s.seam ∧
    (currentLoop n s).flt = s.flt ∧
    (currentLoop n s).store = s.store ∧
    (currentLoop n s).bak = s.bak ∧
    (currentLoop n s).proof = s.proof := by
  unfold currentLoop; (try dsimp only); repeat' split
  all_goals (refine ⟨?_, ?_, ?_, ?_, ?_, ?_, ?_, ?_, ?_, ?_, ?_, ?_, ?_, ?_, ?_, ?_, ?_, ?_, ?_, ?_, ?_, ?_, ?_, ?_, ?_, ?_, ?_⟩ <;> simp)

@[simp] theorem orient_frame (n : Fin 8) (s : State) :
    (orient n s).pending = s.pending ∧
    (orient n s).now = s.now ∧
    (orient n s).free = s.free ∧
    (orient n s).power = s.power ∧
    (orient n s).host = s.host ∧
    (orient n s).lat = s.lat ∧
    (orient n s).win = s.win ∧
    (orient n s).cfg = s.cfg ∧
    (orient n s).boot = s.boot ∧
    (orient n s).otp = s.otp ∧
    (orient n s).src = s.src ∧
    (orient n s).paceFrac = s.paceFrac ∧
    (orient n s).mains = s.mains ∧
    (orient n s).stitch = s.stitch ∧
    (orient n s).chan = s.chan ∧
    (orient n s).supply = s.supply ∧
    (orient n s).sto = s.sto ∧
    (orient n s).spread = s.spread ∧
    (orient n s).supv = s.supv ∧
    (orient n s).fb = s.fb ∧
    (orient n s).cnv = s.cnv ∧
    (orient n s).pin = s.pin ∧
    (orient n s).seam = s.seam ∧
    (orient n s).flt = s.flt ∧
    (orient n s).store = s.store ∧
    (orient n s).bak = s.bak ∧
    (orient n s).proof = s.proof := by
  unfold orient; (try dsimp only); repeat' split
  all_goals (refine ⟨?_, ?_, ?_, ?_, ?_, ?_, ?_, ?_, ?_, ?_, ?_, ?_, ?_, ?_, ?_, ?_, ?_, ?_, ?_, ?_, ?_, ?_, ?_, ?_, ?_, ?_, ?_⟩ <;> simp)

@[simp] theorem stepHem_frame (n : Fin 8) (s : State) :
    (stepHem n s).pending = s.pending ∧
    (stepHem n s).now = s.now ∧
    (stepHem n s).free = s.free ∧
    (stepHem n s).power = s.power ∧
    (stepHem n s).host = s.host ∧
    (stepHem n s).lat = s.lat ∧
    (stepHem n s).win = s.win ∧
    (stepHem n s).cfg = s.cfg ∧
    (stepHem n s).boot = s.boot ∧
    (stepHem n s).otp = s.otp ∧
    (stepHem n s).src = s.src ∧
    (stepHem n s).paceFrac = s.paceFrac ∧
    (stepHem n s).mains = s.mains ∧
    (stepHem n s).stitch = s.stitch ∧
    (stepHem n s).chan = s.chan ∧
    (stepHem n s).supply = s.supply ∧
    (stepHem n s).sto = s.sto ∧
    (stepHem n s).spread = s.spread ∧
    (stepHem n s).supv = s.supv ∧
    (stepHem n s).fb = s.fb ∧
    (stepHem n s).cnv = s.cnv ∧
    (stepHem n s).pin = s.pin ∧
    (stepHem n s).seam = s.seam ∧
    (stepHem n s).flt = s.flt ∧
    (stepHem n s).store = s.store ∧
    (stepHem n s).bak = s.bak ∧
    (stepHem n s).proof = s.proof := by
  unfold stepHem; (try dsimp only); repeat' split
  all_goals (refine ⟨?_, ?_, ?_, ?_, ?_, ?_, ?_, ?_, ?_, ?_, ?_, ?_, ?_, ?_, ?_, ?_, ?_, ?_, ?_, ?_, ?_, ?_, ?_, ?_, ?_, ?_, ?_⟩ <;> simp)

@[simp] theorem runRegulators_frame (n : Fin 8) (dt : Nat) (s : State) :
    (runRegulators n dt s).pending = s.pending ∧
    (runRegulators n dt s).now = s.now ∧
    (runRegulators n dt s).free = s.free ∧
    (runRegulators n dt s).power = s.power ∧
    (runRegulators n dt s).host = s.host ∧
    (runRegulators n dt s).lat = s.lat ∧
    (runRegulators n dt s).win = s.win ∧
    (runRegulators n dt s).cfg = s.cfg ∧
    (runRegulators n dt s).boot = s.boot ∧
    (runRegulators n dt s).otp = s.otp ∧
    (runRegulators n dt s).src = s.src ∧
    (runRegulators n dt s).paceFrac = s.paceFrac ∧
    (runRegulators n dt s).mains = s.mains ∧
    (runRegulators n dt s).stitch = s.stitch ∧
    (runRegulators n dt s).chan = s.chan ∧
    (runRegulators n dt s).supply = s.supply ∧
    (runRegulators n dt s).sto = s.sto ∧
    (runRegulators n dt s).spread = s.spread ∧
    (runRegulators n dt s).supv = s.supv ∧
    (runRegulators n dt s).fb = s.fb ∧
    (runRegulators n dt s).pin = s.pin ∧
    (runRegulators n dt s).seam = s.seam ∧
    (runRegulators n dt s).flt = s.flt ∧
    (runRegulators n dt s).store = s.store ∧
    (runRegulators n dt s).bak = s.bak ∧
    (runRegulators n dt s).proof = s.proof ∧
    (runRegulators n dt s).cnv = s.cnv := by
  unfold runRegulators; (try dsimp only); repeat' split
  all_goals (refine ⟨?_, ?_, ?_, ?_, ?_, ?_, ?_, ?_, ?_, ?_, ?_, ?_, ?_, ?_, ?_, ?_, ?_, ?_, ?_, ?_, ?_, ?_, ?_, ?_, ?_, ?_, ?_⟩ <;> simp)

@[simp] theorem setRoles_frame (n : Fin 8) (carry : Vector Int 3) (s : State) :
    (setRoles n carry s).pending = s.pending ∧
    (setRoles n carry s).now = s.now ∧
    (setRoles n carry s).free = s.free ∧
    (setRoles n carry s).power = s.power ∧
    (setRoles n carry s).host = s.host ∧
    (setRoles n carry s).lat = s.lat ∧
    (setRoles n carry s).win = s.win ∧
    (setRoles n carry s).cfg = s.cfg ∧
    (setRoles n carry s).boot = s.boot ∧
    (setRoles n carry s).otp = s.otp ∧
    (setRoles n carry s).src = s.src ∧
    (setRoles n carry s).paceFrac = s.paceFrac ∧
    (setRoles n carry s).mains = s.mains ∧
    (setRoles n carry s).stitch = s.stitch ∧
    (setRoles n carry s).chan = s.chan ∧
    (setRoles n carry s).supply = s.supply ∧
    (setRoles n carry s).sto = s.sto ∧
    (setRoles n carry s).spread = s.spread ∧
    (setRoles n carry s).supv = s.supv ∧
    (setRoles n carry s).fb = s.fb ∧
    (setRoles n carry s).cnv = s.cnv ∧
    (setRoles n carry s).pin = s.pin ∧
    (setRoles n carry s).seam = s.seam ∧
    (setRoles n carry s).flt = s.flt ∧
    (setRoles n carry s).store = s.store ∧
    (setRoles n carry s).bak = s.bak ∧
    (setRoles n carry s).proof = s.proof := by
  unfold setRoles; (try dsimp only); repeat' split
  all_goals (refine ⟨?_, ?_, ?_, ?_, ?_, ?_, ?_, ?_, ?_, ?_, ?_, ?_, ?_, ?_, ?_, ?_, ?_, ?_, ?_, ?_, ?_, ?_, ?_, ?_, ?_, ?_, ?_⟩ <;> simp)

@[simp] theorem watchRotor_frame (n : Fin 8) (s : State) :
    (watchRotor n s).pending = s.pending ∧
    (watchRotor n s).now = s.now ∧
    (watchRotor n s).free = s.free ∧
    (watchRotor n s).power = s.power ∧
    (watchRotor n s).host = s.host ∧
    (watchRotor n s).lat = s.lat ∧
    (watchRotor n s).win = s.win ∧
    (watchRotor n s).cfg = s.cfg ∧
    (watchRotor n s).boot = s.boot ∧
    (watchRotor n s).otp = s.otp ∧
    (watchRotor n s).src = s.src ∧
    (watchRotor n s).paceFrac = s.paceFrac ∧
    (watchRotor n s).mains = s.mains ∧
    (watchRotor n s).stitch = s.stitch ∧
    (watchRotor n s).chan = s.chan ∧
    (watchRotor n s).supply = s.supply ∧
    (watchRotor n s).sto = s.sto ∧
    (watchRotor n s).spread = s.spread ∧
    (watchRotor n s).supv = s.supv ∧
    (watchRotor n s).fb = s.fb ∧
    (watchRotor n s).cnv = s.cnv ∧
    (watchRotor n s).pin = s.pin ∧
    (watchRotor n s).seam = s.seam ∧
    (watchRotor n s).flt = s.flt ∧
    (watchRotor n s).store = s.store ∧
    (watchRotor n s).bak = s.bak ∧
    (watchRotor n s).proof = s.proof := by
  unfold watchRotor; (try dsimp only); repeat' split
  all_goals (refine ⟨?_, ?_, ?_, ?_, ?_, ?_, ?_, ?_, ?_, ?_, ?_, ?_, ?_, ?_, ?_, ?_, ?_, ?_, ?_, ?_, ?_, ?_, ?_, ?_, ?_, ?_, ?_⟩ <;> simp)

@[simp] theorem afterRegulators_frame (n : Fin 8) (s : State) :
    (afterRegulators n s).pending = s.pending ∧
    (afterRegulators n s).now = s.now ∧
    (afterRegulators n s).free = s.free ∧
    (afterRegulators n s).power = s.power ∧
    (afterRegulators n s).host = s.host ∧
    (afterRegulators n s).lat = s.lat ∧
    (afterRegulators n s).win = s.win ∧
    (afterRegulators n s).cfg = s.cfg ∧
    (afterRegulators n s).boot = s.boot ∧
    (afterRegulators n s).otp = s.otp ∧
    (afterRegulators n s).src = s.src ∧
    (afterRegulators n s).paceFrac = s.paceFrac ∧
    (afterRegulators n s).mains = s.mains ∧
    (afterRegulators n s).stitch = s.stitch ∧
    (afterRegulators n s).chan = s.chan ∧
    (afterRegulators n s).supply = s.supply ∧
    (afterRegulators n s).sto = s.sto ∧
    (afterRegulators n s).spread = s.spread ∧
    (afterRegulators n s).supv = s.supv ∧
    (afterRegulators n s).fb = s.fb ∧
    (afterRegulators n s).cnv = s.cnv ∧
    (afterRegulators n s).pin = s.pin ∧
    (afterRegulators n s).seam = s.seam ∧
    (afterRegulators n s).flt = s.flt ∧
    (afterRegulators n s).store = s.store ∧
    (afterRegulators n s).bak = s.bak ∧
    (afterRegulators n s).proof = s.proof := by
  unfold afterRegulators; (try dsimp only); repeat' split
  all_goals (refine ⟨?_, ?_, ?_, ?_, ?_, ?_, ?_, ?_, ?_, ?_, ?_, ?_, ?_, ?_, ?_, ?_, ?_, ?_, ?_, ?_, ?_, ?_, ?_, ?_, ?_, ?_, ?_⟩ <;> simp)

@[simp] theorem stopRun_frame (n : Fin 8) (s : State) :
    (stopRun n s).pending = s.pending ∧
    (stopRun n s).now = s.now ∧
    (stopRun n s).free = s.free ∧
    (stopRun n s).power = s.power ∧
    (stopRun n s).host = s.host ∧
    (stopRun n s).lat = s.lat ∧
    (stopRun n s).win = s.win ∧
    (stopRun n s).cfg = s.cfg ∧
    (stopRun n s).boot = s.boot ∧
    (stopRun n s).otp = s.otp ∧
    (stopRun n s).src = s.src ∧
    (stopRun n s).paceFrac = s.paceFrac ∧
    (stopRun n s).mains = s.mains ∧
    (stopRun n s).stitch = s.stitch ∧
    (stopRun n s).chan = s.chan ∧
    (stopRun n s).supply = s.supply ∧
    (stopRun n s).sto = s.sto ∧
    (stopRun n s).spread = s.spread ∧
    (stopRun n s).supv = s.supv ∧
    (stopRun n s).fb = s.fb ∧
    (stopRun n s).cnv = s.cnv ∧
    (stopRun n s).pin = s.pin ∧
    (stopRun n s).seam = s.seam ∧
    (stopRun n s).flt = s.flt ∧
    (stopRun n s).store = s.store ∧
    (stopRun n s).bak = s.bak ∧
    (stopRun n s).proof = s.proof := by
  unfold stopRun; (try dsimp only); repeat' split
  all_goals (refine ⟨?_, ?_, ?_, ?_, ?_, ?_, ?_, ?_, ?_, ?_, ?_, ?_, ?_, ?_, ?_, ?_, ?_, ?_, ?_, ?_, ?_, ?_, ?_, ?_, ?_, ?_, ?_⟩ <;> simp)

@[simp] theorem holdRun_frame (n : Fin 8) (s : State) :
    (holdRun n s).pending = s.pending ∧
    (holdRun n s).now = s.now ∧
    (holdRun n s).free = s.free ∧
    (holdRun n s).power = s.power ∧
    (holdRun n s).host = s.host ∧
    (holdRun n s).lat = s.lat ∧
    (holdRun n s).win = s.win ∧
    (holdRun n s).cfg = s.cfg ∧
    (holdRun n s).boot = s.boot ∧
    (holdRun n s).otp = s.otp ∧
    (holdRun n s).src = s.src ∧
    (holdRun n s).paceFrac = s.paceFrac ∧
    (holdRun n s).mains = s.mains ∧
    (holdRun n s).stitch = s.stitch ∧
    (holdRun n s).chan = s.chan ∧
    (holdRun n s).supply = s.supply ∧
    (holdRun n s).sto = s.sto ∧
    (holdRun n s).spread = s.spread ∧
    (holdRun n s).supv = s.supv ∧
    (holdRun n s).fb = s.fb ∧
    (holdRun n s).cnv = s.cnv ∧
    (holdRun n s).pin = s.pin ∧
    (holdRun n s).seam = s.seam ∧
    (holdRun n s).flt = s.flt ∧
    (holdRun n s).store = s.store ∧
    (holdRun n s).bak = s.bak ∧
    (holdRun n s).proof = s.proof := by
  unfold holdRun; (try dsimp only); repeat' split
  all_goals (refine ⟨?_, ?_, ?_, ?_, ?_, ?_, ?_, ?_, ?_, ?_, ?_, ?_, ?_, ?_, ?_, ?_, ?_, ?_, ?_, ?_, ?_, ?_, ?_, ?_, ?_, ?_, ?_⟩ <;> simp)

/-! ### Estimators -/

@[simp] theorem startProbe_frame (n : Fin 8) (thenStart : Bool) (s : State) :
    (startProbe n thenStart s).pending = s.pending ∧
    (startProbe n thenStart s).now = s.now ∧
    (startProbe n thenStart s).free = s.free ∧
    (startProbe n thenStart s).power = s.power ∧
    (startProbe n thenStart s).host = s.host ∧
    (startProbe n thenStart s).lat = s.lat ∧
    (startProbe n thenStart s).win = s.win ∧
    (startProbe n thenStart s).cfg = s.cfg ∧
    (startProbe n thenStart s).boot = s.boot ∧
    (startProbe n thenStart s).otp = s.otp ∧
    (startProbe n thenStart s).src = s.src ∧
    (startProbe n thenStart s).paceFrac = s.paceFrac ∧
    (startProbe n thenStart s).mains = s.mains ∧
    (startProbe n thenStart s).stitch = s.stitch ∧
    (startProbe n thenStart s).chan = s.chan ∧
    (startProbe n thenStart s).supply = s.supply ∧
    (startProbe n thenStart s).sto = s.sto ∧
    (startProbe n thenStart s).spread = s.spread ∧
    (startProbe n thenStart s).supv = s.supv ∧
    (startProbe n thenStart s).fb = s.fb ∧
    (startProbe n thenStart s).cnv = s.cnv ∧
    (startProbe n thenStart s).pin = s.pin ∧
    (startProbe n thenStart s).seam = s.seam ∧
    (startProbe n thenStart s).flt = s.flt ∧
    (startProbe n thenStart s).bak = s.bak ∧
    (startProbe n thenStart s).proof = s.proof := by
  unfold startProbe; (try dsimp only); repeat' split
  all_goals (refine ⟨?_, ?_, ?_, ?_, ?_, ?_, ?_, ?_, ?_, ?_, ?_, ?_, ?_, ?_, ?_, ?_, ?_, ?_, ?_, ?_, ?_, ?_, ?_, ?_, ?_, ?_⟩ <;> simp)

@[simp] theorem alignEncoder_frame (n : Fin 8) (s : State) :
    (alignEncoder n s).pending = s.pending ∧
    (alignEncoder n s).now = s.now ∧
    (alignEncoder n s).free = s.free ∧
    (alignEncoder n s).power = s.power ∧
    (alignEncoder n s).host = s.host ∧
    (alignEncoder n s).lat = s.lat ∧
    (alignEncoder n s).win = s.win ∧
    (alignEncoder n s).boot = s.boot ∧
    (alignEncoder n s).otp = s.otp ∧
    (alignEncoder n s).src = s.src ∧
    (alignEncoder n s).paceFrac = s.paceFrac ∧
    (alignEncoder n s).mains = s.mains ∧
    (alignEncoder n s).stitch = s.stitch ∧
    (alignEncoder n s).chan = s.chan ∧
    (alignEncoder n s).supply = s.supply ∧
    (alignEncoder n s).sto = s.sto ∧
    (alignEncoder n s).spread = s.spread ∧
    (alignEncoder n s).supv = s.supv ∧
    (alignEncoder n s).fb = s.fb ∧
    (alignEncoder n s).cnv = s.cnv ∧
    (alignEncoder n s).pin = s.pin ∧
    (alignEncoder n s).seam = s.seam ∧
    (alignEncoder n s).flt = s.flt ∧
    (alignEncoder n s).store = s.store ∧
    (alignEncoder n s).bak = s.bak ∧
    (alignEncoder n s).proof = s.proof := by
  unfold alignEncoder; (try dsimp only); repeat' split
  all_goals (refine ⟨?_, ?_, ?_, ?_, ?_, ?_, ?_, ?_, ?_, ?_, ?_, ?_, ?_, ?_, ?_, ?_, ?_, ?_, ?_, ?_, ?_, ?_, ?_, ?_, ?_, ?_⟩ <;> simp)

@[simp] theorem probeFails_frame (n : Fin 8) (outcome : BitVec 3) (s : State) :
    (probeFails n outcome s).pending = s.pending ∧
    (probeFails n outcome s).now = s.now ∧
    (probeFails n outcome s).free = s.free ∧
    (probeFails n outcome s).power = s.power ∧
    (probeFails n outcome s).host = s.host ∧
    (probeFails n outcome s).lat = s.lat ∧
    (probeFails n outcome s).win = s.win ∧
    (probeFails n outcome s).cfg = s.cfg ∧
    (probeFails n outcome s).boot = s.boot ∧
    (probeFails n outcome s).otp = s.otp ∧
    (probeFails n outcome s).src = s.src ∧
    (probeFails n outcome s).paceFrac = s.paceFrac ∧
    (probeFails n outcome s).mains = s.mains ∧
    (probeFails n outcome s).stitch = s.stitch ∧
    (probeFails n outcome s).chan = s.chan ∧
    (probeFails n outcome s).supply = s.supply ∧
    (probeFails n outcome s).sto = s.sto ∧
    (probeFails n outcome s).spread = s.spread ∧
    (probeFails n outcome s).supv = s.supv ∧
    (probeFails n outcome s).pin = s.pin ∧
    (probeFails n outcome s).seam = s.seam ∧
    (probeFails n outcome s).store = s.store ∧
    (probeFails n outcome s).bak = s.bak ∧
    (probeFails n outcome s).proof = s.proof := by
  unfold probeFails; (try dsimp only); repeat' split
  all_goals (refine ⟨?_, ?_, ?_, ?_, ?_, ?_, ?_, ?_, ?_, ?_, ?_, ?_, ?_, ?_, ?_, ?_, ?_, ?_, ?_, ?_, ?_, ?_, ?_, ?_⟩ <;> simp)

@[simp] theorem probeTiming_frame (n : Fin 8) (s : State) :
    (probeTiming n s).pending = s.pending ∧
    (probeTiming n s).now = s.now ∧
    (probeTiming n s).free = s.free ∧
    (probeTiming n s).power = s.power ∧
    (probeTiming n s).host = s.host ∧
    (probeTiming n s).lat = s.lat ∧
    (probeTiming n s).win = s.win ∧
    (probeTiming n s).cfg = s.cfg ∧
    (probeTiming n s).boot = s.boot ∧
    (probeTiming n s).otp = s.otp ∧
    (probeTiming n s).src = s.src ∧
    (probeTiming n s).paceFrac = s.paceFrac ∧
    (probeTiming n s).mains = s.mains ∧
    (probeTiming n s).stitch = s.stitch ∧
    (probeTiming n s).chan = s.chan ∧
    (probeTiming n s).supply = s.supply ∧
    (probeTiming n s).sto = s.sto ∧
    (probeTiming n s).spread = s.spread ∧
    (probeTiming n s).supv = s.supv ∧
    (probeTiming n s).pin = s.pin ∧
    (probeTiming n s).seam = s.seam ∧
    (probeTiming n s).store = s.store ∧
    (probeTiming n s).bak = s.bak ∧
    (probeTiming n s).proof = s.proof := by
  unfold probeTiming; (try dsimp only); repeat' split
  all_goals (refine ⟨?_, ?_, ?_, ?_, ?_, ?_, ?_, ?_, ?_, ?_, ?_, ?_, ?_, ?_, ?_, ?_, ?_, ?_, ?_, ?_, ?_, ?_, ?_, ?_⟩ <;> simp)

@[simp] theorem probeSample_frame (n : Fin 8) (d : Nat) (y : Int) (s : State) :
    (probeSample n d y s).pending = s.pending ∧
    (probeSample n d y s).now = s.now ∧
    (probeSample n d y s).free = s.free ∧
    (probeSample n d y s).power = s.power ∧
    (probeSample n d y s).host = s.host ∧
    (probeSample n d y s).lat = s.lat ∧
    (probeSample n d y s).win = s.win ∧
    (probeSample n d y s).cfg = s.cfg ∧
    (probeSample n d y s).boot = s.boot ∧
    (probeSample n d y s).otp = s.otp ∧
    (probeSample n d y s).src = s.src ∧
    (probeSample n d y s).paceFrac = s.paceFrac ∧
    (probeSample n d y s).mains = s.mains ∧
    (probeSample n d y s).stitch = s.stitch ∧
    (probeSample n d y s).chan = s.chan ∧
    (probeSample n d y s).supply = s.supply ∧
    (probeSample n d y s).sto = s.sto ∧
    (probeSample n d y s).spread = s.spread ∧
    (probeSample n d y s).supv = s.supv ∧
    (probeSample n d y s).pin = s.pin ∧
    (probeSample n d y s).seam = s.seam ∧
    (probeSample n d y s).store = s.store ∧
    (probeSample n d y s).bak = s.bak ∧
    (probeSample n d y s).proof = s.proof := by
  unfold probeSample; (try dsimp only); repeat' split
  all_goals (refine ⟨?_, ?_, ?_, ?_, ?_, ?_, ?_, ?_, ?_, ?_, ?_, ?_, ?_, ?_, ?_, ?_, ?_, ?_, ?_, ?_, ?_, ?_, ?_, ?_⟩ <;> simp)

@[simp] theorem injOpens_frame (n : Fin 8) (s : State) :
    (injOpens n s).pending = s.pending ∧
    (injOpens n s).now = s.now ∧
    (injOpens n s).free = s.free ∧
    (injOpens n s).power = s.power ∧
    (injOpens n s).host = s.host ∧
    (injOpens n s).lat = s.lat ∧
    (injOpens n s).win = s.win ∧
    (injOpens n s).cfg = s.cfg ∧
    (injOpens n s).boot = s.boot ∧
    (injOpens n s).otp = s.otp ∧
    (injOpens n s).src = s.src ∧
    (injOpens n s).paceFrac = s.paceFrac ∧
    (injOpens n s).mains = s.mains ∧
    (injOpens n s).stitch = s.stitch ∧
    (injOpens n s).chan = s.chan ∧
    (injOpens n s).supply = s.supply ∧
    (injOpens n s).sto = s.sto ∧
    (injOpens n s).spread = s.spread ∧
    (injOpens n s).supv = s.supv ∧
    (injOpens n s).fb = s.fb ∧
    (injOpens n s).cnv = s.cnv ∧
    (injOpens n s).pin = s.pin ∧
    (injOpens n s).seam = s.seam ∧
    (injOpens n s).flt = s.flt ∧
    (injOpens n s).store = s.store ∧
    (injOpens n s).bak = s.bak ∧
    (injOpens n s).proof = s.proof := by
  unfold injOpens; (try dsimp only); repeat' split
  all_goals (refine ⟨?_, ?_, ?_, ?_, ?_, ?_, ?_, ?_, ?_, ?_, ?_, ?_, ?_, ?_, ?_, ?_, ?_, ?_, ?_, ?_, ?_, ?_, ?_, ?_, ?_, ?_, ?_⟩ <;> simp)

@[simp] theorem judgeGate_frame (n : Fin 8) (s : State) :
    (judgeGate n s).pending = s.pending ∧
    (judgeGate n s).now = s.now ∧
    (judgeGate n s).free = s.free ∧
    (judgeGate n s).power = s.power ∧
    (judgeGate n s).host = s.host ∧
    (judgeGate n s).lat = s.lat ∧
    (judgeGate n s).win = s.win ∧
    (judgeGate n s).cfg = s.cfg ∧
    (judgeGate n s).boot = s.boot ∧
    (judgeGate n s).otp = s.otp ∧
    (judgeGate n s).src = s.src ∧
    (judgeGate n s).paceFrac = s.paceFrac ∧
    (judgeGate n s).mains = s.mains ∧
    (judgeGate n s).stitch = s.stitch ∧
    (judgeGate n s).chan = s.chan ∧
    (judgeGate n s).supply = s.supply ∧
    (judgeGate n s).sto = s.sto ∧
    (judgeGate n s).spread = s.spread ∧
    (judgeGate n s).supv = s.supv ∧
    (judgeGate n s).fb = s.fb ∧
    (judgeGate n s).cnv = s.cnv ∧
    (judgeGate n s).pin = s.pin ∧
    (judgeGate n s).seam = s.seam ∧
    (judgeGate n s).flt = s.flt ∧
    (judgeGate n s).store = s.store ∧
    (judgeGate n s).bak = s.bak ∧
    (judgeGate n s).proof = s.proof := by
  unfold judgeGate; (try dsimp only); repeat' split
  all_goals (refine ⟨?_, ?_, ?_, ?_, ?_, ?_, ?_, ?_, ?_, ?_, ?_, ?_, ?_, ?_, ?_, ?_, ?_, ?_, ?_, ?_, ?_, ?_, ?_, ?_, ?_, ?_, ?_⟩ <;> simp)

@[simp] theorem injToggle_frame (n : Fin 8) (s : State) :
    (injToggle n s).pending = s.pending ∧
    (injToggle n s).now = s.now ∧
    (injToggle n s).free = s.free ∧
    (injToggle n s).power = s.power ∧
    (injToggle n s).host = s.host ∧
    (injToggle n s).lat = s.lat ∧
    (injToggle n s).win = s.win ∧
    (injToggle n s).cfg = s.cfg ∧
    (injToggle n s).boot = s.boot ∧
    (injToggle n s).otp = s.otp ∧
    (injToggle n s).src = s.src ∧
    (injToggle n s).paceFrac = s.paceFrac ∧
    (injToggle n s).mains = s.mains ∧
    (injToggle n s).stitch = s.stitch ∧
    (injToggle n s).chan = s.chan ∧
    (injToggle n s).supply = s.supply ∧
    (injToggle n s).sto = s.sto ∧
    (injToggle n s).spread = s.spread ∧
    (injToggle n s).supv = s.supv ∧
    (injToggle n s).fb = s.fb ∧
    (injToggle n s).cnv = s.cnv ∧
    (injToggle n s).pin = s.pin ∧
    (injToggle n s).seam = s.seam ∧
    (injToggle n s).flt = s.flt ∧
    (injToggle n s).store = s.store ∧
    (injToggle n s).bak = s.bak ∧
    (injToggle n s).proof = s.proof := by
  unfold injToggle; (try dsimp only); repeat' split
  all_goals (refine ⟨?_, ?_, ?_, ?_, ?_, ?_, ?_, ?_, ?_, ?_, ?_, ?_, ?_, ?_, ?_, ?_, ?_, ?_, ?_, ?_, ?_, ?_, ?_, ?_, ?_, ?_, ?_⟩ <;> simp)

@[simp] theorem pushCurrent_frame (n : Fin 8) (s : State) :
    (pushCurrent n s).pending = s.pending ∧
    (pushCurrent n s).now = s.now ∧
    (pushCurrent n s).free = s.free ∧
    (pushCurrent n s).power = s.power ∧
    (pushCurrent n s).host = s.host ∧
    (pushCurrent n s).lat = s.lat ∧
    (pushCurrent n s).win = s.win ∧
    (pushCurrent n s).cfg = s.cfg ∧
    (pushCurrent n s).boot = s.boot ∧
    (pushCurrent n s).otp = s.otp ∧
    (pushCurrent n s).src = s.src ∧
    (pushCurrent n s).paceFrac = s.paceFrac ∧
    (pushCurrent n s).mains = s.mains ∧
    (pushCurrent n s).stitch = s.stitch ∧
    (pushCurrent n s).chan = s.chan ∧
    (pushCurrent n s).supply = s.supply ∧
    (pushCurrent n s).sto = s.sto ∧
    (pushCurrent n s).spread = s.spread ∧
    (pushCurrent n s).supv = s.supv ∧
    (pushCurrent n s).fb = s.fb ∧
    (pushCurrent n s).cnv = s.cnv ∧
    (pushCurrent n s).pin = s.pin ∧
    (pushCurrent n s).seam = s.seam ∧
    (pushCurrent n s).flt = s.flt ∧
    (pushCurrent n s).store = s.store ∧
    (pushCurrent n s).bak = s.bak ∧
    (pushCurrent n s).proof = s.proof := by
  unfold pushCurrent; (try dsimp only); repeat' split
  all_goals (refine ⟨?_, ?_, ?_, ?_, ?_, ?_, ?_, ?_, ?_, ?_, ?_, ?_, ?_, ?_, ?_, ?_, ?_, ?_, ?_, ?_, ?_, ?_, ?_, ?_, ?_, ?_, ?_⟩ <;> simp)

@[simp] theorem injClosed_frame (n : Fin 8) (s : State) :
    (injClosed n s).pending = s.pending ∧
    (injClosed n s).now = s.now ∧
    (injClosed n s).free = s.free ∧
    (injClosed n s).power = s.power ∧
    (injClosed n s).host = s.host ∧
    (injClosed n s).lat = s.lat ∧
    (injClosed n s).win = s.win ∧
    (injClosed n s).cfg = s.cfg ∧
    (injClosed n s).boot = s.boot ∧
    (injClosed n s).otp = s.otp ∧
    (injClosed n s).src = s.src ∧
    (injClosed n s).paceFrac = s.paceFrac ∧
    (injClosed n s).mains = s.mains ∧
    (injClosed n s).stitch = s.stitch ∧
    (injClosed n s).chan = s.chan ∧
    (injClosed n s).supply = s.supply ∧
    (injClosed n s).sto = s.sto ∧
    (injClosed n s).spread = s.spread ∧
    (injClosed n s).supv = s.supv ∧
    (injClosed n s).fb = s.fb ∧
    (injClosed n s).cnv = s.cnv ∧
    (injClosed n s).pin = s.pin ∧
    (injClosed n s).seam = s.seam ∧
    (injClosed n s).flt = s.flt ∧
    (injClosed n s).store = s.store ∧
    (injClosed n s).bak = s.bak ∧
    (injClosed n s).proof = s.proof := by
  unfold injClosed; (try dsimp only); repeat' split
  all_goals (refine ⟨?_, ?_, ?_, ?_, ?_, ?_, ?_, ?_, ?_, ?_, ?_, ?_, ?_, ?_, ?_, ?_, ?_, ?_, ?_, ?_, ?_, ?_, ?_, ?_, ?_, ?_, ?_⟩ <;> simp)

@[simp] theorem injRuns_frame (n : Fin 8) (s : State) :
    (injRuns n s).pending = s.pending ∧
    (injRuns n s).now = s.now ∧
    (injRuns n s).free = s.free ∧
    (injRuns n s).power = s.power ∧
    (injRuns n s).host = s.host ∧
    (injRuns n s).lat = s.lat ∧
    (injRuns n s).win = s.win ∧
    (injRuns n s).cfg = s.cfg ∧
    (injRuns n s).boot = s.boot ∧
    (injRuns n s).otp = s.otp ∧
    (injRuns n s).src = s.src ∧
    (injRuns n s).paceFrac = s.paceFrac ∧
    (injRuns n s).mains = s.mains ∧
    (injRuns n s).stitch = s.stitch ∧
    (injRuns n s).chan = s.chan ∧
    (injRuns n s).supply = s.supply ∧
    (injRuns n s).sto = s.sto ∧
    (injRuns n s).spread = s.spread ∧
    (injRuns n s).supv = s.supv ∧
    (injRuns n s).fb = s.fb ∧
    (injRuns n s).cnv = s.cnv ∧
    (injRuns n s).pin = s.pin ∧
    (injRuns n s).seam = s.seam ∧
    (injRuns n s).flt = s.flt ∧
    (injRuns n s).store = s.store ∧
    (injRuns n s).bak = s.bak ∧
    (injRuns n s).proof = s.proof := by
  unfold injRuns; (try dsimp only); repeat' split
  all_goals (refine ⟨?_, ?_, ?_, ?_, ?_, ?_, ?_, ?_, ?_, ?_, ?_, ?_, ?_, ?_, ?_, ?_, ?_, ?_, ?_, ?_, ?_, ?_, ?_, ?_, ?_, ?_, ?_⟩ <;> simp)

@[simp] theorem injWaits_frame (n : Fin 8) (s : State) :
    (injWaits n s).pending = s.pending ∧
    (injWaits n s).now = s.now ∧
    (injWaits n s).free = s.free ∧
    (injWaits n s).power = s.power ∧
    (injWaits n s).host = s.host ∧
    (injWaits n s).lat = s.lat ∧
    (injWaits n s).win = s.win ∧
    (injWaits n s).cfg = s.cfg ∧
    (injWaits n s).boot = s.boot ∧
    (injWaits n s).otp = s.otp ∧
    (injWaits n s).src = s.src ∧
    (injWaits n s).paceFrac = s.paceFrac ∧
    (injWaits n s).mains = s.mains ∧
    (injWaits n s).stitch = s.stitch ∧
    (injWaits n s).chan = s.chan ∧
    (injWaits n s).supply = s.supply ∧
    (injWaits n s).sto = s.sto ∧
    (injWaits n s).spread = s.spread ∧
    (injWaits n s).supv = s.supv ∧
    (injWaits n s).fb = s.fb ∧
    (injWaits n s).cnv = s.cnv ∧
    (injWaits n s).pin = s.pin ∧
    (injWaits n s).seam = s.seam ∧
    (injWaits n s).flt = s.flt ∧
    (injWaits n s).store = s.store ∧
    (injWaits n s).bak = s.bak ∧
    (injWaits n s).proof = s.proof := by
  unfold injWaits; (try dsimp only); repeat' split
  all_goals (refine ⟨?_, ?_, ?_, ?_, ?_, ?_, ?_, ?_, ?_, ?_, ?_, ?_, ?_, ?_, ?_, ?_, ?_, ?_, ?_, ?_, ?_, ?_, ?_, ?_, ?_, ?_, ?_⟩ <;> simp)

@[simp] theorem stepInjection_frame (n : Fin 8) (s : State) :
    (stepInjection n s).pending = s.pending ∧
    (stepInjection n s).now = s.now ∧
    (stepInjection n s).free = s.free ∧
    (stepInjection n s).power = s.power ∧
    (stepInjection n s).host = s.host ∧
    (stepInjection n s).lat = s.lat ∧
    (stepInjection n s).win = s.win ∧
    (stepInjection n s).cfg = s.cfg ∧
    (stepInjection n s).boot = s.boot ∧
    (stepInjection n s).otp = s.otp ∧
    (stepInjection n s).src = s.src ∧
    (stepInjection n s).paceFrac = s.paceFrac ∧
    (stepInjection n s).mains = s.mains ∧
    (stepInjection n s).stitch = s.stitch ∧
    (stepInjection n s).chan = s.chan ∧
    (stepInjection n s).supply = s.supply ∧
    (stepInjection n s).sto = s.sto ∧
    (stepInjection n s).spread = s.spread ∧
    (stepInjection n s).supv = s.supv ∧
    (stepInjection n s).fb = s.fb ∧
    (stepInjection n s).cnv = s.cnv ∧
    (stepInjection n s).pin = s.pin ∧
    (stepInjection n s).seam = s.seam ∧
    (stepInjection n s).flt = s.flt ∧
    (stepInjection n s).store = s.store ∧
    (stepInjection n s).bak = s.bak ∧
    (stepInjection n s).proof = s.proof := by
  unfold stepInjection; (try dsimp only); repeat' split
  all_goals (refine ⟨?_, ?_, ?_, ?_, ?_, ?_, ?_, ?_, ?_, ?_, ?_, ?_, ?_, ?_, ?_, ?_, ?_, ?_, ?_, ?_, ?_, ?_, ?_, ?_, ?_, ?_, ?_⟩ <;> simp)

@[simp] theorem seedInjection_frame (n : Fin 8) (s : State) :
    (seedInjection n s).pending = s.pending ∧
    (seedInjection n s).now = s.now ∧
    (seedInjection n s).free = s.free ∧
    (seedInjection n s).power = s.power ∧
    (seedInjection n s).host = s.host ∧
    (seedInjection n s).lat = s.lat ∧
    (seedInjection n s).win = s.win ∧
    (seedInjection n s).cfg = s.cfg ∧
    (seedInjection n s).boot = s.boot ∧
    (seedInjection n s).otp = s.otp ∧
    (seedInjection n s).src = s.src ∧
    (seedInjection n s).paceFrac = s.paceFrac ∧
    (seedInjection n s).mains = s.mains ∧
    (seedInjection n s).stitch = s.stitch ∧
    (seedInjection n s).chan = s.chan ∧
    (seedInjection n s).supply = s.supply ∧
    (seedInjection n s).sto = s.sto ∧
    (seedInjection n s).spread = s.spread ∧
    (seedInjection n s).supv = s.supv ∧
    (seedInjection n s).fb = s.fb ∧
    (seedInjection n s).cnv = s.cnv ∧
    (seedInjection n s).pin = s.pin ∧
    (seedInjection n s).seam = s.seam ∧
    (seedInjection n s).flt = s.flt ∧
    (seedInjection n s).store = s.store ∧
    (seedInjection n s).bak = s.bak ∧
    (seedInjection n s).proof = s.proof := by
  unfold seedInjection; (try dsimp only); repeat' split
  all_goals (refine ⟨?_, ?_, ?_, ?_, ?_, ?_, ?_, ?_, ?_, ?_, ?_, ?_, ?_, ?_, ?_, ?_, ?_, ?_, ?_, ?_, ?_, ?_, ?_, ?_, ?_, ?_, ?_⟩ <;> simp)

@[simp] theorem setInjLatch_frame (n : Fin 8) (b : Bool) (s : State) :
    (setInjLatch n b s).pending = s.pending ∧
    (setInjLatch n b s).now = s.now ∧
    (setInjLatch n b s).free = s.free ∧
    (setInjLatch n b s).power = s.power ∧
    (setInjLatch n b s).host = s.host ∧
    (setInjLatch n b s).lat = s.lat ∧
    (setInjLatch n b s).win = s.win ∧
    (setInjLatch n b s).cfg = s.cfg ∧
    (setInjLatch n b s).boot = s.boot ∧
    (setInjLatch n b s).otp = s.otp ∧
    (setInjLatch n b s).src = s.src ∧
    (setInjLatch n b s).paceFrac = s.paceFrac ∧
    (setInjLatch n b s).mains = s.mains ∧
    (setInjLatch n b s).stitch = s.stitch ∧
    (setInjLatch n b s).chan = s.chan ∧
    (setInjLatch n b s).supply = s.supply ∧
    (setInjLatch n b s).sto = s.sto ∧
    (setInjLatch n b s).spread = s.spread ∧
    (setInjLatch n b s).supv = s.supv ∧
    (setInjLatch n b s).fb = s.fb ∧
    (setInjLatch n b s).cnv = s.cnv ∧
    (setInjLatch n b s).pin = s.pin ∧
    (setInjLatch n b s).seam = s.seam ∧
    (setInjLatch n b s).flt = s.flt ∧
    (setInjLatch n b s).store = s.store ∧
    (setInjLatch n b s).bak = s.bak ∧
    (setInjLatch n b s).proof = s.proof := by
  unfold setInjLatch; (try dsimp only); repeat' split
  all_goals (refine ⟨?_, ?_, ?_, ?_, ?_, ?_, ?_, ?_, ?_, ?_, ?_, ?_, ?_, ?_, ?_, ?_, ?_, ?_, ?_, ?_, ?_, ?_, ?_, ?_, ?_, ?_, ?_⟩ <;> simp)

@[simp] theorem bemfSet_frame (n : Fin 8) (dc : Nat) (s : State) :
    (bemfSet n dc s).pending = s.pending ∧
    (bemfSet n dc s).now = s.now ∧
    (bemfSet n dc s).free = s.free ∧
    (bemfSet n dc s).power = s.power ∧
    (bemfSet n dc s).host = s.host ∧
    (bemfSet n dc s).lat = s.lat ∧
    (bemfSet n dc s).win = s.win ∧
    (bemfSet n dc s).cfg = s.cfg ∧
    (bemfSet n dc s).boot = s.boot ∧
    (bemfSet n dc s).otp = s.otp ∧
    (bemfSet n dc s).src = s.src ∧
    (bemfSet n dc s).paceFrac = s.paceFrac ∧
    (bemfSet n dc s).mains = s.mains ∧
    (bemfSet n dc s).stitch = s.stitch ∧
    (bemfSet n dc s).chan = s.chan ∧
    (bemfSet n dc s).supply = s.supply ∧
    (bemfSet n dc s).sto = s.sto ∧
    (bemfSet n dc s).spread = s.spread ∧
    (bemfSet n dc s).supv = s.supv ∧
    (bemfSet n dc s).fb = s.fb ∧
    (bemfSet n dc s).cnv = s.cnv ∧
    (bemfSet n dc s).pin = s.pin ∧
    (bemfSet n dc s).seam = s.seam ∧
    (bemfSet n dc s).flt = s.flt ∧
    (bemfSet n dc s).store = s.store ∧
    (bemfSet n dc s).bak = s.bak ∧
    (bemfSet n dc s).proof = s.proof := by
  unfold bemfSet; (try dsimp only); repeat' split
  all_goals (refine ⟨?_, ?_, ?_, ?_, ?_, ?_, ?_, ?_, ?_, ?_, ?_, ?_, ?_, ?_, ?_, ?_, ?_, ?_, ?_, ?_, ?_, ?_, ?_, ?_, ?_, ?_, ?_⟩ <;> simp)

/-! ### RunRequest -/

@[simp] theorem clearMarks_frame (n : Fin 8) (s : State) :
    (clearMarks n s).pending = s.pending ∧
    (clearMarks n s).now = s.now ∧
    (clearMarks n s).free = s.free ∧
    (clearMarks n s).power = s.power ∧
    (clearMarks n s).host = s.host ∧
    (clearMarks n s).lat = s.lat ∧
    (clearMarks n s).win = s.win ∧
    (clearMarks n s).cfg = s.cfg ∧
    (clearMarks n s).boot = s.boot ∧
    (clearMarks n s).otp = s.otp ∧
    (clearMarks n s).src = s.src ∧
    (clearMarks n s).paceFrac = s.paceFrac ∧
    (clearMarks n s).mains = s.mains ∧
    (clearMarks n s).stitch = s.stitch ∧
    (clearMarks n s).chan = s.chan ∧
    (clearMarks n s).supply = s.supply ∧
    (clearMarks n s).sto = s.sto ∧
    (clearMarks n s).spread = s.spread ∧
    (clearMarks n s).supv = s.supv ∧
    (clearMarks n s).fb = s.fb ∧
    (clearMarks n s).cnv = s.cnv ∧
    (clearMarks n s).pin = s.pin ∧
    (clearMarks n s).seam = s.seam ∧
    (clearMarks n s).flt = s.flt ∧
    (clearMarks n s).store = s.store ∧
    (clearMarks n s).bak = s.bak ∧
    (clearMarks n s).proof = s.proof := by
  unfold clearMarks; (try dsimp only); repeat' split
  all_goals (refine ⟨?_, ?_, ?_, ?_, ?_, ?_, ?_, ?_, ?_, ?_, ?_, ?_, ?_, ?_, ?_, ?_, ?_, ?_, ?_, ?_, ?_, ?_, ?_, ?_, ?_, ?_, ?_⟩ <;> simp)

@[simp] theorem startRun_frame (n : Fin 8) (s : State) :
    (startRun n s).pending = s.pending ∧
    (startRun n s).now = s.now ∧
    (startRun n s).free = s.free ∧
    (startRun n s).power = s.power ∧
    (startRun n s).host = s.host ∧
    (startRun n s).lat = s.lat ∧
    (startRun n s).win = s.win ∧
    (startRun n s).cfg = s.cfg ∧
    (startRun n s).boot = s.boot ∧
    (startRun n s).otp = s.otp ∧
    (startRun n s).src = s.src ∧
    (startRun n s).paceFrac = s.paceFrac ∧
    (startRun n s).mains = s.mains ∧
    (startRun n s).stitch = s.stitch ∧
    (startRun n s).chan = s.chan ∧
    (startRun n s).supply = s.supply ∧
    (startRun n s).sto = s.sto ∧
    (startRun n s).spread = s.spread ∧
    (startRun n s).supv = s.supv ∧
    (startRun n s).pin = s.pin ∧
    (startRun n s).seam = s.seam ∧
    (startRun n s).bak = s.bak ∧
    (startRun n s).proof = s.proof := by
  unfold startRun; (try dsimp only); repeat' split
  all_goals (refine ⟨?_, ?_, ?_, ?_, ?_, ?_, ?_, ?_, ?_, ?_, ?_, ?_, ?_, ?_, ?_, ?_, ?_, ?_, ?_, ?_, ?_, ?_, ?_⟩ <;> simp)

@[simp] theorem probeRun_frame (n : Fin 8) (s : State) :
    (probeRun n s).pending = s.pending ∧
    (probeRun n s).now = s.now ∧
    (probeRun n s).free = s.free ∧
    (probeRun n s).power = s.power ∧
    (probeRun n s).host = s.host ∧
    (probeRun n s).lat = s.lat ∧
    (probeRun n s).win = s.win ∧
    (probeRun n s).cfg = s.cfg ∧
    (probeRun n s).boot = s.boot ∧
    (probeRun n s).otp = s.otp ∧
    (probeRun n s).src = s.src ∧
    (probeRun n s).paceFrac = s.paceFrac ∧
    (probeRun n s).mains = s.mains ∧
    (probeRun n s).stitch = s.stitch ∧
    (probeRun n s).chan = s.chan ∧
    (probeRun n s).supply = s.supply ∧
    (probeRun n s).sto = s.sto ∧
    (probeRun n s).spread = s.spread ∧
    (probeRun n s).supv = s.supv ∧
    (probeRun n s).fb = s.fb ∧
    (probeRun n s).cnv = s.cnv ∧
    (probeRun n s).pin = s.pin ∧
    (probeRun n s).seam = s.seam ∧
    (probeRun n s).flt = s.flt ∧
    (probeRun n s).bak = s.bak ∧
    (probeRun n s).proof = s.proof := by
  unfold probeRun; (try dsimp only); repeat' split
  all_goals (refine ⟨?_, ?_, ?_, ?_, ?_, ?_, ?_, ?_, ?_, ?_, ?_, ?_, ?_, ?_, ?_, ?_, ?_, ?_, ?_, ?_, ?_, ?_, ?_, ?_, ?_, ?_⟩ <;> simp)

@[simp] theorem requestRun_frame (n : Fin 8) (req : Nat) (s : State) :
    (requestRun n req s).pending = s.pending ∧
    (requestRun n req s).now = s.now ∧
    (requestRun n req s).free = s.free ∧
    (requestRun n req s).power = s.power ∧
    (requestRun n req s).host = s.host ∧
    (requestRun n req s).lat = s.lat ∧
    (requestRun n req s).win = s.win ∧
    (requestRun n req s).cfg = s.cfg ∧
    (requestRun n req s).boot = s.boot ∧
    (requestRun n req s).otp = s.otp ∧
    (requestRun n req s).src = s.src ∧
    (requestRun n req s).paceFrac = s.paceFrac ∧
    (requestRun n req s).mains = s.mains ∧
    (requestRun n req s).stitch = s.stitch ∧
    (requestRun n req s).chan = s.chan ∧
    (requestRun n req s).supply = s.supply ∧
    (requestRun n req s).sto = s.sto ∧
    (requestRun n req s).spread = s.spread ∧
    (requestRun n req s).supv = s.supv ∧
    (requestRun n req s).pin = s.pin ∧
    (requestRun n req s).seam = s.seam ∧
    (requestRun n req s).bak = s.bak ∧
    (requestRun n req s).proof = s.proof := by
  unfold requestRun; (try dsimp only); repeat' split
  all_goals (refine ⟨?_, ?_, ?_, ?_, ?_, ?_, ?_, ?_, ?_, ?_, ?_, ?_, ?_, ?_, ?_, ?_, ?_, ?_, ?_, ?_, ?_, ?_, ?_⟩ <;> simp)

@[simp] theorem applyEnable_frame (n : Fin 8) (en : Bool) (s : State) :
    (applyEnable n en s).pending = s.pending ∧
    (applyEnable n en s).now = s.now ∧
    (applyEnable n en s).free = s.free ∧
    (applyEnable n en s).power = s.power ∧
    (applyEnable n en s).host = s.host ∧
    (applyEnable n en s).lat = s.lat ∧
    (applyEnable n en s).win = s.win ∧
    (applyEnable n en s).cfg = s.cfg ∧
    (applyEnable n en s).boot = s.boot ∧
    (applyEnable n en s).otp = s.otp ∧
    (applyEnable n en s).src = s.src ∧
    (applyEnable n en s).paceFrac = s.paceFrac ∧
    (applyEnable n en s).mains = s.mains ∧
    (applyEnable n en s).stitch = s.stitch ∧
    (applyEnable n en s).chan = s.chan ∧
    (applyEnable n en s).supply = s.supply ∧
    (applyEnable n en s).sto = s.sto ∧
    (applyEnable n en s).spread = s.spread ∧
    (applyEnable n en s).supv = s.supv ∧
    (applyEnable n en s).fb = s.fb ∧
    (applyEnable n en s).cnv = s.cnv ∧
    (applyEnable n en s).pin = s.pin ∧
    (applyEnable n en s).seam = s.seam ∧
    (applyEnable n en s).flt = s.flt ∧
    (applyEnable n en s).bak = s.bak ∧
    (applyEnable n en s).proof = s.proof := by
  unfold applyEnable; (try dsimp only); repeat' split
  all_goals (refine ⟨?_, ?_, ?_, ?_, ?_, ?_, ?_, ?_, ?_, ?_, ?_, ?_, ?_, ?_, ?_, ?_, ?_, ?_, ?_, ?_, ?_, ?_, ?_, ?_, ?_, ?_⟩ <;> simp)

@[simp] theorem disableNow_frame (n : Fin 8) (s : State) :
    (disableNow n s).pending = s.pending ∧
    (disableNow n s).now = s.now ∧
    (disableNow n s).free = s.free ∧
    (disableNow n s).power = s.power ∧
    (disableNow n s).host = s.host ∧
    (disableNow n s).lat = s.lat ∧
    (disableNow n s).win = s.win ∧
    (disableNow n s).cfg = s.cfg ∧
    (disableNow n s).boot = s.boot ∧
    (disableNow n s).otp = s.otp ∧
    (disableNow n s).src = s.src ∧
    (disableNow n s).paceFrac = s.paceFrac ∧
    (disableNow n s).mains = s.mains ∧
    (disableNow n s).stitch = s.stitch ∧
    (disableNow n s).chan = s.chan ∧
    (disableNow n s).supply = s.supply ∧
    (disableNow n s).sto = s.sto ∧
    (disableNow n s).spread = s.spread ∧
    (disableNow n s).supv = s.supv ∧
    (disableNow n s).fb = s.fb ∧
    (disableNow n s).cnv = s.cnv ∧
    (disableNow n s).pin = s.pin ∧
    (disableNow n s).seam = s.seam ∧
    (disableNow n s).flt = s.flt ∧
    (disableNow n s).store = s.store ∧
    (disableNow n s).bak = s.bak ∧
    (disableNow n s).proof = s.proof := by
  unfold disableNow; (try dsimp only); repeat' split
  all_goals (refine ⟨?_, ?_, ?_, ?_, ?_, ?_, ?_, ?_, ?_, ?_, ?_, ?_, ?_, ?_, ?_, ?_, ?_, ?_, ?_, ?_, ?_, ?_, ?_, ?_, ?_, ?_, ?_⟩ <;> simp)

@[simp] theorem writeEnable_frame (n : Fin 8) (en : Bool) (s : State) :
    (writeEnable n en s).pending = s.pending ∧
    (writeEnable n en s).now = s.now ∧
    (writeEnable n en s).free = s.free ∧
    (writeEnable n en s).power = s.power ∧
    (writeEnable n en s).host = s.host ∧
    (writeEnable n en s).lat = s.lat ∧
    (writeEnable n en s).win = s.win ∧
    (writeEnable n en s).cfg = s.cfg ∧
    (writeEnable n en s).boot = s.boot ∧
    (writeEnable n en s).otp = s.otp ∧
    (writeEnable n en s).src = s.src ∧
    (writeEnable n en s).paceFrac = s.paceFrac ∧
    (writeEnable n en s).mains = s.mains ∧
    (writeEnable n en s).stitch = s.stitch ∧
    (writeEnable n en s).chan = s.chan ∧
    (writeEnable n en s).supply = s.supply ∧
    (writeEnable n en s).sto = s.sto ∧
    (writeEnable n en s).spread = s.spread ∧
    (writeEnable n en s).supv = s.supv ∧
    (writeEnable n en s).fb = s.fb ∧
    (writeEnable n en s).cnv = s.cnv ∧
    (writeEnable n en s).pin = s.pin ∧
    (writeEnable n en s).seam = s.seam ∧
    (writeEnable n en s).flt = s.flt ∧
    (writeEnable n en s).bak = s.bak ∧
    (writeEnable n en s).proof = s.proof := by
  unfold writeEnable; (try dsimp only); repeat' split
  all_goals (refine ⟨?_, ?_, ?_, ?_, ?_, ?_, ?_, ?_, ?_, ?_, ?_, ?_, ?_, ?_, ?_, ?_, ?_, ?_, ?_, ?_, ?_, ?_, ?_, ?_, ?_, ?_⟩ <;> simp)

/-! ### Converters -/

@[simp] theorem countRes_frame (k : Nat) (s : State) :
    (countRes k s).pending = s.pending ∧
    (countRes k s).now = s.now ∧
    (countRes k s).free = s.free ∧
    (countRes k s).power = s.power ∧
    (countRes k s).host = s.host ∧
    (countRes k s).lat = s.lat ∧
    (countRes k s).win = s.win ∧
    (countRes k s).cfg = s.cfg ∧
    (countRes k s).boot = s.boot ∧
    (countRes k s).otp = s.otp ∧
    (countRes k s).src = s.src ∧
    (countRes k s).paceFrac = s.paceFrac ∧
    (countRes k s).mains = s.mains ∧
    (countRes k s).stitch = s.stitch ∧
    (countRes k s).axes = s.axes ∧
    (countRes k s).chan = s.chan ∧
    (countRes k s).supply = s.supply ∧
    (countRes k s).sto = s.sto ∧
    (countRes k s).spread = s.spread ∧
    (countRes k s).supv = s.supv ∧
    (countRes k s).fb = s.fb ∧
    (countRes k s).pin = s.pin ∧
    (countRes k s).seam = s.seam ∧
    (countRes k s).flt = s.flt ∧
    (countRes k s).store = s.store ∧
    (countRes k s).bak = s.bak ∧
    (countRes k s).proof = s.proof := by
  unfold countRes; (try dsimp only); repeat' split
  all_goals (refine ⟨?_, ?_, ?_, ?_, ?_, ?_, ?_, ?_, ?_, ?_, ?_, ?_, ?_, ?_, ?_, ?_, ?_, ?_, ?_, ?_, ?_, ?_, ?_, ?_, ?_, ?_, ?_⟩ <;> simp)

@[simp] theorem countSkip_frame (j : Fin 16) (s : State) :
    (countSkip j s).pending = s.pending ∧
    (countSkip j s).now = s.now ∧
    (countSkip j s).free = s.free ∧
    (countSkip j s).power = s.power ∧
    (countSkip j s).host = s.host ∧
    (countSkip j s).lat = s.lat ∧
    (countSkip j s).win = s.win ∧
    (countSkip j s).cfg = s.cfg ∧
    (countSkip j s).boot = s.boot ∧
    (countSkip j s).otp = s.otp ∧
    (countSkip j s).src = s.src ∧
    (countSkip j s).paceFrac = s.paceFrac ∧
    (countSkip j s).mains = s.mains ∧
    (countSkip j s).stitch = s.stitch ∧
    (countSkip j s).axes = s.axes ∧
    (countSkip j s).chan = s.chan ∧
    (countSkip j s).supply = s.supply ∧
    (countSkip j s).sto = s.sto ∧
    (countSkip j s).spread = s.spread ∧
    (countSkip j s).supv = s.supv ∧
    (countSkip j s).fb = s.fb ∧
    (countSkip j s).pin = s.pin ∧
    (countSkip j s).seam = s.seam ∧
    (countSkip j s).flt = s.flt ∧
    (countSkip j s).store = s.store ∧
    (countSkip j s).bak = s.bak ∧
    (countSkip j s).proof = s.proof := by
  unfold countSkip; (try dsimp only); repeat' split
  all_goals (refine ⟨?_, ?_, ?_, ?_, ?_, ?_, ?_, ?_, ?_, ?_, ?_, ?_, ?_, ?_, ?_, ?_, ?_, ?_, ?_, ?_, ?_, ?_, ?_, ?_, ?_, ?_, ?_⟩ <;> simp)

@[simp] theorem takeBackSkip_frame (j : Fin 16) (flag : Bool) (s : State) :
    (takeBackSkip j flag s).pending = s.pending ∧
    (takeBackSkip j flag s).now = s.now ∧
    (takeBackSkip j flag s).free = s.free ∧
    (takeBackSkip j flag s).power = s.power ∧
    (takeBackSkip j flag s).host = s.host ∧
    (takeBackSkip j flag s).lat = s.lat ∧
    (takeBackSkip j flag s).win = s.win ∧
    (takeBackSkip j flag s).cfg = s.cfg ∧
    (takeBackSkip j flag s).boot = s.boot ∧
    (takeBackSkip j flag s).otp = s.otp ∧
    (takeBackSkip j flag s).src = s.src ∧
    (takeBackSkip j flag s).paceFrac = s.paceFrac ∧
    (takeBackSkip j flag s).mains = s.mains ∧
    (takeBackSkip j flag s).stitch = s.stitch ∧
    (takeBackSkip j flag s).axes = s.axes ∧
    (takeBackSkip j flag s).chan = s.chan ∧
    (takeBackSkip j flag s).supply = s.supply ∧
    (takeBackSkip j flag s).sto = s.sto ∧
    (takeBackSkip j flag s).spread = s.spread ∧
    (takeBackSkip j flag s).supv = s.supv ∧
    (takeBackSkip j flag s).fb = s.fb ∧
    (takeBackSkip j flag s).pin = s.pin ∧
    (takeBackSkip j flag s).seam = s.seam ∧
    (takeBackSkip j flag s).flt = s.flt ∧
    (takeBackSkip j flag s).store = s.store ∧
    (takeBackSkip j flag s).bak = s.bak ∧
    (takeBackSkip j flag s).proof = s.proof := by
  unfold takeBackSkip; (try dsimp only); repeat' split
  all_goals (refine ⟨?_, ?_, ?_, ?_, ?_, ?_, ?_, ?_, ?_, ?_, ?_, ?_, ?_, ?_, ?_, ?_, ?_, ?_, ?_, ?_, ?_, ?_, ?_, ?_, ?_, ?_, ?_⟩ <;> simp)

@[simp] theorem startSlot_frame (j : Fin 16) (seq entry : Nat) (inputs : List (Fin 8)) (irq : Bool) (start : Nat) (lead : Option Arrival) (s : State) :
    (startSlot j seq entry inputs irq start lead s).pending = s.pending ∧
    (startSlot j seq entry inputs irq start lead s).now = s.now ∧
    (startSlot j seq entry inputs irq start lead s).free = s.free ∧
    (startSlot j seq entry inputs irq start lead s).power = s.power ∧
    (startSlot j seq entry inputs irq start lead s).host = s.host ∧
    (startSlot j seq entry inputs irq start lead s).lat = s.lat ∧
    (startSlot j seq entry inputs irq start lead s).win = s.win ∧
    (startSlot j seq entry inputs irq start lead s).cfg = s.cfg ∧
    (startSlot j seq entry inputs irq start lead s).boot = s.boot ∧
    (startSlot j seq entry inputs irq start lead s).otp = s.otp ∧
    (startSlot j seq entry inputs irq start lead s).src = s.src ∧
    (startSlot j seq entry inputs irq start lead s).paceFrac = s.paceFrac ∧
    (startSlot j seq entry inputs irq start lead s).mains = s.mains ∧
    (startSlot j seq entry inputs irq start lead s).stitch = s.stitch ∧
    (startSlot j seq entry inputs irq start lead s).axes = s.axes ∧
    (startSlot j seq entry inputs irq start lead s).chan = s.chan ∧
    (startSlot j seq entry inputs irq start lead s).supply = s.supply ∧
    (startSlot j seq entry inputs irq start lead s).sto = s.sto ∧
    (startSlot j seq entry inputs irq start lead s).spread = s.spread ∧
    (startSlot j seq entry inputs irq start lead s).supv = s.supv ∧
    (startSlot j seq entry inputs irq start lead s).fb = s.fb ∧
    (startSlot j seq entry inputs irq start lead s).pin = s.pin ∧
    (startSlot j seq entry inputs irq start lead s).seam = s.seam ∧
    (startSlot j seq entry inputs irq start lead s).flt = s.flt ∧
    (startSlot j seq entry inputs irq start lead s).store = s.store ∧
    (startSlot j seq entry inputs irq start lead s).bak = s.bak ∧
    (startSlot j seq entry inputs irq start lead s).proof = s.proof := by
  unfold startSlot; (try dsimp only); repeat' split
  all_goals (refine ⟨?_, ?_, ?_, ?_, ?_, ?_, ?_, ?_, ?_, ?_, ?_, ?_, ?_, ?_, ?_, ?_, ?_, ?_, ?_, ?_, ?_, ?_, ?_, ?_, ?_, ?_, ?_⟩ <;> simp)

@[simp] theorem beginSequence_frame (j : Fin 16) (q start : Nat) (lead : Option Arrival) (s : State) :
    (beginSequence j q start lead s).pending = s.pending ∧
    (beginSequence j q start lead s).now = s.now ∧
    (beginSequence j q start lead s).free = s.free ∧
    (beginSequence j q start lead s).power = s.power ∧
    (beginSequence j q start lead s).host = s.host ∧
    (beginSequence j q start lead s).lat = s.lat ∧
    (beginSequence j q start lead s).win = s.win ∧
    (beginSequence j q start lead s).cfg = s.cfg ∧
    (beginSequence j q start lead s).boot = s.boot ∧
    (beginSequence j q start lead s).otp = s.otp ∧
    (beginSequence j q start lead s).src = s.src ∧
    (beginSequence j q start lead s).paceFrac = s.paceFrac ∧
    (beginSequence j q start lead s).mains = s.mains ∧
    (beginSequence j q start lead s).stitch = s.stitch ∧
    (beginSequence j q start lead s).axes = s.axes ∧
    (beginSequence j q start lead s).chan = s.chan ∧
    (beginSequence j q start lead s).supply = s.supply ∧
    (beginSequence j q start lead s).sto = s.sto ∧
    (beginSequence j q start lead s).spread = s.spread ∧
    (beginSequence j q start lead s).supv = s.supv ∧
    (beginSequence j q start lead s).fb = s.fb ∧
    (beginSequence j q start lead s).pin = s.pin ∧
    (beginSequence j q start lead s).seam = s.seam ∧
    (beginSequence j q start lead s).flt = s.flt ∧
    (beginSequence j q start lead s).store = s.store ∧
    (beginSequence j q start lead s).bak = s.bak ∧
    (beginSequence j q start lead s).proof = s.proof := by
  unfold beginSequence; (try dsimp only); repeat' split
  all_goals (refine ⟨?_, ?_, ?_, ?_, ?_, ?_, ?_, ?_, ?_, ?_, ?_, ?_, ?_, ?_, ?_, ?_, ?_, ?_, ?_, ?_, ?_, ?_, ?_, ?_, ?_, ?_, ?_⟩ <;> simp)

@[simp] theorem startPending_frame (j : Fin 16) (start : Nat) (l : List PendStart) (s : State) :
    (startPending j start l s).pending = s.pending ∧
    (startPending j start l s).now = s.now ∧
    (startPending j start l s).free = s.free ∧
    (startPending j start l s).power = s.power ∧
    (startPending j start l s).host = s.host ∧
    (startPending j start l s).lat = s.lat ∧
    (startPending j start l s).win = s.win ∧
    (startPending j start l s).cfg = s.cfg ∧
    (startPending j start l s).boot = s.boot ∧
    (startPending j start l s).otp = s.otp ∧
    (startPending j start l s).src = s.src ∧
    (startPending j start l s).paceFrac = s.paceFrac ∧
    (startPending j start l s).mains = s.mains ∧
    (startPending j start l s).stitch = s.stitch ∧
    (startPending j start l s).axes = s.axes ∧
    (startPending j start l s).chan = s.chan ∧
    (startPending j start l s).supply = s.supply ∧
    (startPending j start l s).sto = s.sto ∧
    (startPending j start l s).spread = s.spread ∧
    (startPending j start l s).supv = s.supv ∧
    (startPending j start l s).fb = s.fb ∧
    (startPending j start l s).pin = s.pin ∧
    (startPending j start l s).seam = s.seam ∧
    (startPending j start l s).flt = s.flt ∧
    (startPending j start l s).store = s.store ∧
    (startPending j start l s).bak = s.bak ∧
    (startPending j start l s).proof = s.proof := by
  induction l generalizing s with
  | nil => simp [startPending]
  | cons q qs ih => simp only [startPending]; split <;> simp [ih]

@[simp] theorem queueStart_frame (j : Fin 16) (x : PendStart) (s : State) :
    (queueStart j x s).pending = s.pending ∧
    (queueStart j x s).now = s.now ∧
    (queueStart j x s).free = s.free ∧
    (queueStart j x s).power = s.power ∧
    (queueStart j x s).host = s.host ∧
    (queueStart j x s).lat = s.lat ∧
    (queueStart j x s).win = s.win ∧
    (queueStart j x s).cfg = s.cfg ∧
    (queueStart j x s).boot = s.boot ∧
    (queueStart j x s).otp = s.otp ∧
    (queueStart j x s).src = s.src ∧
    (queueStart j x s).paceFrac = s.paceFrac ∧
    (queueStart j x s).mains = s.mains ∧
    (queueStart j x s).stitch = s.stitch ∧
    (queueStart j x s).axes = s.axes ∧
    (queueStart j x s).chan = s.chan ∧
    (queueStart j x s).supply = s.supply ∧
    (queueStart j x s).sto = s.sto ∧
    (queueStart j x s).spread = s.spread ∧
    (queueStart j x s).supv = s.supv ∧
    (queueStart j x s).fb = s.fb ∧
    (queueStart j x s).pin = s.pin ∧
    (queueStart j x s).seam = s.seam ∧
    (queueStart j x s).flt = s.flt ∧
    (queueStart j x s).store = s.store ∧
    (queueStart j x s).bak = s.bak ∧
    (queueStart j x s).proof = s.proof := by
  unfold queueStart; (try dsimp only); repeat' split
  all_goals (refine ⟨?_, ?_, ?_, ?_, ?_, ?_, ?_, ?_, ?_, ?_, ?_, ?_, ?_, ?_, ?_, ?_, ?_, ?_, ?_, ?_, ?_, ?_, ?_, ?_, ?_, ?_, ?_⟩ <;> simp)

@[simp] theorem giveWay_frame (j : Fin 16) (r : SarRun) (lead : Arrival) (s : State) :
    (giveWay j r lead s).pending = s.pending ∧
    (giveWay j r lead s).now = s.now ∧
    (giveWay j r lead s).free = s.free ∧
    (giveWay j r lead s).power = s.power ∧
    (giveWay j r lead s).host = s.host ∧
    (giveWay j r lead s).lat = s.lat ∧
    (giveWay j r lead s).win = s.win ∧
    (giveWay j r lead s).cfg = s.cfg ∧
    (giveWay j r lead s).boot = s.boot ∧
    (giveWay j r lead s).otp = s.otp ∧
    (giveWay j r lead s).src = s.src ∧
    (giveWay j r lead s).paceFrac = s.paceFrac ∧
    (giveWay j r lead s).mains = s.mains ∧
    (giveWay j r lead s).stitch = s.stitch ∧
    (giveWay j r lead s).axes = s.axes ∧
    (giveWay j r lead s).chan = s.chan ∧
    (giveWay j r lead s).supply = s.supply ∧
    (giveWay j r lead s).sto = s.sto ∧
    (giveWay j r lead s).spread = s.spread ∧
    (giveWay j r lead s).supv = s.supv ∧
    (giveWay j r lead s).fb = s.fb ∧
    (giveWay j r lead s).pin = s.pin ∧
    (giveWay j r lead s).seam = s.seam ∧
    (giveWay j r lead s).flt = s.flt ∧
    (giveWay j r lead s).store = s.store ∧
    (giveWay j r lead s).bak = s.bak ∧
    (giveWay j r lead s).proof = s.proof := by
  unfold giveWay; (try dsimp only); repeat' split
  all_goals (refine ⟨?_, ?_, ?_, ?_, ?_, ?_, ?_, ?_, ?_, ?_, ?_, ?_, ?_, ?_, ?_, ?_, ?_, ?_, ?_, ?_, ?_, ?_, ?_, ?_, ?_, ?_, ?_⟩ <;> simp)

@[simp] theorem convStart_frame (j : Fin 16) (q : Nat) (a : Arrival) (s : State) :
    (convStart j q a s).pending = s.pending ∧
    (convStart j q a s).now = s.now ∧
    (convStart j q a s).free = s.free ∧
    (convStart j q a s).power = s.power ∧
    (convStart j q a s).host = s.host ∧
    (convStart j q a s).lat = s.lat ∧
    (convStart j q a s).win = s.win ∧
    (convStart j q a s).cfg = s.cfg ∧
    (convStart j q a s).boot = s.boot ∧
    (convStart j q a s).otp = s.otp ∧
    (convStart j q a s).src = s.src ∧
    (convStart j q a s).paceFrac = s.paceFrac ∧
    (convStart j q a s).mains = s.mains ∧
    (convStart j q a s).stitch = s.stitch ∧
    (convStart j q a s).axes = s.axes ∧
    (convStart j q a s).chan = s.chan ∧
    (convStart j q a s).supply = s.supply ∧
    (convStart j q a s).sto = s.sto ∧
    (convStart j q a s).spread = s.spread ∧
    (convStart j q a s).supv = s.supv ∧
    (convStart j q a s).fb = s.fb ∧
    (convStart j q a s).pin = s.pin ∧
    (convStart j q a s).seam = s.seam ∧
    (convStart j q a s).flt = s.flt ∧
    (convStart j q a s).store = s.store ∧
    (convStart j q a s).bak = s.bak ∧
    (convStart j q a s).proof = s.proof := by
  unfold convStart; (try dsimp only); repeat' split
  all_goals (refine ⟨?_, ?_, ?_, ?_, ?_, ?_, ?_, ?_, ?_, ?_, ?_, ?_, ?_, ?_, ?_, ?_, ?_, ?_, ?_, ?_, ?_, ?_, ?_, ?_, ?_, ?_, ?_⟩ <;> simp)

@[simp] theorem triggerSequence_frame (q : Nat) (a : Arrival) (s : State) :
    (triggerSequence q a s).pending = s.pending ∧
    (triggerSequence q a s).now = s.now ∧
    (triggerSequence q a s).free = s.free ∧
    (triggerSequence q a s).power = s.power ∧
    (triggerSequence q a s).host = s.host ∧
    (triggerSequence q a s).lat = s.lat ∧
    (triggerSequence q a s).win = s.win ∧
    (triggerSequence q a s).cfg = s.cfg ∧
    (triggerSequence q a s).boot = s.boot ∧
    (triggerSequence q a s).otp = s.otp ∧
    (triggerSequence q a s).src = s.src ∧
    (triggerSequence q a s).paceFrac = s.paceFrac ∧
    (triggerSequence q a s).mains = s.mains ∧
    (triggerSequence q a s).stitch = s.stitch ∧
    (triggerSequence q a s).axes = s.axes ∧
    (triggerSequence q a s).chan = s.chan ∧
    (triggerSequence q a s).supply = s.supply ∧
    (triggerSequence q a s).sto = s.sto ∧
    (triggerSequence q a s).spread = s.spread ∧
    (triggerSequence q a s).supv = s.supv ∧
    (triggerSequence q a s).fb = s.fb ∧
    (triggerSequence q a s).pin = s.pin ∧
    (triggerSequence q a s).seam = s.seam ∧
    (triggerSequence q a s).flt = s.flt ∧
    (triggerSequence q a s).store = s.store ∧
    (triggerSequence q a s).bak = s.bak ∧
    (triggerSequence q a s).proof = s.proof := by
  unfold triggerSequence; (try dsimp only); repeat' split
  all_goals (refine ⟨?_, ?_, ?_, ?_, ?_, ?_, ?_, ?_, ?_, ?_, ?_, ?_, ?_, ?_, ?_, ?_, ?_, ?_, ?_, ?_, ?_, ?_, ?_, ?_, ?_, ?_, ?_⟩ <;> simp)

@[simp] theorem dcLinkResult_frame (n : Fin 8) (y : BitVec 12) (clamped : Bool) (s : State) :
    (dcLinkResult n y clamped s).pending = s.pending ∧
    (dcLinkResult n y clamped s).now = s.now ∧
    (dcLinkResult n y clamped s).free = s.free ∧
    (dcLinkResult n y clamped s).power = s.power ∧
    (dcLinkResult n y clamped s).host = s.host ∧
    (dcLinkResult n y clamped s).lat = s.lat ∧
    (dcLinkResult n y clamped s).win = s.win ∧
    (dcLinkResult n y clamped s).cfg = s.cfg ∧
    (dcLinkResult n y clamped s).boot = s.boot ∧
    (dcLinkResult n y clamped s).otp = s.otp ∧
    (dcLinkResult n y clamped s).src = s.src ∧
    (dcLinkResult n y clamped s).paceFrac = s.paceFrac ∧
    (dcLinkResult n y clamped s).mains = s.mains ∧
    (dcLinkResult n y clamped s).stitch = s.stitch ∧
    (dcLinkResult n y clamped s).chan = s.chan ∧
    (dcLinkResult n y clamped s).supply = s.supply ∧
    (dcLinkResult n y clamped s).sto = s.sto ∧
    (dcLinkResult n y clamped s).spread = s.spread ∧
    (dcLinkResult n y clamped s).supv = s.supv ∧
    (dcLinkResult n y clamped s).pin = s.pin ∧
    (dcLinkResult n y clamped s).seam = s.seam ∧
    (dcLinkResult n y clamped s).bak = s.bak ∧
    (dcLinkResult n y clamped s).proof = s.proof := by
  unfold dcLinkResult; (try dsimp only); repeat' split
  all_goals (refine ⟨?_, ?_, ?_, ?_, ?_, ?_, ?_, ?_, ?_, ?_, ?_, ?_, ?_, ?_, ?_, ?_, ?_, ?_, ?_, ?_, ?_, ?_, ?_⟩ <;> simp)

@[simp] theorem commandResult_frame (j : Fin 16) (i : Nat) (y : BitVec 12) (s : State) :
    (commandResult j i y s).pending = s.pending ∧
    (commandResult j i y s).now = s.now ∧
    (commandResult j i y s).free = s.free ∧
    (commandResult j i y s).power = s.power ∧
    (commandResult j i y s).host = s.host ∧
    (commandResult j i y s).lat = s.lat ∧
    (commandResult j i y s).win = s.win ∧
    (commandResult j i y s).cfg = s.cfg ∧
    (commandResult j i y s).boot = s.boot ∧
    (commandResult j i y s).otp = s.otp ∧
    (commandResult j i y s).src = s.src ∧
    (commandResult j i y s).paceFrac = s.paceFrac ∧
    (commandResult j i y s).mains = s.mains ∧
    (commandResult j i y s).stitch = s.stitch ∧
    (commandResult j i y s).chan = s.chan ∧
    (commandResult j i y s).supply = s.supply ∧
    (commandResult j i y s).sto = s.sto ∧
    (commandResult j i y s).spread = s.spread ∧
    (commandResult j i y s).supv = s.supv ∧
    (commandResult j i y s).fb = s.fb ∧
    (commandResult j i y s).cnv = s.cnv ∧
    (commandResult j i y s).pin = s.pin ∧
    (commandResult j i y s).seam = s.seam ∧
    (commandResult j i y s).flt = s.flt ∧
    (commandResult j i y s).store = s.store ∧
    (commandResult j i y s).bak = s.bak ∧
    (commandResult j i y s).proof = s.proof := by
  unfold commandResult; (try dsimp only); repeat' split
  all_goals simp [ite_pending, ite_now, ite_free, ite_power, ite_host, ite_lat, ite_win, ite_cfg, ite_boot, ite_otp, ite_src, ite_paceFrac, ite_mains, ite_stitch, ite_axes, ite_chan, ite_supply, ite_sto, ite_spread, ite_supv, ite_fb, ite_cnv, ite_pin, ite_seam, ite_flt, ite_store, ite_bak, ite_proof]

@[simp] theorem bemfResult_frame (j : Fin 16) (r : SarRun) (y : BitVec 12) (s : State) :
    (bemfResult j r y s).pending = s.pending ∧
    (bemfResult j r y s).now = s.now ∧
    (bemfResult j r y s).free = s.free ∧
    (bemfResult j r y s).power = s.power ∧
    (bemfResult j r y s).host = s.host ∧
    (bemfResult j r y s).lat = s.lat ∧
    (bemfResult j r y s).win = s.win ∧
    (bemfResult j r y s).cfg = s.cfg ∧
    (bemfResult j r y s).boot = s.boot ∧
    (bemfResult j r y s).otp = s.otp ∧
    (bemfResult j r y s).src = s.src ∧
    (bemfResult j r y s).paceFrac = s.paceFrac ∧
    (bemfResult j r y s).mains = s.mains ∧
    (bemfResult j r y s).stitch = s.stitch ∧
    (bemfResult j r y s).chan = s.chan ∧
    (bemfResult j r y s).supply = s.supply ∧
    (bemfResult j r y s).sto = s.sto ∧
    (bemfResult j r y s).spread = s.spread ∧
    (bemfResult j r y s).supv = s.supv ∧
    (bemfResult j r y s).fb = s.fb ∧
    (bemfResult j r y s).cnv = s.cnv ∧
    (bemfResult j r y s).pin = s.pin ∧
    (bemfResult j r y s).seam = s.seam ∧
    (bemfResult j r y s).flt = s.flt ∧
    (bemfResult j r y s).store = s.store ∧
    (bemfResult j r y s).bak = s.bak ∧
    (bemfResult j r y s).proof = s.proof := by
  unfold bemfResult; (try dsimp only); repeat' split
  all_goals (refine ⟨?_, ?_, ?_, ?_, ?_, ?_, ?_, ?_, ?_, ?_, ?_, ?_, ?_, ?_, ?_, ?_, ?_, ?_, ?_, ?_, ?_, ?_, ?_, ?_, ?_, ?_, ?_⟩ <;> simp)

@[simp] theorem mainsResult_frame (q : Nat) (y : BitVec 12) (s : State) :
    (mainsResult q y s).pending = s.pending ∧
    (mainsResult q y s).now = s.now ∧
    (mainsResult q y s).free = s.free ∧
    (mainsResult q y s).power = s.power ∧
    (mainsResult q y s).host = s.host ∧
    (mainsResult q y s).lat = s.lat ∧
    (mainsResult q y s).win = s.win ∧
    (mainsResult q y s).cfg = s.cfg ∧
    (mainsResult q y s).boot = s.boot ∧
    (mainsResult q y s).otp = s.otp ∧
    (mainsResult q y s).paceFrac = s.paceFrac ∧
    (mainsResult q y s).stitch = s.stitch ∧
    (mainsResult q y s).axes = s.axes ∧
    (mainsResult q y s).chan = s.chan ∧
    (mainsResult q y s).supply = s.supply ∧
    (mainsResult q y s).sto = s.sto ∧
    (mainsResult q y s).spread = s.spread ∧
    (mainsResult q y s).supv = s.supv ∧
    (mainsResult q y s).fb = s.fb ∧
    (mainsResult q y s).cnv = s.cnv ∧
    (mainsResult q y s).pin = s.pin ∧
    (mainsResult q y s).seam = s.seam ∧
    (mainsResult q y s).flt = s.flt ∧
    (mainsResult q y s).store = s.store ∧
    (mainsResult q y s).bak = s.bak ∧
    (mainsResult q y s).proof = s.proof := by
  unfold mainsResult; (try dsimp only); repeat' split
  all_goals (refine ⟨?_, ?_, ?_, ?_, ?_, ?_, ?_, ?_, ?_, ?_, ?_, ?_, ?_, ?_, ?_, ?_, ?_, ?_, ?_, ?_, ?_, ?_, ?_, ?_, ?_, ?_⟩ <;> simp)

@[simp] theorem testAfter_frame (u v : TestUnit) (s : State) :
    (testAfter u v s).pending = s.pending ∧
    (testAfter u v s).now = s.now ∧
    (testAfter u v s).free = s.free ∧
    (testAfter u v s).power = s.power ∧
    (testAfter u v s).host = s.host ∧
    (testAfter u v s).lat = s.lat ∧
    (testAfter u v s).win = s.win ∧
    (testAfter u v s).cfg = s.cfg ∧
    (testAfter u v s).boot = s.boot ∧
    (testAfter u v s).otp = s.otp ∧
    (testAfter u v s).src = s.src ∧
    (testAfter u v s).paceFrac = s.paceFrac ∧
    (testAfter u v s).mains = s.mains ∧
    (testAfter u v s).stitch = s.stitch ∧
    (testAfter u v s).axes = s.axes ∧
    (testAfter u v s).chan = s.chan ∧
    (testAfter u v s).supply = s.supply ∧
    (testAfter u v s).sto = s.sto ∧
    (testAfter u v s).spread = s.spread ∧
    (testAfter u v s).supv = s.supv ∧
    (testAfter u v s).fb = s.fb ∧
    (testAfter u v s).cnv = s.cnv ∧
    (testAfter u v s).pin = s.pin ∧
    (testAfter u v s).seam = s.seam ∧
    (testAfter u v s).store = s.store ∧
    (testAfter u v s).bak = s.bak ∧
    (testAfter u v s).proof = s.proof := by
  unfold testAfter; (try dsimp only); repeat' split
  all_goals (refine ⟨?_, ?_, ?_, ?_, ?_, ?_, ?_, ?_, ?_, ?_, ?_, ?_, ?_, ?_, ?_, ?_, ?_, ?_, ?_, ?_, ?_, ?_, ?_, ?_, ?_, ?_, ?_⟩ <;> simp)

@[simp] theorem storeWitness_frame (j : Fin 16) (w : WitSlot) (start : Nat) (rawW : BitVec 12) (s : State) :
    (storeWitness j w start rawW s).pending = s.pending ∧
    (storeWitness j w start rawW s).now = s.now ∧
    (storeWitness j w start rawW s).free = s.free ∧
    (storeWitness j w start rawW s).power = s.power ∧
    (storeWitness j w start rawW s).host = s.host ∧
    (storeWitness j w start rawW s).lat = s.lat ∧
    (storeWitness j w start rawW s).win = s.win ∧
    (storeWitness j w start rawW s).cfg = s.cfg ∧
    (storeWitness j w start rawW s).boot = s.boot ∧
    (storeWitness j w start rawW s).otp = s.otp ∧
    (storeWitness j w start rawW s).src = s.src ∧
    (storeWitness j w start rawW s).paceFrac = s.paceFrac ∧
    (storeWitness j w start rawW s).mains = s.mains ∧
    (storeWitness j w start rawW s).stitch = s.stitch ∧
    (storeWitness j w start rawW s).axes = s.axes ∧
    (storeWitness j w start rawW s).chan = s.chan ∧
    (storeWitness j w start rawW s).supply = s.supply ∧
    (storeWitness j w start rawW s).sto = s.sto ∧
    (storeWitness j w start rawW s).spread = s.spread ∧
    (storeWitness j w start rawW s).supv = s.supv ∧
    (storeWitness j w start rawW s).fb = s.fb ∧
    (storeWitness j w start rawW s).pin = s.pin ∧
    (storeWitness j w start rawW s).seam = s.seam ∧
    (storeWitness j w start rawW s).flt = s.flt ∧
    (storeWitness j w start rawW s).store = s.store ∧
    (storeWitness j w start rawW s).bak = s.bak ∧
    (storeWitness j w start rawW s).proof = s.proof := by
  unfold storeWitness; (try dsimp only); repeat' split
  all_goals (refine ⟨?_, ?_, ?_, ?_, ?_, ?_, ?_, ?_, ?_, ?_, ?_, ?_, ?_, ?_, ?_, ?_, ?_, ?_, ?_, ?_, ?_, ?_, ?_, ?_, ?_, ?_, ?_⟩ <;> simp)

@[simp] theorem witnessResult_frame (j : Fin 16) (w : WitSlot) (y : BitVec 12) (rawW : BitVec 12) (s : State) :
    (witnessResult j w y rawW s).pending = s.pending ∧
    (witnessResult j w y rawW s).now = s.now ∧
    (witnessResult j w y rawW s).free = s.free ∧
    (witnessResult j w y rawW s).power = s.power ∧
    (witnessResult j w y rawW s).host = s.host ∧
    (witnessResult j w y rawW s).lat = s.lat ∧
    (witnessResult j w y rawW s).win = s.win ∧
    (witnessResult j w y rawW s).cfg = s.cfg ∧
    (witnessResult j w y rawW s).boot = s.boot ∧
    (witnessResult j w y rawW s).otp = s.otp ∧
    (witnessResult j w y rawW s).src = s.src ∧
    (witnessResult j w y rawW s).paceFrac = s.paceFrac ∧
    (witnessResult j w y rawW s).mains = s.mains ∧
    (witnessResult j w y rawW s).stitch = s.stitch ∧
    (witnessResult j w y rawW s).axes = s.axes ∧
    (witnessResult j w y rawW s).chan = s.chan ∧
    (witnessResult j w y rawW s).supply = s.supply ∧
    (witnessResult j w y rawW s).sto = s.sto ∧
    (witnessResult j w y rawW s).spread = s.spread ∧
    (witnessResult j w y rawW s).supv = s.supv ∧
    (witnessResult j w y rawW s).pin = s.pin ∧
    (witnessResult j w y rawW s).seam = s.seam ∧
    (witnessResult j w y rawW s).store = s.store ∧
    (witnessResult j w y rawW s).bak = s.bak ∧
    (witnessResult j w y rawW s).proof = s.proof := by
  unfold witnessResult; (try dsimp only); repeat' split
  all_goals (refine ⟨?_, ?_, ?_, ?_, ?_, ?_, ?_, ?_, ?_, ?_, ?_, ?_, ?_, ?_, ?_, ?_, ?_, ?_, ?_, ?_, ?_, ?_, ?_, ?_, ?_⟩ <;> simp)

@[simp] theorem pairResult_frame (j : Fin 16) (r : SarRes) (y : BitVec 12) (s : State) :
    (pairResult j r y s).pending = s.pending ∧
    (pairResult j r y s).now = s.now ∧
    (pairResult j r y s).free = s.free ∧
    (pairResult j r y s).power = s.power ∧
    (pairResult j r y s).host = s.host ∧
    (pairResult j r y s).lat = s.lat ∧
    (pairResult j r y s).win = s.win ∧
    (pairResult j r y s).cfg = s.cfg ∧
    (pairResult j r y s).boot = s.boot ∧
    (pairResult j r y s).otp = s.otp ∧
    (pairResult j r y s).src = s.src ∧
    (pairResult j r y s).paceFrac = s.paceFrac ∧
    (pairResult j r y s).mains = s.mains ∧
    (pairResult j r y s).stitch = s.stitch ∧
    (pairResult j r y s).axes = s.axes ∧
    (pairResult j r y s).chan = s.chan ∧
    (pairResult j r y s).supply = s.supply ∧
    (pairResult j r y s).sto = s.sto ∧
    (pairResult j r y s).spread = s.spread ∧
    (pairResult j r y s).supv = s.supv ∧
    (pairResult j r y s).pin = s.pin ∧
    (pairResult j r y s).seam = s.seam ∧
    (pairResult j r y s).store = s.store ∧
    (pairResult j r y s).bak = s.bak ∧
    (pairResult j r y s).proof = s.proof := by
  unfold pairResult; (try dsimp only); repeat' split
  all_goals (refine ⟨?_, ?_, ?_, ?_, ?_, ?_, ?_, ?_, ?_, ?_, ?_, ?_, ?_, ?_, ?_, ?_, ?_, ?_, ?_, ?_, ?_, ?_, ?_, ?_, ?_⟩ <;> simp)

@[simp] theorem loneHandover_frame (j : Fin 16) (s : State) :
    (loneHandover j s).pending = s.pending ∧
    (loneHandover j s).now = s.now ∧
    (loneHandover j s).free = s.free ∧
    (loneHandover j s).power = s.power ∧
    (loneHandover j s).host = s.host ∧
    (loneHandover j s).lat = s.lat ∧
    (loneHandover j s).win = s.win ∧
    (loneHandover j s).cfg = s.cfg ∧
    (loneHandover j s).boot = s.boot ∧
    (loneHandover j s).otp = s.otp ∧
    (loneHandover j s).src = s.src ∧
    (loneHandover j s).paceFrac = s.paceFrac ∧
    (loneHandover j s).mains = s.mains ∧
    (loneHandover j s).stitch = s.stitch ∧
    (loneHandover j s).axes = s.axes ∧
    (loneHandover j s).chan = s.chan ∧
    (loneHandover j s).supply = s.supply ∧
    (loneHandover j s).sto = s.sto ∧
    (loneHandover j s).spread = s.spread ∧
    (loneHandover j s).supv = s.supv ∧
    (loneHandover j s).fb = s.fb ∧
    (loneHandover j s).pin = s.pin ∧
    (loneHandover j s).seam = s.seam ∧
    (loneHandover j s).flt = s.flt ∧
    (loneHandover j s).store = s.store ∧
    (loneHandover j s).bak = s.bak ∧
    (loneHandover j s).proof = s.proof := by
  unfold loneHandover; (try dsimp only); repeat' split
  all_goals (refine ⟨?_, ?_, ?_, ?_, ?_, ?_, ?_, ?_, ?_, ?_, ?_, ?_, ?_, ?_, ?_, ?_, ?_, ?_, ?_, ?_, ?_, ?_, ?_, ?_, ?_, ?_, ?_⟩ <;> simp)

@[simp] theorem resultHandover_frame (j : Fin 16) (s : State) :
    (resultHandover j s).pending = s.pending ∧
    (resultHandover j s).now = s.now ∧
    (resultHandover j s).free = s.free ∧
    (resultHandover j s).power = s.power ∧
    (resultHandover j s).host = s.host ∧
    (resultHandover j s).lat = s.lat ∧
    (resultHandover j s).win = s.win ∧
    (resultHandover j s).cfg = s.cfg ∧
    (resultHandover j s).boot = s.boot ∧
    (resultHandover j s).otp = s.otp ∧
    (resultHandover j s).paceFrac = s.paceFrac ∧
    (resultHandover j s).stitch = s.stitch ∧
    (resultHandover j s).chan = s.chan ∧
    (resultHandover j s).supply = s.supply ∧
    (resultHandover j s).sto = s.sto ∧
    (resultHandover j s).spread = s.spread ∧
    (resultHandover j s).supv = s.supv ∧
    (resultHandover j s).pin = s.pin ∧
    (resultHandover j s).seam = s.seam ∧
    (resultHandover j s).bak = s.bak ∧
    (resultHandover j s).proof = s.proof := by
  unfold resultHandover; (try dsimp only); repeat' split
  all_goals (refine ⟨?_, ?_, ?_, ?_, ?_, ?_, ?_, ?_, ?_, ?_, ?_, ?_, ?_, ?_, ?_, ?_, ?_, ?_, ?_, ?_, ?_⟩ <;> simp)

@[simp] theorem loneEnd_frame (j : Fin 16) (v : AnalogIn) (devW : Int) (s : State) :
    (loneEnd j v devW s).pending = s.pending ∧
    (loneEnd j v devW s).now = s.now ∧
    (loneEnd j v devW s).power = s.power ∧
    (loneEnd j v devW s).host = s.host ∧
    (loneEnd j v devW s).lat = s.lat ∧
    (loneEnd j v devW s).win = s.win ∧
    (loneEnd j v devW s).cfg = s.cfg ∧
    (loneEnd j v devW s).boot = s.boot ∧
    (loneEnd j v devW s).otp = s.otp ∧
    (loneEnd j v devW s).src = s.src ∧
    (loneEnd j v devW s).paceFrac = s.paceFrac ∧
    (loneEnd j v devW s).mains = s.mains ∧
    (loneEnd j v devW s).stitch = s.stitch ∧
    (loneEnd j v devW s).axes = s.axes ∧
    (loneEnd j v devW s).chan = s.chan ∧
    (loneEnd j v devW s).supply = s.supply ∧
    (loneEnd j v devW s).sto = s.sto ∧
    (loneEnd j v devW s).spread = s.spread ∧
    (loneEnd j v devW s).supv = s.supv ∧
    (loneEnd j v devW s).fb = s.fb ∧
    (loneEnd j v devW s).pin = s.pin ∧
    (loneEnd j v devW s).seam = s.seam ∧
    (loneEnd j v devW s).flt = s.flt ∧
    (loneEnd j v devW s).store = s.store ∧
    (loneEnd j v devW s).bak = s.bak ∧
    (loneEnd j v devW s).proof = s.proof := by
  unfold loneEnd; (try dsimp only); repeat' split
  all_goals (refine ⟨?_, ?_, ?_, ?_, ?_, ?_, ?_, ?_, ?_, ?_, ?_, ?_, ?_, ?_, ?_, ?_, ?_, ?_, ?_, ?_, ?_, ?_, ?_, ?_, ?_, ?_⟩ <;> simp)

@[simp] theorem endSlot_frame (j : Fin 16) (r : SarRun) (v : AnalogIn) (devW : Int) (s : State) :
    (endSlot j r v devW s).pending = s.pending ∧
    (endSlot j r v devW s).now = s.now ∧
    (endSlot j r v devW s).power = s.power ∧
    (endSlot j r v devW s).host = s.host ∧
    (endSlot j r v devW s).lat = s.lat ∧
    (endSlot j r v devW s).win = s.win ∧
    (endSlot j r v devW s).cfg = s.cfg ∧
    (endSlot j r v devW s).boot = s.boot ∧
    (endSlot j r v devW s).otp = s.otp ∧
    (endSlot j r v devW s).src = s.src ∧
    (endSlot j r v devW s).paceFrac = s.paceFrac ∧
    (endSlot j r v devW s).mains = s.mains ∧
    (endSlot j r v devW s).stitch = s.stitch ∧
    (endSlot j r v devW s).axes = s.axes ∧
    (endSlot j r v devW s).chan = s.chan ∧
    (endSlot j r v devW s).supply = s.supply ∧
    (endSlot j r v devW s).sto = s.sto ∧
    (endSlot j r v devW s).spread = s.spread ∧
    (endSlot j r v devW s).supv = s.supv ∧
    (endSlot j r v devW s).fb = s.fb ∧
    (endSlot j r v devW s).pin = s.pin ∧
    (endSlot j r v devW s).seam = s.seam ∧
    (endSlot j r v devW s).flt = s.flt ∧
    (endSlot j r v devW s).store = s.store ∧
    (endSlot j r v devW s).bak = s.bak ∧
    (endSlot j r v devW s).proof = s.proof := by
  unfold endSlot; (try dsimp only); repeat' split
  all_goals (refine ⟨?_, ?_, ?_, ?_, ?_, ?_, ?_, ?_, ?_, ?_, ?_, ?_, ?_, ?_, ?_, ?_, ?_, ?_, ?_, ?_, ?_, ?_, ?_, ?_, ?_, ?_⟩ <;> simp)

@[simp] theorem slotEnd_frame (j : Fin 16) (v : AnalogIn) (devW : Int) (s : State) :
    (slotEnd j v devW s).pending = s.pending ∧
    (slotEnd j v devW s).now = s.now ∧
    (slotEnd j v devW s).power = s.power ∧
    (slotEnd j v devW s).host = s.host ∧
    (slotEnd j v devW s).lat = s.lat ∧
    (slotEnd j v devW s).win = s.win ∧
    (slotEnd j v devW s).cfg = s.cfg ∧
    (slotEnd j v devW s).boot = s.boot ∧
    (slotEnd j v devW s).otp = s.otp ∧
    (slotEnd j v devW s).paceFrac = s.paceFrac ∧
    (slotEnd j v devW s).stitch = s.stitch ∧
    (slotEnd j v devW s).chan = s.chan ∧
    (slotEnd j v devW s).supply = s.supply ∧
    (slotEnd j v devW s).sto = s.sto ∧
    (slotEnd j v devW s).spread = s.spread ∧
    (slotEnd j v devW s).supv = s.supv ∧
    (slotEnd j v devW s).pin = s.pin ∧
    (slotEnd j v devW s).seam = s.seam ∧
    (slotEnd j v devW s).bak = s.bak ∧
    (slotEnd j v devW s).proof = s.proof := by
  unfold slotEnd; (try dsimp only); repeat' split
  all_goals (refine ⟨?_, ?_, ?_, ?_, ?_, ?_, ?_, ?_, ?_, ?_, ?_, ?_, ?_, ?_, ?_, ?_, ?_, ?_, ?_, ?_⟩ <;> simp)

@[simp] theorem stopConverters_frame (s : State) :
    (stopConverters s).pending = s.pending ∧
    (stopConverters s).now = s.now ∧
    (stopConverters s).free = s.free ∧
    (stopConverters s).power = s.power ∧
    (stopConverters s).host = s.host ∧
    (stopConverters s).lat = s.lat ∧
    (stopConverters s).win = s.win ∧
    (stopConverters s).cfg = s.cfg ∧
    (stopConverters s).boot = s.boot ∧
    (stopConverters s).otp = s.otp ∧
    (stopConverters s).src = s.src ∧
    (stopConverters s).paceFrac = s.paceFrac ∧
    (stopConverters s).mains = s.mains ∧
    (stopConverters s).stitch = s.stitch ∧
    (stopConverters s).axes = s.axes ∧
    (stopConverters s).chan = s.chan ∧
    (stopConverters s).supply = s.supply ∧
    (stopConverters s).sto = s.sto ∧
    (stopConverters s).spread = s.spread ∧
    (stopConverters s).supv = s.supv ∧
    (stopConverters s).fb = s.fb ∧
    (stopConverters s).pin = s.pin ∧
    (stopConverters s).seam = s.seam ∧
    (stopConverters s).flt = s.flt ∧
    (stopConverters s).store = s.store ∧
    (stopConverters s).bak = s.bak ∧
    (stopConverters s).proof = s.proof := by
  unfold stopConverters; (try dsimp only); repeat' split
  all_goals (refine ⟨?_, ?_, ?_, ?_, ?_, ?_, ?_, ?_, ?_, ?_, ?_, ?_, ?_, ?_, ?_, ?_, ?_, ?_, ?_, ?_, ?_, ?_, ?_, ?_, ?_, ?_, ?_⟩ <;> simp)

@[simp] theorem fireTrigger_frame (n : Fin 8) (m : Fin 4) (at_ : Nat) (s : State) :
    (fireTrigger n m at_ s).pending = s.pending ∧
    (fireTrigger n m at_ s).now = s.now ∧
    (fireTrigger n m at_ s).free = s.free ∧
    (fireTrigger n m at_ s).power = s.power ∧
    (fireTrigger n m at_ s).host = s.host ∧
    (fireTrigger n m at_ s).lat = s.lat ∧
    (fireTrigger n m at_ s).win = s.win ∧
    (fireTrigger n m at_ s).cfg = s.cfg ∧
    (fireTrigger n m at_ s).boot = s.boot ∧
    (fireTrigger n m at_ s).otp = s.otp ∧
    (fireTrigger n m at_ s).src = s.src ∧
    (fireTrigger n m at_ s).paceFrac = s.paceFrac ∧
    (fireTrigger n m at_ s).mains = s.mains ∧
    (fireTrigger n m at_ s).stitch = s.stitch ∧
    (fireTrigger n m at_ s).chan = s.chan ∧
    (fireTrigger n m at_ s).supply = s.supply ∧
    (fireTrigger n m at_ s).sto = s.sto ∧
    (fireTrigger n m at_ s).spread = s.spread ∧
    (fireTrigger n m at_ s).supv = s.supv ∧
    (fireTrigger n m at_ s).fb = s.fb ∧
    (fireTrigger n m at_ s).pin = s.pin ∧
    (fireTrigger n m at_ s).seam = s.seam ∧
    (fireTrigger n m at_ s).flt = s.flt ∧
    (fireTrigger n m at_ s).store = s.store ∧
    (fireTrigger n m at_ s).bak = s.bak ∧
    (fireTrigger n m at_ s).proof = s.proof := by
  unfold fireTrigger; (try dsimp only); repeat' split
  all_goals (refine ⟨?_, ?_, ?_, ?_, ?_, ?_, ?_, ?_, ?_, ?_, ?_, ?_, ?_, ?_, ?_, ?_, ?_, ?_, ?_, ?_, ?_, ?_, ?_, ?_, ?_, ?_⟩ <;> simp)

@[simp] theorem triggerCompare_frame (n : Fin 8) (m : Fin 4) (s : State) :
    (triggerCompare n m s).pending = s.pending ∧
    (triggerCompare n m s).now = s.now ∧
    (triggerCompare n m s).free = s.free ∧
    (triggerCompare n m s).power = s.power ∧
    (triggerCompare n m s).host = s.host ∧
    (triggerCompare n m s).lat = s.lat ∧
    (triggerCompare n m s).win = s.win ∧
    (triggerCompare n m s).cfg = s.cfg ∧
    (triggerCompare n m s).boot = s.boot ∧
    (triggerCompare n m s).otp = s.otp ∧
    (triggerCompare n m s).src = s.src ∧
    (triggerCompare n m s).paceFrac = s.paceFrac ∧
    (triggerCompare n m s).mains = s.mains ∧
    (triggerCompare n m s).stitch = s.stitch ∧
    (triggerCompare n m s).chan = s.chan ∧
    (triggerCompare n m s).supply = s.supply ∧
    (triggerCompare n m s).sto = s.sto ∧
    (triggerCompare n m s).spread = s.spread ∧
    (triggerCompare n m s).supv = s.supv ∧
    (triggerCompare n m s).fb = s.fb ∧
    (triggerCompare n m s).pin = s.pin ∧
    (triggerCompare n m s).seam = s.seam ∧
    (triggerCompare n m s).flt = s.flt ∧
    (triggerCompare n m s).store = s.store ∧
    (triggerCompare n m s).bak = s.bak ∧
    (triggerCompare n m s).proof = s.proof := by
  unfold triggerCompare; (try dsimp only); repeat' split
  all_goals (refine ⟨?_, ?_, ?_, ?_, ?_, ?_, ?_, ?_, ?_, ?_, ?_, ?_, ?_, ?_, ?_, ?_, ?_, ?_, ?_, ?_, ?_, ?_, ?_, ?_, ?_, ?_⟩ <;> simp)

@[simp] theorem mainsSample_frame (m : Fin 2) (s : State) :
    (mainsSample m s).pending = s.pending ∧
    (mainsSample m s).now = s.now ∧
    (mainsSample m s).free = s.free ∧
    (mainsSample m s).power = s.power ∧
    (mainsSample m s).host = s.host ∧
    (mainsSample m s).lat = s.lat ∧
    (mainsSample m s).win = s.win ∧
    (mainsSample m s).cfg = s.cfg ∧
    (mainsSample m s).boot = s.boot ∧
    (mainsSample m s).otp = s.otp ∧
    (mainsSample m s).src = s.src ∧
    (mainsSample m s).paceFrac = s.paceFrac ∧
    (mainsSample m s).stitch = s.stitch ∧
    (mainsSample m s).axes = s.axes ∧
    (mainsSample m s).chan = s.chan ∧
    (mainsSample m s).supply = s.supply ∧
    (mainsSample m s).sto = s.sto ∧
    (mainsSample m s).spread = s.spread ∧
    (mainsSample m s).supv = s.supv ∧
    (mainsSample m s).fb = s.fb ∧
    (mainsSample m s).pin = s.pin ∧
    (mainsSample m s).seam = s.seam ∧
    (mainsSample m s).flt = s.flt ∧
    (mainsSample m s).store = s.store ∧
    (mainsSample m s).bak = s.bak ∧
    (mainsSample m s).proof = s.proof := by
  unfold mainsSample; (try dsimp only); repeat' split
  all_goals (refine ⟨?_, ?_, ?_, ?_, ?_, ?_, ?_, ?_, ?_, ?_, ?_, ?_, ?_, ?_, ?_, ?_, ?_, ?_, ?_, ?_, ?_, ?_, ?_, ?_, ?_, ?_⟩ <;> simp)

@[simp] theorem mainPath_frame (d : Fin 24) (stream : List Bool) (s : State) :
    (mainPath d stream s).pending = s.pending ∧
    (mainPath d stream s).now = s.now ∧
    (mainPath d stream s).free = s.free ∧
    (mainPath d stream s).power = s.power ∧
    (mainPath d stream s).host = s.host ∧
    (mainPath d stream s).lat = s.lat ∧
    (mainPath d stream s).win = s.win ∧
    (mainPath d stream s).cfg = s.cfg ∧
    (mainPath d stream s).boot = s.boot ∧
    (mainPath d stream s).otp = s.otp ∧
    (mainPath d stream s).src = s.src ∧
    (mainPath d stream s).paceFrac = s.paceFrac ∧
    (mainPath d stream s).mains = s.mains ∧
    (mainPath d stream s).stitch = s.stitch ∧
    (mainPath d stream s).axes = s.axes ∧
    (mainPath d stream s).chan = s.chan ∧
    (mainPath d stream s).supply = s.supply ∧
    (mainPath d stream s).sto = s.sto ∧
    (mainPath d stream s).spread = s.spread ∧
    (mainPath d stream s).supv = s.supv ∧
    (mainPath d stream s).fb = s.fb ∧
    (mainPath d stream s).pin = s.pin ∧
    (mainPath d stream s).seam = s.seam ∧
    (mainPath d stream s).flt = s.flt ∧
    (mainPath d stream s).store = s.store ∧
    (mainPath d stream s).bak = s.bak ∧
    (mainPath d stream s).proof = s.proof := by
  unfold mainPath; (try dsimp only); repeat' split
  all_goals (refine ⟨?_, ?_, ?_, ?_, ?_, ?_, ?_, ?_, ?_, ?_, ?_, ?_, ?_, ?_, ?_, ?_, ?_, ?_, ?_, ?_, ?_, ?_, ?_, ?_, ?_, ?_, ?_⟩ <;> simp)

@[simp] theorem overCurrent_frame (d : Fin 24) (y : Int) (s : State) :
    (overCurrent d y s).pending = s.pending ∧
    (overCurrent d y s).now = s.now ∧
    (overCurrent d y s).free = s.free ∧
    (overCurrent d y s).power = s.power ∧
    (overCurrent d y s).host = s.host ∧
    (overCurrent d y s).lat = s.lat ∧
    (overCurrent d y s).win = s.win ∧
    (overCurrent d y s).cfg = s.cfg ∧
    (overCurrent d y s).boot = s.boot ∧
    (overCurrent d y s).otp = s.otp ∧
    (overCurrent d y s).src = s.src ∧
    (overCurrent d y s).paceFrac = s.paceFrac ∧
    (overCurrent d y s).mains = s.mains ∧
    (overCurrent d y s).stitch = s.stitch ∧
    (overCurrent d y s).chan = s.chan ∧
    (overCurrent d y s).supply = s.supply ∧
    (overCurrent d y s).sto = s.sto ∧
    (overCurrent d y s).spread = s.spread ∧
    (overCurrent d y s).supv = s.supv ∧
    (overCurrent d y s).pin = s.pin ∧
    (overCurrent d y s).seam = s.seam ∧
    (overCurrent d y s).bak = s.bak ∧
    (overCurrent d y s).proof = s.proof := by
  unfold overCurrent; (try dsimp only); repeat' split
  all_goals (refine ⟨?_, ?_, ?_, ?_, ?_, ?_, ?_, ?_, ?_, ?_, ?_, ?_, ?_, ?_, ?_, ?_, ?_, ?_, ?_, ?_, ?_, ?_, ?_⟩ <;> simp)

@[simp] theorem fastPath_frame (d : Fin 24) (stream : List Bool) (s : State) :
    (fastPath d stream s).pending = s.pending ∧
    (fastPath d stream s).now = s.now ∧
    (fastPath d stream s).free = s.free ∧
    (fastPath d stream s).power = s.power ∧
    (fastPath d stream s).host = s.host ∧
    (fastPath d stream s).lat = s.lat ∧
    (fastPath d stream s).win = s.win ∧
    (fastPath d stream s).cfg = s.cfg ∧
    (fastPath d stream s).boot = s.boot ∧
    (fastPath d stream s).otp = s.otp ∧
    (fastPath d stream s).src = s.src ∧
    (fastPath d stream s).paceFrac = s.paceFrac ∧
    (fastPath d stream s).mains = s.mains ∧
    (fastPath d stream s).stitch = s.stitch ∧
    (fastPath d stream s).chan = s.chan ∧
    (fastPath d stream s).supply = s.supply ∧
    (fastPath d stream s).sto = s.sto ∧
    (fastPath d stream s).spread = s.spread ∧
    (fastPath d stream s).supv = s.supv ∧
    (fastPath d stream s).pin = s.pin ∧
    (fastPath d stream s).seam = s.seam ∧
    (fastPath d stream s).bak = s.bak ∧
    (fastPath d stream s).proof = s.proof := by
  unfold fastPath; (try dsimp only); repeat' split
  all_goals (refine ⟨?_, ?_, ?_, ?_, ?_, ?_, ?_, ?_, ?_, ?_, ?_, ?_, ?_, ?_, ?_, ?_, ?_, ?_, ?_, ?_, ?_, ?_, ?_⟩ <;> simp)

@[simp] theorem streamStuck_frame (d : Fin 24) (s : State) :
    (streamStuck d s).pending = s.pending ∧
    (streamStuck d s).now = s.now ∧
    (streamStuck d s).free = s.free ∧
    (streamStuck d s).power = s.power ∧
    (streamStuck d s).host = s.host ∧
    (streamStuck d s).lat = s.lat ∧
    (streamStuck d s).win = s.win ∧
    (streamStuck d s).cfg = s.cfg ∧
    (streamStuck d s).boot = s.boot ∧
    (streamStuck d s).otp = s.otp ∧
    (streamStuck d s).src = s.src ∧
    (streamStuck d s).paceFrac = s.paceFrac ∧
    (streamStuck d s).mains = s.mains ∧
    (streamStuck d s).stitch = s.stitch ∧
    (streamStuck d s).axes = s.axes ∧
    (streamStuck d s).chan = s.chan ∧
    (streamStuck d s).supply = s.supply ∧
    (streamStuck d s).sto = s.sto ∧
    (streamStuck d s).spread = s.spread ∧
    (streamStuck d s).supv = s.supv ∧
    (streamStuck d s).pin = s.pin ∧
    (streamStuck d s).seam = s.seam ∧
    (streamStuck d s).store = s.store ∧
    (streamStuck d s).bak = s.bak ∧
    (streamStuck d s).proof = s.proof := by
  unfold streamStuck; (try dsimp only); repeat' split
  all_goals (refine ⟨?_, ?_, ?_, ?_, ?_, ?_, ?_, ?_, ?_, ?_, ?_, ?_, ?_, ?_, ?_, ?_, ?_, ?_, ?_, ?_, ?_, ?_, ?_, ?_, ?_⟩ <;> simp)

@[simp] theorem writeCoef_frame (k : Nat) (w : Word) (s : State) :
    (writeCoef k w s).pending = s.pending ∧
    (writeCoef k w s).now = s.now ∧
    (writeCoef k w s).free = s.free ∧
    (writeCoef k w s).power = s.power ∧
    (writeCoef k w s).host = s.host ∧
    (writeCoef k w s).lat = s.lat ∧
    (writeCoef k w s).win = s.win ∧
    (writeCoef k w s).cfg = s.cfg ∧
    (writeCoef k w s).boot = s.boot ∧
    (writeCoef k w s).otp = s.otp ∧
    (writeCoef k w s).src = s.src ∧
    (writeCoef k w s).paceFrac = s.paceFrac ∧
    (writeCoef k w s).mains = s.mains ∧
    (writeCoef k w s).stitch = s.stitch ∧
    (writeCoef k w s).axes = s.axes ∧
    (writeCoef k w s).chan = s.chan ∧
    (writeCoef k w s).supply = s.supply ∧
    (writeCoef k w s).sto = s.sto ∧
    (writeCoef k w s).spread = s.spread ∧
    (writeCoef k w s).supv = s.supv ∧
    (writeCoef k w s).fb = s.fb ∧
    (writeCoef k w s).pin = s.pin ∧
    (writeCoef k w s).seam = s.seam ∧
    (writeCoef k w s).flt = s.flt ∧
    (writeCoef k w s).store = s.store ∧
    (writeCoef k w s).bak = s.bak ∧
    (writeCoef k w s).proof = s.proof := by
  unfold writeCoef; (try dsimp only); repeat' split
  all_goals (refine ⟨?_, ?_, ?_, ?_, ?_, ?_, ?_, ?_, ?_, ?_, ?_, ?_, ?_, ?_, ?_, ?_, ?_, ?_, ?_, ?_, ?_, ?_, ?_, ?_, ?_, ?_, ?_⟩ <;> simp)

/-! ### Feedback -/

@[simp] theorem encError_frame (n : Fin 8) (s : State) :
    (encError n s).pending = s.pending ∧
    (encError n s).now = s.now ∧
    (encError n s).free = s.free ∧
    (encError n s).power = s.power ∧
    (encError n s).host = s.host ∧
    (encError n s).lat = s.lat ∧
    (encError n s).win = s.win ∧
    (encError n s).cfg = s.cfg ∧
    (encError n s).boot = s.boot ∧
    (encError n s).otp = s.otp ∧
    (encError n s).src = s.src ∧
    (encError n s).paceFrac = s.paceFrac ∧
    (encError n s).mains = s.mains ∧
    (encError n s).stitch = s.stitch ∧
    (encError n s).chan = s.chan ∧
    (encError n s).supply = s.supply ∧
    (encError n s).sto = s.sto ∧
    (encError n s).spread = s.spread ∧
    (encError n s).supv = s.supv ∧
    (encError n s).fb = s.fb ∧
    (encError n s).cnv = s.cnv ∧
    (encError n s).pin = s.pin ∧
    (encError n s).seam = s.seam ∧
    (encError n s).flt = s.flt ∧
    (encError n s).store = s.store ∧
    (encError n s).bak = s.bak ∧
    (encError n s).proof = s.proof := by
  unfold encError; (try dsimp only); repeat' split
  all_goals (refine ⟨?_, ?_, ?_, ?_, ?_, ?_, ?_, ?_, ?_, ?_, ?_, ?_, ?_, ?_, ?_, ?_, ?_, ?_, ?_, ?_, ?_, ?_, ?_, ?_, ?_, ?_, ?_⟩ <;> simp)

@[simp] theorem encEdge_frame (n : Fin 8) (s : State) :
    (encEdge n s).pending = s.pending ∧
    (encEdge n s).now = s.now ∧
    (encEdge n s).free = s.free ∧
    (encEdge n s).power = s.power ∧
    (encEdge n s).host = s.host ∧
    (encEdge n s).lat = s.lat ∧
    (encEdge n s).win = s.win ∧
    (encEdge n s).cfg = s.cfg ∧
    (encEdge n s).boot = s.boot ∧
    (encEdge n s).otp = s.otp ∧
    (encEdge n s).src = s.src ∧
    (encEdge n s).paceFrac = s.paceFrac ∧
    (encEdge n s).mains = s.mains ∧
    (encEdge n s).stitch = s.stitch ∧
    (encEdge n s).chan = s.chan ∧
    (encEdge n s).supply = s.supply ∧
    (encEdge n s).sto = s.sto ∧
    (encEdge n s).spread = s.spread ∧
    (encEdge n s).supv = s.supv ∧
    (encEdge n s).fb = s.fb ∧
    (encEdge n s).cnv = s.cnv ∧
    (encEdge n s).pin = s.pin ∧
    (encEdge n s).seam = s.seam ∧
    (encEdge n s).flt = s.flt ∧
    (encEdge n s).store = s.store ∧
    (encEdge n s).bak = s.bak ∧
    (encEdge n s).proof = s.proof := by
  unfold encEdge; (try dsimp only); repeat' split
  all_goals (refine ⟨?_, ?_, ?_, ?_, ?_, ?_, ?_, ?_, ?_, ?_, ?_, ?_, ?_, ?_, ?_, ?_, ?_, ?_, ?_, ?_, ?_, ?_, ?_, ?_, ?_, ?_, ?_⟩ <;> simp)

@[simp] theorem fbFault_frame (n : Fin 8) (detail : Nat) (s : State) :
    (fbFault n detail s).pending = s.pending ∧
    (fbFault n detail s).now = s.now ∧
    (fbFault n detail s).free = s.free ∧
    (fbFault n detail s).power = s.power ∧
    (fbFault n detail s).host = s.host ∧
    (fbFault n detail s).lat = s.lat ∧
    (fbFault n detail s).win = s.win ∧
    (fbFault n detail s).cfg = s.cfg ∧
    (fbFault n detail s).boot = s.boot ∧
    (fbFault n detail s).otp = s.otp ∧
    (fbFault n detail s).src = s.src ∧
    (fbFault n detail s).paceFrac = s.paceFrac ∧
    (fbFault n detail s).mains = s.mains ∧
    (fbFault n detail s).stitch = s.stitch ∧
    (fbFault n detail s).chan = s.chan ∧
    (fbFault n detail s).supply = s.supply ∧
    (fbFault n detail s).sto = s.sto ∧
    (fbFault n detail s).spread = s.spread ∧
    (fbFault n detail s).supv = s.supv ∧
    (fbFault n detail s).pin = s.pin ∧
    (fbFault n detail s).seam = s.seam ∧
    (fbFault n detail s).store = s.store ∧
    (fbFault n detail s).bak = s.bak ∧
    (fbFault n detail s).proof = s.proof := by
  unfold fbFault; (try dsimp only); repeat' split
  all_goals (refine ⟨?_, ?_, ?_, ?_, ?_, ?_, ?_, ?_, ?_, ?_, ?_, ?_, ?_, ?_, ?_, ?_, ?_, ?_, ?_, ?_, ?_, ?_, ?_, ?_⟩ <;> simp)

@[simp] theorem phaseError_frame (n : Fin 8) (s : State) :
    (phaseError n s).pending = s.pending ∧
    (phaseError n s).now = s.now ∧
    (phaseError n s).free = s.free ∧
    (phaseError n s).power = s.power ∧
    (phaseError n s).host = s.host ∧
    (phaseError n s).lat = s.lat ∧
    (phaseError n s).win = s.win ∧
    (phaseError n s).cfg = s.cfg ∧
    (phaseError n s).boot = s.boot ∧
    (phaseError n s).otp = s.otp ∧
    (phaseError n s).src = s.src ∧
    (phaseError n s).paceFrac = s.paceFrac ∧
    (phaseError n s).mains = s.mains ∧
    (phaseError n s).stitch = s.stitch ∧
    (phaseError n s).chan = s.chan ∧
    (phaseError n s).supply = s.supply ∧
    (phaseError n s).sto = s.sto ∧
    (phaseError n s).spread = s.spread ∧
    (phaseError n s).supv = s.supv ∧
    (phaseError n s).pin = s.pin ∧
    (phaseError n s).seam = s.seam ∧
    (phaseError n s).store = s.store ∧
    (phaseError n s).bak = s.bak ∧
    (phaseError n s).proof = s.proof := by
  unfold phaseError; (try dsimp only); repeat' split
  all_goals (refine ⟨?_, ?_, ?_, ?_, ?_, ?_, ?_, ?_, ?_, ?_, ?_, ?_, ?_, ?_, ?_, ?_, ?_, ?_, ?_, ?_, ?_, ?_, ?_, ?_⟩ <;> simp)

@[simp] theorem quadEdge_frame (n : Fin 8) (ab : AbSample) (sub : Nat) (s : State) :
    (quadEdge n ab sub s).pending = s.pending ∧
    (quadEdge n ab sub s).now = s.now ∧
    (quadEdge n ab sub s).free = s.free ∧
    (quadEdge n ab sub s).power = s.power ∧
    (quadEdge n ab sub s).host = s.host ∧
    (quadEdge n ab sub s).lat = s.lat ∧
    (quadEdge n ab sub s).win = s.win ∧
    (quadEdge n ab sub s).cfg = s.cfg ∧
    (quadEdge n ab sub s).boot = s.boot ∧
    (quadEdge n ab sub s).otp = s.otp ∧
    (quadEdge n ab sub s).src = s.src ∧
    (quadEdge n ab sub s).paceFrac = s.paceFrac ∧
    (quadEdge n ab sub s).mains = s.mains ∧
    (quadEdge n ab sub s).stitch = s.stitch ∧
    (quadEdge n ab sub s).chan = s.chan ∧
    (quadEdge n ab sub s).supply = s.supply ∧
    (quadEdge n ab sub s).sto = s.sto ∧
    (quadEdge n ab sub s).spread = s.spread ∧
    (quadEdge n ab sub s).supv = s.supv ∧
    (quadEdge n ab sub s).pin = s.pin ∧
    (quadEdge n ab sub s).seam = s.seam ∧
    (quadEdge n ab sub s).store = s.store ∧
    (quadEdge n ab sub s).bak = s.bak ∧
    (quadEdge n ab sub s).proof = s.proof := by
  unfold quadEdge; (try dsimp only); repeat' split
  all_goals (refine ⟨?_, ?_, ?_, ?_, ?_, ?_, ?_, ?_, ?_, ?_, ?_, ?_, ?_, ?_, ?_, ?_, ?_, ?_, ?_, ?_, ?_, ?_, ?_, ?_⟩ <;> simp)

@[simp] theorem indexEvent_frame (n : Fin 8) (z : Bool) (s : State) :
    (indexEvent n z s).pending = s.pending ∧
    (indexEvent n z s).now = s.now ∧
    (indexEvent n z s).free = s.free ∧
    (indexEvent n z s).power = s.power ∧
    (indexEvent n z s).host = s.host ∧
    (indexEvent n z s).lat = s.lat ∧
    (indexEvent n z s).win = s.win ∧
    (indexEvent n z s).cfg = s.cfg ∧
    (indexEvent n z s).boot = s.boot ∧
    (indexEvent n z s).otp = s.otp ∧
    (indexEvent n z s).src = s.src ∧
    (indexEvent n z s).paceFrac = s.paceFrac ∧
    (indexEvent n z s).mains = s.mains ∧
    (indexEvent n z s).stitch = s.stitch ∧
    (indexEvent n z s).axes = s.axes ∧
    (indexEvent n z s).chan = s.chan ∧
    (indexEvent n z s).supply = s.supply ∧
    (indexEvent n z s).sto = s.sto ∧
    (indexEvent n z s).spread = s.spread ∧
    (indexEvent n z s).supv = s.supv ∧
    (indexEvent n z s).cnv = s.cnv ∧
    (indexEvent n z s).pin = s.pin ∧
    (indexEvent n z s).seam = s.seam ∧
    (indexEvent n z s).flt = s.flt ∧
    (indexEvent n z s).store = s.store ∧
    (indexEvent n z s).bak = s.bak ∧
    (indexEvent n z s).proof = s.proof := by
  unfold indexEvent; (try dsimp only); repeat' split
  all_goals (refine ⟨?_, ?_, ?_, ?_, ?_, ?_, ?_, ?_, ?_, ?_, ?_, ?_, ?_, ?_, ?_, ?_, ?_, ?_, ?_, ?_, ?_, ?_, ?_, ?_, ?_, ?_, ?_⟩ <;> simp)

@[simp] theorem stepFbSpeed_frame (n : Fin 8) (s : State) :
    (stepFbSpeed n s).pending = s.pending ∧
    (stepFbSpeed n s).now = s.now ∧
    (stepFbSpeed n s).free = s.free ∧
    (stepFbSpeed n s).power = s.power ∧
    (stepFbSpeed n s).host = s.host ∧
    (stepFbSpeed n s).lat = s.lat ∧
    (stepFbSpeed n s).win = s.win ∧
    (stepFbSpeed n s).cfg = s.cfg ∧
    (stepFbSpeed n s).boot = s.boot ∧
    (stepFbSpeed n s).otp = s.otp ∧
    (stepFbSpeed n s).src = s.src ∧
    (stepFbSpeed n s).paceFrac = s.paceFrac ∧
    (stepFbSpeed n s).mains = s.mains ∧
    (stepFbSpeed n s).stitch = s.stitch ∧
    (stepFbSpeed n s).axes = s.axes ∧
    (stepFbSpeed n s).chan = s.chan ∧
    (stepFbSpeed n s).supply = s.supply ∧
    (stepFbSpeed n s).sto = s.sto ∧
    (stepFbSpeed n s).spread = s.spread ∧
    (stepFbSpeed n s).supv = s.supv ∧
    (stepFbSpeed n s).cnv = s.cnv ∧
    (stepFbSpeed n s).pin = s.pin ∧
    (stepFbSpeed n s).seam = s.seam ∧
    (stepFbSpeed n s).flt = s.flt ∧
    (stepFbSpeed n s).store = s.store ∧
    (stepFbSpeed n s).bak = s.bak ∧
    (stepFbSpeed n s).proof = s.proof := by
  unfold stepFbSpeed; (try dsimp only); repeat' split
  all_goals (refine ⟨?_, ?_, ?_, ?_, ?_, ?_, ?_, ?_, ?_, ?_, ?_, ?_, ?_, ?_, ?_, ?_, ?_, ?_, ?_, ?_, ?_, ?_, ?_, ?_, ?_, ?_, ?_⟩ <;> simp)

@[simp] theorem countWindowEnd_frame (n : Fin 8) (s : State) :
    (countWindowEnd n s).pending = s.pending ∧
    (countWindowEnd n s).now = s.now ∧
    (countWindowEnd n s).free = s.free ∧
    (countWindowEnd n s).power = s.power ∧
    (countWindowEnd n s).host = s.host ∧
    (countWindowEnd n s).lat = s.lat ∧
    (countWindowEnd n s).win = s.win ∧
    (countWindowEnd n s).cfg = s.cfg ∧
    (countWindowEnd n s).boot = s.boot ∧
    (countWindowEnd n s).otp = s.otp ∧
    (countWindowEnd n s).src = s.src ∧
    (countWindowEnd n s).paceFrac = s.paceFrac ∧
    (countWindowEnd n s).mains = s.mains ∧
    (countWindowEnd n s).stitch = s.stitch ∧
    (countWindowEnd n s).axes = s.axes ∧
    (countWindowEnd n s).chan = s.chan ∧
    (countWindowEnd n s).supply = s.supply ∧
    (countWindowEnd n s).sto = s.sto ∧
    (countWindowEnd n s).spread = s.spread ∧
    (countWindowEnd n s).supv = s.supv ∧
    (countWindowEnd n s).cnv = s.cnv ∧
    (countWindowEnd n s).pin = s.pin ∧
    (countWindowEnd n s).seam = s.seam ∧
    (countWindowEnd n s).flt = s.flt ∧
    (countWindowEnd n s).store = s.store ∧
    (countWindowEnd n s).bak = s.bak ∧
    (countWindowEnd n s).proof = s.proof := by
  unfold countWindowEnd; (try dsimp only); repeat' split
  all_goals (refine ⟨?_, ?_, ?_, ?_, ?_, ?_, ?_, ?_, ?_, ?_, ?_, ?_, ?_, ?_, ?_, ?_, ?_, ?_, ?_, ?_, ?_, ?_, ?_, ?_, ?_, ?_, ?_⟩ <;> simp)

@[simp] theorem enableFb_frame (n : Fin 8) (s : State) :
    (enableFb n s).pending = s.pending ∧
    (enableFb n s).now = s.now ∧
    (enableFb n s).free = s.free ∧
    (enableFb n s).power = s.power ∧
    (enableFb n s).host = s.host ∧
    (enableFb n s).lat = s.lat ∧
    (enableFb n s).win = s.win ∧
    (enableFb n s).cfg = s.cfg ∧
    (enableFb n s).boot = s.boot ∧
    (enableFb n s).otp = s.otp ∧
    (enableFb n s).src = s.src ∧
    (enableFb n s).paceFrac = s.paceFrac ∧
    (enableFb n s).mains = s.mains ∧
    (enableFb n s).stitch = s.stitch ∧
    (enableFb n s).chan = s.chan ∧
    (enableFb n s).supply = s.supply ∧
    (enableFb n s).sto = s.sto ∧
    (enableFb n s).spread = s.spread ∧
    (enableFb n s).supv = s.supv ∧
    (enableFb n s).cnv = s.cnv ∧
    (enableFb n s).pin = s.pin ∧
    (enableFb n s).seam = s.seam ∧
    (enableFb n s).flt = s.flt ∧
    (enableFb n s).store = s.store ∧
    (enableFb n s).bak = s.bak ∧
    (enableFb n s).proof = s.proof := by
  unfold enableFb; (try dsimp only); repeat' split
  all_goals (refine ⟨?_, ?_, ?_, ?_, ?_, ?_, ?_, ?_, ?_, ?_, ?_, ?_, ?_, ?_, ?_, ?_, ?_, ?_, ?_, ?_, ?_, ?_, ?_, ?_, ?_, ?_⟩ <;> simp)

@[simp] theorem lineFault_frame (rx : Fin 16) (s : State) :
    (lineFault rx s).pending = s.pending ∧
    (lineFault rx s).now = s.now ∧
    (lineFault rx s).free = s.free ∧
    (lineFault rx s).power = s.power ∧
    (lineFault rx s).host = s.host ∧
    (lineFault rx s).lat = s.lat ∧
    (lineFault rx s).win = s.win ∧
    (lineFault rx s).cfg = s.cfg ∧
    (lineFault rx s).boot = s.boot ∧
    (lineFault rx s).otp = s.otp ∧
    (lineFault rx s).src = s.src ∧
    (lineFault rx s).paceFrac = s.paceFrac ∧
    (lineFault rx s).mains = s.mains ∧
    (lineFault rx s).stitch = s.stitch ∧
    (lineFault rx s).chan = s.chan ∧
    (lineFault rx s).supply = s.supply ∧
    (lineFault rx s).sto = s.sto ∧
    (lineFault rx s).spread = s.spread ∧
    (lineFault rx s).supv = s.supv ∧
    (lineFault rx s).seam = s.seam ∧
    (lineFault rx s).store = s.store ∧
    (lineFault rx s).bak = s.bak ∧
    (lineFault rx s).proof = s.proof := by
  unfold lineFault; (try dsimp only); repeat' split
  all_goals (refine ⟨?_, ?_, ?_, ?_, ?_, ?_, ?_, ?_, ?_, ?_, ?_, ?_, ?_, ?_, ?_, ?_, ?_, ?_, ?_, ?_, ?_, ?_, ?_⟩ <;> simp)

@[simp] theorem gapAfterSleep_frame (s : State) :
    (gapAfterSleep s).pending = s.pending ∧
    (gapAfterSleep s).now = s.now ∧
    (gapAfterSleep s).free = s.free ∧
    (gapAfterSleep s).power = s.power ∧
    (gapAfterSleep s).host = s.host ∧
    (gapAfterSleep s).lat = s.lat ∧
    (gapAfterSleep s).win = s.win ∧
    (gapAfterSleep s).boot = s.boot ∧
    (gapAfterSleep s).otp = s.otp ∧
    (gapAfterSleep s).src = s.src ∧
    (gapAfterSleep s).paceFrac = s.paceFrac ∧
    (gapAfterSleep s).mains = s.mains ∧
    (gapAfterSleep s).stitch = s.stitch ∧
    (gapAfterSleep s).axes = s.axes ∧
    (gapAfterSleep s).chan = s.chan ∧
    (gapAfterSleep s).supply = s.supply ∧
    (gapAfterSleep s).sto = s.sto ∧
    (gapAfterSleep s).spread = s.spread ∧
    (gapAfterSleep s).supv = s.supv ∧
    (gapAfterSleep s).cnv = s.cnv ∧
    (gapAfterSleep s).pin = s.pin ∧
    (gapAfterSleep s).seam = s.seam ∧
    (gapAfterSleep s).flt = s.flt ∧
    (gapAfterSleep s).store = s.store ∧
    (gapAfterSleep s).bak = s.bak ∧
    (gapAfterSleep s).proof = s.proof := by
  unfold gapAfterSleep; (try dsimp only); repeat' split
  all_goals simp [ite_pending, ite_now, ite_free, ite_power, ite_host, ite_lat, ite_win, ite_cfg, ite_boot, ite_otp, ite_src, ite_paceFrac, ite_mains, ite_stitch, ite_axes, ite_chan, ite_supply, ite_sto, ite_spread, ite_supv, ite_fb, ite_cnv, ite_pin, ite_seam, ite_flt, ite_store, ite_bak, ite_proof]

@[simp] theorem fbClear_frame (n : Fin 8) (w : Nat) (s : State) :
    (fbClear n w s).pending = s.pending ∧
    (fbClear n w s).now = s.now ∧
    (fbClear n w s).free = s.free ∧
    (fbClear n w s).power = s.power ∧
    (fbClear n w s).host = s.host ∧
    (fbClear n w s).lat = s.lat ∧
    (fbClear n w s).win = s.win ∧
    (fbClear n w s).cfg = s.cfg ∧
    (fbClear n w s).boot = s.boot ∧
    (fbClear n w s).otp = s.otp ∧
    (fbClear n w s).src = s.src ∧
    (fbClear n w s).paceFrac = s.paceFrac ∧
    (fbClear n w s).mains = s.mains ∧
    (fbClear n w s).stitch = s.stitch ∧
    (fbClear n w s).axes = s.axes ∧
    (fbClear n w s).chan = s.chan ∧
    (fbClear n w s).supply = s.supply ∧
    (fbClear n w s).sto = s.sto ∧
    (fbClear n w s).spread = s.spread ∧
    (fbClear n w s).supv = s.supv ∧
    (fbClear n w s).cnv = s.cnv ∧
    (fbClear n w s).pin = s.pin ∧
    (fbClear n w s).seam = s.seam ∧
    (fbClear n w s).flt = s.flt ∧
    (fbClear n w s).store = s.store ∧
    (fbClear n w s).bak = s.bak ∧
    (fbClear n w s).proof = s.proof := by
  unfold fbClear; (try dsimp only); repeat' split
  all_goals (refine ⟨?_, ?_, ?_, ?_, ?_, ?_, ?_, ?_, ?_, ?_, ?_, ?_, ?_, ?_, ?_, ?_, ?_, ?_, ?_, ?_, ?_, ?_, ?_, ?_, ?_, ?_, ?_⟩ <;> simp)

@[simp] theorem fbWrite_frame (n : Fin 8) (w : Nat) (d : Word) (s : State) :
    (fbWrite n w d s).pending = s.pending ∧
    (fbWrite n w d s).now = s.now ∧
    (fbWrite n w d s).free = s.free ∧
    (fbWrite n w d s).power = s.power ∧
    (fbWrite n w d s).host = s.host ∧
    (fbWrite n w d s).lat = s.lat ∧
    (fbWrite n w d s).win = s.win ∧
    (fbWrite n w d s).cfg = s.cfg ∧
    (fbWrite n w d s).boot = s.boot ∧
    (fbWrite n w d s).otp = s.otp ∧
    (fbWrite n w d s).src = s.src ∧
    (fbWrite n w d s).paceFrac = s.paceFrac ∧
    (fbWrite n w d s).mains = s.mains ∧
    (fbWrite n w d s).stitch = s.stitch ∧
    (fbWrite n w d s).axes = s.axes ∧
    (fbWrite n w d s).chan = s.chan ∧
    (fbWrite n w d s).supply = s.supply ∧
    (fbWrite n w d s).sto = s.sto ∧
    (fbWrite n w d s).spread = s.spread ∧
    (fbWrite n w d s).supv = s.supv ∧
    (fbWrite n w d s).cnv = s.cnv ∧
    (fbWrite n w d s).pin = s.pin ∧
    (fbWrite n w d s).seam = s.seam ∧
    (fbWrite n w d s).flt = s.flt ∧
    (fbWrite n w d s).store = s.store ∧
    (fbWrite n w d s).bak = s.bak ∧
    (fbWrite n w d s).proof = s.proof := by
  unfold fbWrite; (try dsimp only); repeat' split
  all_goals (refine ⟨?_, ?_, ?_, ?_, ?_, ?_, ?_, ?_, ?_, ?_, ?_, ?_, ?_, ?_, ?_, ?_, ?_, ?_, ?_, ?_, ?_, ?_, ?_, ?_, ?_, ?_, ?_⟩ <;> simp)

@[simp] theorem rearmSpacing_frame (n : Fin 8) (s : State) :
    (rearmSpacing n s).pending = s.pending ∧
    (rearmSpacing n s).now = s.now ∧
    (rearmSpacing n s).free = s.free ∧
    (rearmSpacing n s).power = s.power ∧
    (rearmSpacing n s).host = s.host ∧
    (rearmSpacing n s).lat = s.lat ∧
    (rearmSpacing n s).win = s.win ∧
    (rearmSpacing n s).cfg = s.cfg ∧
    (rearmSpacing n s).boot = s.boot ∧
    (rearmSpacing n s).otp = s.otp ∧
    (rearmSpacing n s).src = s.src ∧
    (rearmSpacing n s).paceFrac = s.paceFrac ∧
    (rearmSpacing n s).mains = s.mains ∧
    (rearmSpacing n s).stitch = s.stitch ∧
    (rearmSpacing n s).axes = s.axes ∧
    (rearmSpacing n s).chan = s.chan ∧
    (rearmSpacing n s).supply = s.supply ∧
    (rearmSpacing n s).sto = s.sto ∧
    (rearmSpacing n s).spread = s.spread ∧
    (rearmSpacing n s).supv = s.supv ∧
    (rearmSpacing n s).cnv = s.cnv ∧
    (rearmSpacing n s).pin = s.pin ∧
    (rearmSpacing n s).seam = s.seam ∧
    (rearmSpacing n s).flt = s.flt ∧
    (rearmSpacing n s).store = s.store ∧
    (rearmSpacing n s).bak = s.bak ∧
    (rearmSpacing n s).proof = s.proof := by
  unfold rearmSpacing; (try dsimp only); repeat' split
  all_goals (refine ⟨?_, ?_, ?_, ?_, ?_, ?_, ?_, ?_, ?_, ?_, ?_, ?_, ?_, ?_, ?_, ?_, ?_, ?_, ?_, ?_, ?_, ?_, ?_, ?_, ?_, ?_, ?_⟩ <;> simp)

/-! ### Ladder -/

@[simp] theorem stepRungs_frame (n : Fin 8) (s : State) :
    (stepRungs n s).pending = s.pending ∧
    (stepRungs n s).now = s.now ∧
    (stepRungs n s).free = s.free ∧
    (stepRungs n s).power = s.power ∧
    (stepRungs n s).host = s.host ∧
    (stepRungs n s).lat = s.lat ∧
    (stepRungs n s).win = s.win ∧
    (stepRungs n s).cfg = s.cfg ∧
    (stepRungs n s).boot = s.boot ∧
    (stepRungs n s).otp = s.otp ∧
    (stepRungs n s).src = s.src ∧
    (stepRungs n s).paceFrac = s.paceFrac ∧
    (stepRungs n s).mains = s.mains ∧
    (stepRungs n s).stitch = s.stitch ∧
    (stepRungs n s).chan = s.chan ∧
    (stepRungs n s).supply = s.supply ∧
    (stepRungs n s).sto = s.sto ∧
    (stepRungs n s).spread = s.spread ∧
    (stepRungs n s).supv = s.supv ∧
    (stepRungs n s).fb = s.fb ∧
    (stepRungs n s).cnv = s.cnv ∧
    (stepRungs n s).pin = s.pin ∧
    (stepRungs n s).seam = s.seam ∧
    (stepRungs n s).flt = s.flt ∧
    (stepRungs n s).store = s.store ∧
    (stepRungs n s).bak = s.bak ∧
    (stepRungs n s).proof = s.proof := by
  unfold stepRungs; (try dsimp only); repeat' split
  all_goals (refine ⟨?_, ?_, ?_, ?_, ?_, ?_, ?_, ?_, ?_, ?_, ?_, ?_, ?_, ?_, ?_, ?_, ?_, ?_, ?_, ?_, ?_, ?_, ?_, ?_, ?_, ?_, ?_⟩ <;> simp)

@[simp] theorem activate_frame (n : Fin 8) (r : Rung) (s : State) :
    (activate n r s).pending = s.pending ∧
    (activate n r s).now = s.now ∧
    (activate n r s).free = s.free ∧
    (activate n r s).power = s.power ∧
    (activate n r s).host = s.host ∧
    (activate n r s).lat = s.lat ∧
    (activate n r s).win = s.win ∧
    (activate n r s).cfg = s.cfg ∧
    (activate n r s).boot = s.boot ∧
    (activate n r s).otp = s.otp ∧
    (activate n r s).src = s.src ∧
    (activate n r s).paceFrac = s.paceFrac ∧
    (activate n r s).mains = s.mains ∧
    (activate n r s).stitch = s.stitch ∧
    (activate n r s).chan = s.chan ∧
    (activate n r s).supply = s.supply ∧
    (activate n r s).sto = s.sto ∧
    (activate n r s).spread = s.spread ∧
    (activate n r s).supv = s.supv ∧
    (activate n r s).fb = s.fb ∧
    (activate n r s).cnv = s.cnv ∧
    (activate n r s).pin = s.pin ∧
    (activate n r s).seam = s.seam ∧
    (activate n r s).flt = s.flt ∧
    (activate n r s).store = s.store ∧
    (activate n r s).bak = s.bak ∧
    (activate n r s).proof = s.proof := by
  unfold activate; (try dsimp only); repeat' split
  all_goals (refine ⟨?_, ?_, ?_, ?_, ?_, ?_, ?_, ?_, ?_, ?_, ?_, ?_, ?_, ?_, ?_, ?_, ?_, ?_, ?_, ?_, ?_, ?_, ?_, ?_, ?_, ?_, ?_⟩ <;> simp)

@[simp] theorem startBlend_frame (n : Fin 8) (up : Bool) (old new : Rung) (ex : Option Extrap) (s : State) :
    (startBlend n up old new ex s).pending = s.pending ∧
    (startBlend n up old new ex s).now = s.now ∧
    (startBlend n up old new ex s).free = s.free ∧
    (startBlend n up old new ex s).power = s.power ∧
    (startBlend n up old new ex s).host = s.host ∧
    (startBlend n up old new ex s).lat = s.lat ∧
    (startBlend n up old new ex s).win = s.win ∧
    (startBlend n up old new ex s).cfg = s.cfg ∧
    (startBlend n up old new ex s).boot = s.boot ∧
    (startBlend n up old new ex s).otp = s.otp ∧
    (startBlend n up old new ex s).src = s.src ∧
    (startBlend n up old new ex s).paceFrac = s.paceFrac ∧
    (startBlend n up old new ex s).mains = s.mains ∧
    (startBlend n up old new ex s).stitch = s.stitch ∧
    (startBlend n up old new ex s).chan = s.chan ∧
    (startBlend n up old new ex s).supply = s.supply ∧
    (startBlend n up old new ex s).sto = s.sto ∧
    (startBlend n up old new ex s).spread = s.spread ∧
    (startBlend n up old new ex s).supv = s.supv ∧
    (startBlend n up old new ex s).fb = s.fb ∧
    (startBlend n up old new ex s).cnv = s.cnv ∧
    (startBlend n up old new ex s).pin = s.pin ∧
    (startBlend n up old new ex s).seam = s.seam ∧
    (startBlend n up old new ex s).flt = s.flt ∧
    (startBlend n up old new ex s).store = s.store ∧
    (startBlend n up old new ex s).bak = s.bak ∧
    (startBlend n up old new ex s).proof = s.proof := by
  unfold startBlend; (try dsimp only); repeat' split
  all_goals (refine ⟨?_, ?_, ?_, ?_, ?_, ?_, ?_, ?_, ?_, ?_, ?_, ?_, ?_, ?_, ?_, ?_, ?_, ?_, ?_, ?_, ?_, ?_, ?_, ?_, ?_, ?_, ?_⟩ <;> simp)

@[simp] theorem loseRotor_frame (n : Fin 8) (s : State) :
    (loseRotor n s).pending = s.pending ∧
    (loseRotor n s).now = s.now ∧
    (loseRotor n s).free = s.free ∧
    (loseRotor n s).power = s.power ∧
    (loseRotor n s).host = s.host ∧
    (loseRotor n s).lat = s.lat ∧
    (loseRotor n s).win = s.win ∧
    (loseRotor n s).cfg = s.cfg ∧
    (loseRotor n s).boot = s.boot ∧
    (loseRotor n s).otp = s.otp ∧
    (loseRotor n s).src = s.src ∧
    (loseRotor n s).paceFrac = s.paceFrac ∧
    (loseRotor n s).mains = s.mains ∧
    (loseRotor n s).stitch = s.stitch ∧
    (loseRotor n s).chan = s.chan ∧
    (loseRotor n s).supply = s.supply ∧
    (loseRotor n s).sto = s.sto ∧
    (loseRotor n s).spread = s.spread ∧
    (loseRotor n s).supv = s.supv ∧
    (loseRotor n s).pin = s.pin ∧
    (loseRotor n s).seam = s.seam ∧
    (loseRotor n s).bak = s.bak ∧
    (loseRotor n s).proof = s.proof := by
  unfold loseRotor; (try dsimp only); repeat' split
  all_goals (refine ⟨?_, ?_, ?_, ?_, ?_, ?_, ?_, ?_, ?_, ?_, ?_, ?_, ?_, ?_, ?_, ?_, ?_, ?_, ?_, ?_, ?_, ?_, ?_⟩ <;> simp)

@[simp] theorem downgrade_frame (n : Fin 8) (old : Rung) (ex : Option Extrap) (s : State) :
    (downgrade n old ex s).pending = s.pending ∧
    (downgrade n old ex s).now = s.now ∧
    (downgrade n old ex s).free = s.free ∧
    (downgrade n old ex s).power = s.power ∧
    (downgrade n old ex s).host = s.host ∧
    (downgrade n old ex s).lat = s.lat ∧
    (downgrade n old ex s).win = s.win ∧
    (downgrade n old ex s).cfg = s.cfg ∧
    (downgrade n old ex s).boot = s.boot ∧
    (downgrade n old ex s).otp = s.otp ∧
    (downgrade n old ex s).src = s.src ∧
    (downgrade n old ex s).paceFrac = s.paceFrac ∧
    (downgrade n old ex s).mains = s.mains ∧
    (downgrade n old ex s).stitch = s.stitch ∧
    (downgrade n old ex s).chan = s.chan ∧
    (downgrade n old ex s).supply = s.supply ∧
    (downgrade n old ex s).sto = s.sto ∧
    (downgrade n old ex s).spread = s.spread ∧
    (downgrade n old ex s).supv = s.supv ∧
    (downgrade n old ex s).pin = s.pin ∧
    (downgrade n old ex s).seam = s.seam ∧
    (downgrade n old ex s).bak = s.bak ∧
    (downgrade n old ex s).proof = s.proof := by
  unfold downgrade; (try dsimp only); repeat' split
  all_goals (refine ⟨?_, ?_, ?_, ?_, ?_, ?_, ?_, ?_, ?_, ?_, ?_, ?_, ?_, ?_, ?_, ?_, ?_, ?_, ?_, ?_, ?_, ?_, ?_⟩ <;> simp)

@[simp] theorem selectRung_frame (n : Fin 8) (s : State) :
    (selectRung n s).pending = s.pending ∧
    (selectRung n s).now = s.now ∧
    (selectRung n s).free = s.free ∧
    (selectRung n s).power = s.power ∧
    (selectRung n s).host = s.host ∧
    (selectRung n s).lat = s.lat ∧
    (selectRung n s).win = s.win ∧
    (selectRung n s).cfg = s.cfg ∧
    (selectRung n s).boot = s.boot ∧
    (selectRung n s).otp = s.otp ∧
    (selectRung n s).src = s.src ∧
    (selectRung n s).paceFrac = s.paceFrac ∧
    (selectRung n s).mains = s.mains ∧
    (selectRung n s).stitch = s.stitch ∧
    (selectRung n s).chan = s.chan ∧
    (selectRung n s).supply = s.supply ∧
    (selectRung n s).sto = s.sto ∧
    (selectRung n s).spread = s.spread ∧
    (selectRung n s).supv = s.supv ∧
    (selectRung n s).pin = s.pin ∧
    (selectRung n s).seam = s.seam ∧
    (selectRung n s).bak = s.bak ∧
    (selectRung n s).proof = s.proof := by
  unfold selectRung; (try dsimp only); repeat' split
  all_goals (refine ⟨?_, ?_, ?_, ?_, ?_, ?_, ?_, ?_, ?_, ?_, ?_, ?_, ?_, ?_, ?_, ?_, ?_, ?_, ?_, ?_, ?_, ?_, ?_⟩ <;> simp)

@[simp] theorem stepBlend_frame (n : Fin 8) (b : Blend) (s : State) :
    (stepBlend n b s).pending = s.pending ∧
    (stepBlend n b s).now = s.now ∧
    (stepBlend n b s).free = s.free ∧
    (stepBlend n b s).power = s.power ∧
    (stepBlend n b s).host = s.host ∧
    (stepBlend n b s).lat = s.lat ∧
    (stepBlend n b s).win = s.win ∧
    (stepBlend n b s).cfg = s.cfg ∧
    (stepBlend n b s).boot = s.boot ∧
    (stepBlend n b s).otp = s.otp ∧
    (stepBlend n b s).src = s.src ∧
    (stepBlend n b s).paceFrac = s.paceFrac ∧
    (stepBlend n b s).mains = s.mains ∧
    (stepBlend n b s).stitch = s.stitch ∧
    (stepBlend n b s).chan = s.chan ∧
    (stepBlend n b s).supply = s.supply ∧
    (stepBlend n b s).sto = s.sto ∧
    (stepBlend n b s).spread = s.spread ∧
    (stepBlend n b s).supv = s.supv ∧
    (stepBlend n b s).fb = s.fb ∧
    (stepBlend n b s).cnv = s.cnv ∧
    (stepBlend n b s).pin = s.pin ∧
    (stepBlend n b s).seam = s.seam ∧
    (stepBlend n b s).flt = s.flt ∧
    (stepBlend n b s).store = s.store ∧
    (stepBlend n b s).bak = s.bak ∧
    (stepBlend n b s).proof = s.proof := by
  unfold stepBlend; (try dsimp only); repeat' split
  all_goals (refine ⟨?_, ?_, ?_, ?_, ?_, ?_, ?_, ?_, ?_, ?_, ?_, ?_, ?_, ?_, ?_, ?_, ?_, ?_, ?_, ?_, ?_, ?_, ?_, ?_, ?_, ?_, ?_⟩ <;> simp)

@[simp] theorem putRotor_frame (n : Fin 8) (angle : DWord) (speed : Int) (s : State) :
    (putRotor n angle speed s).pending = s.pending ∧
    (putRotor n angle speed s).now = s.now ∧
    (putRotor n angle speed s).free = s.free ∧
    (putRotor n angle speed s).power = s.power ∧
    (putRotor n angle speed s).host = s.host ∧
    (putRotor n angle speed s).lat = s.lat ∧
    (putRotor n angle speed s).win = s.win ∧
    (putRotor n angle speed s).cfg = s.cfg ∧
    (putRotor n angle speed s).boot = s.boot ∧
    (putRotor n angle speed s).otp = s.otp ∧
    (putRotor n angle speed s).paceFrac = s.paceFrac ∧
    (putRotor n angle speed s).mains = s.mains ∧
    (putRotor n angle speed s).stitch = s.stitch ∧
    (putRotor n angle speed s).chan = s.chan ∧
    (putRotor n angle speed s).supply = s.supply ∧
    (putRotor n angle speed s).sto = s.sto ∧
    (putRotor n angle speed s).spread = s.spread ∧
    (putRotor n angle speed s).supv = s.supv ∧
    (putRotor n angle speed s).fb = s.fb ∧
    (putRotor n angle speed s).cnv = s.cnv ∧
    (putRotor n angle speed s).pin = s.pin ∧
    (putRotor n angle speed s).seam = s.seam ∧
    (putRotor n angle speed s).flt = s.flt ∧
    (putRotor n angle speed s).store = s.store ∧
    (putRotor n angle speed s).bak = s.bak ∧
    (putRotor n angle speed s).proof = s.proof := by
  unfold putRotor; (try dsimp only); repeat' split
  all_goals (refine ⟨?_, ?_, ?_, ?_, ?_, ?_, ?_, ?_, ?_, ?_, ?_, ?_, ?_, ?_, ?_, ?_, ?_, ?_, ?_, ?_, ?_, ?_, ?_, ?_, ?_, ?_⟩ <;> simp)

@[simp] theorem stepLadder_frame (n : Fin 8) (s : State) :
    (stepLadder n s).pending = s.pending ∧
    (stepLadder n s).now = s.now ∧
    (stepLadder n s).free = s.free ∧
    (stepLadder n s).power = s.power ∧
    (stepLadder n s).host = s.host ∧
    (stepLadder n s).lat = s.lat ∧
    (stepLadder n s).win = s.win ∧
    (stepLadder n s).cfg = s.cfg ∧
    (stepLadder n s).boot = s.boot ∧
    (stepLadder n s).otp = s.otp ∧
    (stepLadder n s).paceFrac = s.paceFrac ∧
    (stepLadder n s).mains = s.mains ∧
    (stepLadder n s).stitch = s.stitch ∧
    (stepLadder n s).chan = s.chan ∧
    (stepLadder n s).supply = s.supply ∧
    (stepLadder n s).sto = s.sto ∧
    (stepLadder n s).spread = s.spread ∧
    (stepLadder n s).supv = s.supv ∧
    (stepLadder n s).pin = s.pin ∧
    (stepLadder n s).seam = s.seam ∧
    (stepLadder n s).bak = s.bak ∧
    (stepLadder n s).proof = s.proof := by
  unfold stepLadder; (try dsimp only); repeat' split
  all_goals (refine ⟨?_, ?_, ?_, ?_, ?_, ?_, ?_, ?_, ?_, ?_, ?_, ?_, ?_, ?_, ?_, ?_, ?_, ?_, ?_, ?_, ?_, ?_⟩ <;> simp)

@[simp] theorem retakeAngle_frame (n : Fin 8) (s : State) :
    (retakeAngle n s).pending = s.pending ∧
    (retakeAngle n s).now = s.now ∧
    (retakeAngle n s).free = s.free ∧
    (retakeAngle n s).power = s.power ∧
    (retakeAngle n s).host = s.host ∧
    (retakeAngle n s).lat = s.lat ∧
    (retakeAngle n s).win = s.win ∧
    (retakeAngle n s).cfg = s.cfg ∧
    (retakeAngle n s).boot = s.boot ∧
    (retakeAngle n s).otp = s.otp ∧
    (retakeAngle n s).paceFrac = s.paceFrac ∧
    (retakeAngle n s).mains = s.mains ∧
    (retakeAngle n s).stitch = s.stitch ∧
    (retakeAngle n s).chan = s.chan ∧
    (retakeAngle n s).supply = s.supply ∧
    (retakeAngle n s).sto = s.sto ∧
    (retakeAngle n s).spread = s.spread ∧
    (retakeAngle n s).supv = s.supv ∧
    (retakeAngle n s).fb = s.fb ∧
    (retakeAngle n s).cnv = s.cnv ∧
    (retakeAngle n s).pin = s.pin ∧
    (retakeAngle n s).seam = s.seam ∧
    (retakeAngle n s).flt = s.flt ∧
    (retakeAngle n s).store = s.store ∧
    (retakeAngle n s).bak = s.bak ∧
    (retakeAngle n s).proof = s.proof := by
  unfold retakeAngle; (try dsimp only); repeat' split
  all_goals (refine ⟨?_, ?_, ?_, ?_, ?_, ?_, ?_, ?_, ?_, ?_, ?_, ?_, ?_, ?_, ?_, ?_, ?_, ?_, ?_, ?_, ?_, ?_, ?_, ?_, ?_, ?_⟩ <;> simp)

@[simp] theorem probeSucceeds_frame (n : Fin 8) (angle : Word) (s : State) :
    (probeSucceeds n angle s).pending = s.pending ∧
    (probeSucceeds n angle s).now = s.now ∧
    (probeSucceeds n angle s).free = s.free ∧
    (probeSucceeds n angle s).power = s.power ∧
    (probeSucceeds n angle s).host = s.host ∧
    (probeSucceeds n angle s).lat = s.lat ∧
    (probeSucceeds n angle s).win = s.win ∧
    (probeSucceeds n angle s).boot = s.boot ∧
    (probeSucceeds n angle s).otp = s.otp ∧
    (probeSucceeds n angle s).paceFrac = s.paceFrac ∧
    (probeSucceeds n angle s).mains = s.mains ∧
    (probeSucceeds n angle s).stitch = s.stitch ∧
    (probeSucceeds n angle s).chan = s.chan ∧
    (probeSucceeds n angle s).supply = s.supply ∧
    (probeSucceeds n angle s).sto = s.sto ∧
    (probeSucceeds n angle s).spread = s.spread ∧
    (probeSucceeds n angle s).supv = s.supv ∧
    (probeSucceeds n angle s).pin = s.pin ∧
    (probeSucceeds n angle s).seam = s.seam ∧
    (probeSucceeds n angle s).bak = s.bak ∧
    (probeSucceeds n angle s).proof = s.proof := by
  unfold probeSucceeds; (try dsimp only); repeat' split
  all_goals (refine ⟨?_, ?_, ?_, ?_, ?_, ?_, ?_, ?_, ?_, ?_, ?_, ?_, ?_, ?_, ?_, ?_, ?_, ?_, ?_, ?_, ?_⟩ <;> simp)

@[simp] theorem probeAttemptEnd_frame (n : Fin 8) (s : State) :
    (probeAttemptEnd n s).pending = s.pending ∧
    (probeAttemptEnd n s).now = s.now ∧
    (probeAttemptEnd n s).power = s.power ∧
    (probeAttemptEnd n s).host = s.host ∧
    (probeAttemptEnd n s).lat = s.lat ∧
    (probeAttemptEnd n s).win = s.win ∧
    (probeAttemptEnd n s).boot = s.boot ∧
    (probeAttemptEnd n s).otp = s.otp ∧
    (probeAttemptEnd n s).paceFrac = s.paceFrac ∧
    (probeAttemptEnd n s).mains = s.mains ∧
    (probeAttemptEnd n s).stitch = s.stitch ∧
    (probeAttemptEnd n s).chan = s.chan ∧
    (probeAttemptEnd n s).supply = s.supply ∧
    (probeAttemptEnd n s).sto = s.sto ∧
    (probeAttemptEnd n s).spread = s.spread ∧
    (probeAttemptEnd n s).supv = s.supv ∧
    (probeAttemptEnd n s).pin = s.pin ∧
    (probeAttemptEnd n s).seam = s.seam ∧
    (probeAttemptEnd n s).bak = s.bak ∧
    (probeAttemptEnd n s).proof = s.proof := by
  unfold probeAttemptEnd; (try dsimp only); repeat' split
  all_goals (refine ⟨?_, ?_, ?_, ?_, ?_, ?_, ?_, ?_, ?_, ?_, ?_, ?_, ?_, ?_, ?_, ?_, ?_, ?_, ?_, ?_⟩ <;> simp)

@[simp] theorem stepCarrierSource_frame (n : Fin 8) (s : State) :
    (stepCarrierSource n s).pending = s.pending ∧
    (stepCarrierSource n s).now = s.now ∧
    (stepCarrierSource n s).free = s.free ∧
    (stepCarrierSource n s).power = s.power ∧
    (stepCarrierSource n s).host = s.host ∧
    (stepCarrierSource n s).lat = s.lat ∧
    (stepCarrierSource n s).win = s.win ∧
    (stepCarrierSource n s).cfg = s.cfg ∧
    (stepCarrierSource n s).boot = s.boot ∧
    (stepCarrierSource n s).otp = s.otp ∧
    (stepCarrierSource n s).paceFrac = s.paceFrac ∧
    (stepCarrierSource n s).mains = s.mains ∧
    (stepCarrierSource n s).stitch = s.stitch ∧
    (stepCarrierSource n s).axes = s.axes ∧
    (stepCarrierSource n s).chan = s.chan ∧
    (stepCarrierSource n s).supply = s.supply ∧
    (stepCarrierSource n s).sto = s.sto ∧
    (stepCarrierSource n s).spread = s.spread ∧
    (stepCarrierSource n s).supv = s.supv ∧
    (stepCarrierSource n s).fb = s.fb ∧
    (stepCarrierSource n s).cnv = s.cnv ∧
    (stepCarrierSource n s).pin = s.pin ∧
    (stepCarrierSource n s).seam = s.seam ∧
    (stepCarrierSource n s).flt = s.flt ∧
    (stepCarrierSource n s).store = s.store ∧
    (stepCarrierSource n s).bak = s.bak ∧
    (stepCarrierSource n s).proof = s.proof := by
  unfold stepCarrierSource; (try dsimp only); repeat' split
  all_goals (refine ⟨?_, ?_, ?_, ?_, ?_, ?_, ?_, ?_, ?_, ?_, ?_, ?_, ?_, ?_, ?_, ?_, ?_, ?_, ?_, ?_, ?_, ?_, ?_, ?_, ?_, ?_, ?_⟩ <;> simp)

@[simp] theorem holdSource_frame (k : Fin 32) (s : State) :
    (holdSource k s).pending = s.pending ∧
    (holdSource k s).now = s.now ∧
    (holdSource k s).free = s.free ∧
    (holdSource k s).power = s.power ∧
    (holdSource k s).host = s.host ∧
    (holdSource k s).lat = s.lat ∧
    (holdSource k s).win = s.win ∧
    (holdSource k s).cfg = s.cfg ∧
    (holdSource k s).boot = s.boot ∧
    (holdSource k s).otp = s.otp ∧
    (holdSource k s).paceFrac = s.paceFrac ∧
    (holdSource k s).mains = s.mains ∧
    (holdSource k s).stitch = s.stitch ∧
    (holdSource k s).axes = s.axes ∧
    (holdSource k s).chan = s.chan ∧
    (holdSource k s).supply = s.supply ∧
    (holdSource k s).sto = s.sto ∧
    (holdSource k s).spread = s.spread ∧
    (holdSource k s).supv = s.supv ∧
    (holdSource k s).fb = s.fb ∧
    (holdSource k s).cnv = s.cnv ∧
    (holdSource k s).pin = s.pin ∧
    (holdSource k s).seam = s.seam ∧
    (holdSource k s).flt = s.flt ∧
    (holdSource k s).store = s.store ∧
    (holdSource k s).bak = s.bak ∧
    (holdSource k s).proof = s.proof := by
  unfold holdSource; (try dsimp only); repeat' split
  all_goals (refine ⟨?_, ?_, ?_, ?_, ?_, ?_, ?_, ?_, ?_, ?_, ?_, ?_, ?_, ?_, ?_, ?_, ?_, ?_, ?_, ?_, ?_, ?_, ?_, ?_, ?_, ?_, ?_⟩ <;> simp)

@[simp] theorem stepMains_frame (m : Fin 2) (s : State) :
    (stepMains m s).pending = s.pending ∧
    (stepMains m s).now = s.now ∧
    (stepMains m s).free = s.free ∧
    (stepMains m s).power = s.power ∧
    (stepMains m s).host = s.host ∧
    (stepMains m s).lat = s.lat ∧
    (stepMains m s).win = s.win ∧
    (stepMains m s).cfg = s.cfg ∧
    (stepMains m s).boot = s.boot ∧
    (stepMains m s).otp = s.otp ∧
    (stepMains m s).paceFrac = s.paceFrac ∧
    (stepMains m s).stitch = s.stitch ∧
    (stepMains m s).axes = s.axes ∧
    (stepMains m s).chan = s.chan ∧
    (stepMains m s).supply = s.supply ∧
    (stepMains m s).sto = s.sto ∧
    (stepMains m s).spread = s.spread ∧
    (stepMains m s).supv = s.supv ∧
    (stepMains m s).fb = s.fb ∧
    (stepMains m s).cnv = s.cnv ∧
    (stepMains m s).pin = s.pin ∧
    (stepMains m s).seam = s.seam ∧
    (stepMains m s).flt = s.flt ∧
    (stepMains m s).store = s.store ∧
    (stepMains m s).bak = s.bak ∧
    (stepMains m s).proof = s.proof := by
  unfold stepMains; (try dsimp only); repeat' split
  all_goals (refine ⟨?_, ?_, ?_, ?_, ?_, ?_, ?_, ?_, ?_, ?_, ?_, ?_, ?_, ?_, ?_, ?_, ?_, ?_, ?_, ?_, ?_, ?_, ?_, ?_, ?_, ?_⟩ <;> simp)

@[simp] theorem stepSubscription_frame (j : Fin 4) (s : State) :
    (stepSubscription j s).pending = s.pending ∧
    (stepSubscription j s).now = s.now ∧
    (stepSubscription j s).free = s.free ∧
    (stepSubscription j s).power = s.power ∧
    (stepSubscription j s).host = s.host ∧
    (stepSubscription j s).lat = s.lat ∧
    (stepSubscription j s).win = s.win ∧
    (stepSubscription j s).cfg = s.cfg ∧
    (stepSubscription j s).boot = s.boot ∧
    (stepSubscription j s).otp = s.otp ∧
    (stepSubscription j s).paceFrac = s.paceFrac ∧
    (stepSubscription j s).mains = s.mains ∧
    (stepSubscription j s).stitch = s.stitch ∧
    (stepSubscription j s).axes = s.axes ∧
    (stepSubscription j s).chan = s.chan ∧
    (stepSubscription j s).supply = s.supply ∧
    (stepSubscription j s).sto = s.sto ∧
    (stepSubscription j s).spread = s.spread ∧
    (stepSubscription j s).supv = s.supv ∧
    (stepSubscription j s).fb = s.fb ∧
    (stepSubscription j s).cnv = s.cnv ∧
    (stepSubscription j s).pin = s.pin ∧
    (stepSubscription j s).seam = s.seam ∧
    (stepSubscription j s).flt = s.flt ∧
    (stepSubscription j s).store = s.store ∧
    (stepSubscription j s).bak = s.bak ∧
    (stepSubscription j s).proof = s.proof := by
  unfold stepSubscription; (try dsimp only); repeat' split
  all_goals (refine ⟨?_, ?_, ?_, ?_, ?_, ?_, ?_, ?_, ?_, ?_, ?_, ?_, ?_, ?_, ?_, ?_, ?_, ?_, ?_, ?_, ?_, ?_, ?_, ?_, ?_, ?_, ?_⟩ <;> simp)

@[simp] theorem stepPace_frame (j : Fin 2) (s : State) :
    (stepPace j s).pending = s.pending ∧
    (stepPace j s).now = s.now ∧
    (stepPace j s).free = s.free ∧
    (stepPace j s).power = s.power ∧
    (stepPace j s).host = s.host ∧
    (stepPace j s).lat = s.lat ∧
    (stepPace j s).win = s.win ∧
    (stepPace j s).cfg = s.cfg ∧
    (stepPace j s).boot = s.boot ∧
    (stepPace j s).otp = s.otp ∧
    (stepPace j s).mains = s.mains ∧
    (stepPace j s).stitch = s.stitch ∧
    (stepPace j s).axes = s.axes ∧
    (stepPace j s).chan = s.chan ∧
    (stepPace j s).supply = s.supply ∧
    (stepPace j s).sto = s.sto ∧
    (stepPace j s).spread = s.spread ∧
    (stepPace j s).supv = s.supv ∧
    (stepPace j s).fb = s.fb ∧
    (stepPace j s).cnv = s.cnv ∧
    (stepPace j s).pin = s.pin ∧
    (stepPace j s).seam = s.seam ∧
    (stepPace j s).flt = s.flt ∧
    (stepPace j s).store = s.store ∧
    (stepPace j s).bak = s.bak ∧
    (stepPace j s).proof = s.proof := by
  unfold stepPace; (try dsimp only); repeat' split
  all_goals (refine ⟨?_, ?_, ?_, ?_, ?_, ?_, ?_, ?_, ?_, ?_, ?_, ?_, ?_, ?_, ?_, ?_, ?_, ?_, ?_, ?_, ?_, ?_, ?_, ?_, ?_, ?_⟩ <;> simp)

@[simp] theorem stepStation_frame (s : State) :
    (stepStation s).pending = s.pending ∧
    (stepStation s).now = s.now ∧
    (stepStation s).free = s.free ∧
    (stepStation s).power = s.power ∧
    (stepStation s).host = s.host ∧
    (stepStation s).lat = s.lat ∧
    (stepStation s).win = s.win ∧
    (stepStation s).cfg = s.cfg ∧
    (stepStation s).boot = s.boot ∧
    (stepStation s).otp = s.otp ∧
    (stepStation s).stitch = s.stitch ∧
    (stepStation s).axes = s.axes ∧
    (stepStation s).chan = s.chan ∧
    (stepStation s).supply = s.supply ∧
    (stepStation s).sto = s.sto ∧
    (stepStation s).spread = s.spread ∧
    (stepStation s).supv = s.supv ∧
    (stepStation s).fb = s.fb ∧
    (stepStation s).cnv = s.cnv ∧
    (stepStation s).pin = s.pin ∧
    (stepStation s).seam = s.seam ∧
    (stepStation s).flt = s.flt ∧
    (stepStation s).store = s.store ∧
    (stepStation s).bak = s.bak ∧
    (stepStation s).proof = s.proof := by
  unfold stepStation; (try dsimp only); repeat' split
  all_goals (refine ⟨?_, ?_, ?_, ?_, ?_, ?_, ?_, ?_, ?_, ?_, ?_, ?_, ?_, ?_, ?_, ?_, ?_, ?_, ?_, ?_, ?_, ?_, ?_, ?_, ?_⟩ <;> simp)

@[simp] theorem stepOver_frame (k : Fin 32) (s : State) :
    (stepOver k s).pending = s.pending ∧
    (stepOver k s).now = s.now ∧
    (stepOver k s).free = s.free ∧
    (stepOver k s).power = s.power ∧
    (stepOver k s).host = s.host ∧
    (stepOver k s).lat = s.lat ∧
    (stepOver k s).win = s.win ∧
    (stepOver k s).cfg = s.cfg ∧
    (stepOver k s).boot = s.boot ∧
    (stepOver k s).otp = s.otp ∧
    (stepOver k s).paceFrac = s.paceFrac ∧
    (stepOver k s).mains = s.mains ∧
    (stepOver k s).stitch = s.stitch ∧
    (stepOver k s).axes = s.axes ∧
    (stepOver k s).chan = s.chan ∧
    (stepOver k s).supply = s.supply ∧
    (stepOver k s).sto = s.sto ∧
    (stepOver k s).spread = s.spread ∧
    (stepOver k s).supv = s.supv ∧
    (stepOver k s).fb = s.fb ∧
    (stepOver k s).cnv = s.cnv ∧
    (stepOver k s).pin = s.pin ∧
    (stepOver k s).seam = s.seam ∧
    (stepOver k s).flt = s.flt ∧
    (stepOver k s).store = s.store ∧
    (stepOver k s).bak = s.bak ∧
    (stepOver k s).proof = s.proof := by
  unfold stepOver; (try dsimp only); repeat' split
  all_goals (refine ⟨?_, ?_, ?_, ?_, ?_, ?_, ?_, ?_, ?_, ?_, ?_, ?_, ?_, ?_, ?_, ?_, ?_, ?_, ?_, ?_, ?_, ?_, ?_, ?_, ?_, ?_, ?_⟩ <;> simp)

@[simp] theorem stepAngles_frame (s : State) :
    (stepAngles s).pending = s.pending ∧
    (stepAngles s).free = s.free ∧
    (stepAngles s).power = s.power ∧
    (stepAngles s).host = s.host ∧
    (stepAngles s).lat = s.lat ∧
    (stepAngles s).win = s.win ∧
    (stepAngles s).cfg = s.cfg ∧
    (stepAngles s).boot = s.boot ∧
    (stepAngles s).otp = s.otp ∧
    (stepAngles s).stitch = s.stitch ∧
    (stepAngles s).chan = s.chan ∧
    (stepAngles s).supply = s.supply ∧
    (stepAngles s).sto = s.sto ∧
    (stepAngles s).spread = s.spread ∧
    (stepAngles s).supv = s.supv ∧
    (stepAngles s).pin = s.pin ∧
    (stepAngles s).seam = s.seam ∧
    (stepAngles s).bak = s.bak ∧
    (stepAngles s).proof = s.proof := by
  unfold stepAngles; (try dsimp only); repeat' split
  all_goals simp [ite_pending, ite_now, ite_free, ite_power, ite_host, ite_lat, ite_win, ite_cfg, ite_boot, ite_otp, ite_src, ite_paceFrac, ite_mains, ite_stitch, ite_axes, ite_chan, ite_supply, ite_sto, ite_spread, ite_supv, ite_fb, ite_cnv, ite_pin, ite_seam, ite_flt, ite_store, ite_bak, ite_proof]

@[simp] theorem sourceOverSpeed_frame (k : Fin 32) (s : State) :
    (sourceOverSpeed k s).pending = s.pending ∧
    (sourceOverSpeed k s).now = s.now ∧
    (sourceOverSpeed k s).free = s.free ∧
    (sourceOverSpeed k s).power = s.power ∧
    (sourceOverSpeed k s).host = s.host ∧
    (sourceOverSpeed k s).lat = s.lat ∧
    (sourceOverSpeed k s).win = s.win ∧
    (sourceOverSpeed k s).cfg = s.cfg ∧
    (sourceOverSpeed k s).boot = s.boot ∧
    (sourceOverSpeed k s).otp = s.otp ∧
    (sourceOverSpeed k s).paceFrac = s.paceFrac ∧
    (sourceOverSpeed k s).mains = s.mains ∧
    (sourceOverSpeed k s).stitch = s.stitch ∧
    (sourceOverSpeed k s).chan = s.chan ∧
    (sourceOverSpeed k s).supply = s.supply ∧
    (sourceOverSpeed k s).sto = s.sto ∧
    (sourceOverSpeed k s).spread = s.spread ∧
    (sourceOverSpeed k s).supv = s.supv ∧
    (sourceOverSpeed k s).pin = s.pin ∧
    (sourceOverSpeed k s).seam = s.seam ∧
    (sourceOverSpeed k s).store = s.store ∧
    (sourceOverSpeed k s).bak = s.bak ∧
    (sourceOverSpeed k s).proof = s.proof := by
  unfold sourceOverSpeed; (try dsimp only); repeat' split
  all_goals (refine ⟨?_, ?_, ?_, ?_, ?_, ?_, ?_, ?_, ?_, ?_, ?_, ?_, ?_, ?_, ?_, ?_, ?_, ?_, ?_, ?_, ?_, ?_, ?_⟩ <;> simp)

@[simp] theorem mainsLock_frame (m : Fin 2) (s : State) :
    (mainsLock m s).pending = s.pending ∧
    (mainsLock m s).now = s.now ∧
    (mainsLock m s).free = s.free ∧
    (mainsLock m s).power = s.power ∧
    (mainsLock m s).host = s.host ∧
    (mainsLock m s).lat = s.lat ∧
    (mainsLock m s).win = s.win ∧
    (mainsLock m s).cfg = s.cfg ∧
    (mainsLock m s).boot = s.boot ∧
    (mainsLock m s).otp = s.otp ∧
    (mainsLock m s).src = s.src ∧
    (mainsLock m s).paceFrac = s.paceFrac ∧
    (mainsLock m s).stitch = s.stitch ∧
    (mainsLock m s).axes = s.axes ∧
    (mainsLock m s).chan = s.chan ∧
    (mainsLock m s).supply = s.supply ∧
    (mainsLock m s).sto = s.sto ∧
    (mainsLock m s).spread = s.spread ∧
    (mainsLock m s).supv = s.supv ∧
    (mainsLock m s).fb = s.fb ∧
    (mainsLock m s).cnv = s.cnv ∧
    (mainsLock m s).pin = s.pin ∧
    (mainsLock m s).seam = s.seam ∧
    (mainsLock m s).flt = s.flt ∧
    (mainsLock m s).store = s.store ∧
    (mainsLock m s).bak = s.bak ∧
    (mainsLock m s).proof = s.proof := by
  unfold mainsLock; (try dsimp only); repeat' split
  all_goals (refine ⟨?_, ?_, ?_, ?_, ?_, ?_, ?_, ?_, ?_, ?_, ?_, ?_, ?_, ?_, ?_, ?_, ?_, ?_, ?_, ?_, ?_, ?_, ?_, ?_, ?_, ?_, ?_⟩ <;> simp)

@[simp] theorem mainsOutOfRange_frame (m : Fin 2) (freq : Word) (s : State) :
    (mainsOutOfRange m freq s).pending = s.pending ∧
    (mainsOutOfRange m freq s).now = s.now ∧
    (mainsOutOfRange m freq s).free = s.free ∧
    (mainsOutOfRange m freq s).power = s.power ∧
    (mainsOutOfRange m freq s).host = s.host ∧
    (mainsOutOfRange m freq s).lat = s.lat ∧
    (mainsOutOfRange m freq s).win = s.win ∧
    (mainsOutOfRange m freq s).cfg = s.cfg ∧
    (mainsOutOfRange m freq s).boot = s.boot ∧
    (mainsOutOfRange m freq s).otp = s.otp ∧
    (mainsOutOfRange m freq s).src = s.src ∧
    (mainsOutOfRange m freq s).paceFrac = s.paceFrac ∧
    (mainsOutOfRange m freq s).stitch = s.stitch ∧
    (mainsOutOfRange m freq s).axes = s.axes ∧
    (mainsOutOfRange m freq s).chan = s.chan ∧
    (mainsOutOfRange m freq s).supply = s.supply ∧
    (mainsOutOfRange m freq s).sto = s.sto ∧
    (mainsOutOfRange m freq s).spread = s.spread ∧
    (mainsOutOfRange m freq s).supv = s.supv ∧
    (mainsOutOfRange m freq s).pin = s.pin ∧
    (mainsOutOfRange m freq s).seam = s.seam ∧
    (mainsOutOfRange m freq s).store = s.store ∧
    (mainsOutOfRange m freq s).bak = s.bak ∧
    (mainsOutOfRange m freq s).proof = s.proof := by
  unfold mainsOutOfRange; (try dsimp only); repeat' split
  all_goals (refine ⟨?_, ?_, ?_, ?_, ?_, ?_, ?_, ?_, ?_, ?_, ?_, ?_, ?_, ?_, ?_, ?_, ?_, ?_, ?_, ?_, ?_, ?_, ?_, ?_⟩ <;> simp)

@[simp] theorem ladderUpgrade_frame (n : Fin 8) (s : State) :
    (ladderUpgrade n s).pending = s.pending ∧
    (ladderUpgrade n s).now = s.now ∧
    (ladderUpgrade n s).free = s.free ∧
    (ladderUpgrade n s).power = s.power ∧
    (ladderUpgrade n s).host = s.host ∧
    (ladderUpgrade n s).lat = s.lat ∧
    (ladderUpgrade n s).win = s.win ∧
    (ladderUpgrade n s).cfg = s.cfg ∧
    (ladderUpgrade n s).boot = s.boot ∧
    (ladderUpgrade n s).otp = s.otp ∧
    (ladderUpgrade n s).src = s.src ∧
    (ladderUpgrade n s).paceFrac = s.paceFrac ∧
    (ladderUpgrade n s).mains = s.mains ∧
    (ladderUpgrade n s).stitch = s.stitch ∧
    (ladderUpgrade n s).chan = s.chan ∧
    (ladderUpgrade n s).supply = s.supply ∧
    (ladderUpgrade n s).sto = s.sto ∧
    (ladderUpgrade n s).spread = s.spread ∧
    (ladderUpgrade n s).supv = s.supv ∧
    (ladderUpgrade n s).fb = s.fb ∧
    (ladderUpgrade n s).cnv = s.cnv ∧
    (ladderUpgrade n s).pin = s.pin ∧
    (ladderUpgrade n s).seam = s.seam ∧
    (ladderUpgrade n s).flt = s.flt ∧
    (ladderUpgrade n s).store = s.store ∧
    (ladderUpgrade n s).bak = s.bak ∧
    (ladderUpgrade n s).proof = s.proof := by
  unfold ladderUpgrade; (try dsimp only); repeat' split
  all_goals (refine ⟨?_, ?_, ?_, ?_, ?_, ?_, ?_, ?_, ?_, ?_, ?_, ?_, ?_, ?_, ?_, ?_, ?_, ?_, ?_, ?_, ?_, ?_, ?_, ?_, ?_, ?_, ?_⟩ <;> simp)

@[simp] theorem blendComplete_frame (n : Fin 8) (s : State) :
    (blendComplete n s).pending = s.pending ∧
    (blendComplete n s).now = s.now ∧
    (blendComplete n s).free = s.free ∧
    (blendComplete n s).power = s.power ∧
    (blendComplete n s).host = s.host ∧
    (blendComplete n s).lat = s.lat ∧
    (blendComplete n s).win = s.win ∧
    (blendComplete n s).cfg = s.cfg ∧
    (blendComplete n s).boot = s.boot ∧
    (blendComplete n s).otp = s.otp ∧
    (blendComplete n s).src = s.src ∧
    (blendComplete n s).paceFrac = s.paceFrac ∧
    (blendComplete n s).mains = s.mains ∧
    (blendComplete n s).stitch = s.stitch ∧
    (blendComplete n s).chan = s.chan ∧
    (blendComplete n s).supply = s.supply ∧
    (blendComplete n s).sto = s.sto ∧
    (blendComplete n s).spread = s.spread ∧
    (blendComplete n s).supv = s.supv ∧
    (blendComplete n s).pin = s.pin ∧
    (blendComplete n s).seam = s.seam ∧
    (blendComplete n s).bak = s.bak ∧
    (blendComplete n s).proof = s.proof := by
  unfold blendComplete; (try dsimp only); repeat' split
  all_goals (refine ⟨?_, ?_, ?_, ?_, ?_, ?_, ?_, ?_, ?_, ?_, ?_, ?_, ?_, ?_, ?_, ?_, ?_, ?_, ?_, ?_, ?_, ?_, ?_⟩ <;> simp)

@[simp] theorem reselect_frame (n : Fin 8) (s : State) :
    (reselect n s).pending = s.pending ∧
    (reselect n s).now = s.now ∧
    (reselect n s).free = s.free ∧
    (reselect n s).power = s.power ∧
    (reselect n s).host = s.host ∧
    (reselect n s).lat = s.lat ∧
    (reselect n s).win = s.win ∧
    (reselect n s).cfg = s.cfg ∧
    (reselect n s).boot = s.boot ∧
    (reselect n s).otp = s.otp ∧
    (reselect n s).paceFrac = s.paceFrac ∧
    (reselect n s).mains = s.mains ∧
    (reselect n s).stitch = s.stitch ∧
    (reselect n s).chan = s.chan ∧
    (reselect n s).supply = s.supply ∧
    (reselect n s).sto = s.sto ∧
    (reselect n s).spread = s.spread ∧
    (reselect n s).supv = s.supv ∧
    (reselect n s).pin = s.pin ∧
    (reselect n s).seam = s.seam ∧
    (reselect n s).bak = s.bak ∧
    (reselect n s).proof = s.proof := by
  unfold reselect; (try dsimp only); repeat' split
  all_goals (refine ⟨?_, ?_, ?_, ?_, ?_, ?_, ?_, ?_, ?_, ?_, ?_, ?_, ?_, ?_, ?_, ?_, ?_, ?_, ?_, ?_, ?_, ?_⟩ <;> simp)

@[simp] theorem holdExpiry_frame (n : Fin 8) (s : State) :
    (holdExpiry n s).pending = s.pending ∧
    (holdExpiry n s).now = s.now ∧
    (holdExpiry n s).free = s.free ∧
    (holdExpiry n s).power = s.power ∧
    (holdExpiry n s).host = s.host ∧
    (holdExpiry n s).lat = s.lat ∧
    (holdExpiry n s).win = s.win ∧
    (holdExpiry n s).cfg = s.cfg ∧
    (holdExpiry n s).boot = s.boot ∧
    (holdExpiry n s).otp = s.otp ∧
    (holdExpiry n s).paceFrac = s.paceFrac ∧
    (holdExpiry n s).mains = s.mains ∧
    (holdExpiry n s).stitch = s.stitch ∧
    (holdExpiry n s).chan = s.chan ∧
    (holdExpiry n s).supply = s.supply ∧
    (holdExpiry n s).sto = s.sto ∧
    (holdExpiry n s).spread = s.spread ∧
    (holdExpiry n s).supv = s.supv ∧
    (holdExpiry n s).pin = s.pin ∧
    (holdExpiry n s).seam = s.seam ∧
    (holdExpiry n s).bak = s.bak ∧
    (holdExpiry n s).proof = s.proof := by
  unfold holdExpiry; (try dsimp only); repeat' split
  all_goals (refine ⟨?_, ?_, ?_, ?_, ?_, ?_, ?_, ?_, ?_, ?_, ?_, ?_, ?_, ?_, ?_, ?_, ?_, ?_, ?_, ?_, ?_, ?_⟩ <;> simp)

/-! ### Swap -/

@[simp] theorem wordGroups_frame (s : State) :
    (wordGroups s).pending = s.pending ∧
    (wordGroups s).now = s.now ∧
    (wordGroups s).free = s.free ∧
    (wordGroups s).power = s.power ∧
    (wordGroups s).host = s.host ∧
    (wordGroups s).lat = s.lat ∧
    (wordGroups s).win = s.win ∧
    (wordGroups s).cfg = s.cfg ∧
    (wordGroups s).boot = s.boot ∧
    (wordGroups s).otp = s.otp ∧
    (wordGroups s).src = s.src ∧
    (wordGroups s).paceFrac = s.paceFrac ∧
    (wordGroups s).mains = s.mains ∧
    (wordGroups s).stitch = s.stitch ∧
    (wordGroups s).chan = s.chan ∧
    (wordGroups s).supply = s.supply ∧
    (wordGroups s).sto = s.sto ∧
    (wordGroups s).spread = s.spread ∧
    (wordGroups s).supv = s.supv ∧
    (wordGroups s).fb = s.fb ∧
    (wordGroups s).cnv = s.cnv ∧
    (wordGroups s).pin = s.pin ∧
    (wordGroups s).seam = s.seam ∧
    (wordGroups s).flt = s.flt ∧
    (wordGroups s).store = s.store ∧
    (wordGroups s).bak = s.bak ∧
    (wordGroups s).proof = s.proof := by
  unfold wordGroups; (try dsimp only); repeat' split
  all_goals (refine ⟨?_, ?_, ?_, ?_, ?_, ?_, ?_, ?_, ?_, ?_, ?_, ?_, ?_, ?_, ?_, ?_, ?_, ?_, ?_, ?_, ?_, ?_, ?_, ?_, ?_, ?_, ?_⟩ <;> simp)

@[simp] theorem takeGroups_frame (s : State) :
    (takeGroups s).pending = s.pending ∧
    (takeGroups s).now = s.now ∧
    (takeGroups s).free = s.free ∧
    (takeGroups s).power = s.power ∧
    (takeGroups s).host = s.host ∧
    (takeGroups s).lat = s.lat ∧
    (takeGroups s).win = s.win ∧
    (takeGroups s).cfg = s.cfg ∧
    (takeGroups s).boot = s.boot ∧
    (takeGroups s).otp = s.otp ∧
    (takeGroups s).src = s.src ∧
    (takeGroups s).paceFrac = s.paceFrac ∧
    (takeGroups s).mains = s.mains ∧
    (takeGroups s).stitch = s.stitch ∧
    (takeGroups s).chan = s.chan ∧
    (takeGroups s).supply = s.supply ∧
    (takeGroups s).sto = s.sto ∧
    (takeGroups s).spread = s.spread ∧
    (takeGroups s).supv = s.supv ∧
    (takeGroups s).fb = s.fb ∧
    (takeGroups s).cnv = s.cnv ∧
    (takeGroups s).pin = s.pin ∧
    (takeGroups s).seam = s.seam ∧
    (takeGroups s).flt = s.flt ∧
    (takeGroups s).store = s.store ∧
    (takeGroups s).bak = s.bak ∧
    (takeGroups s).proof = s.proof := by
  unfold takeGroups; (try dsimp only); repeat' split
  all_goals (refine ⟨?_, ?_, ?_, ?_, ?_, ?_, ?_, ?_, ?_, ?_, ?_, ?_, ?_, ?_, ?_, ?_, ?_, ?_, ?_, ?_, ?_, ?_, ?_, ?_, ?_, ?_, ?_⟩ <;> simp)

@[simp] theorem settleGroup_frame (n : Fin 8) (was : AxSt) (s : State) :
    (settleGroup n was s).pending = s.pending ∧
    (settleGroup n was s).now = s.now ∧
    (settleGroup n was s).free = s.free ∧
    (settleGroup n was s).power = s.power ∧
    (settleGroup n was s).host = s.host ∧
    (settleGroup n was s).lat = s.lat ∧
    (settleGroup n was s).win = s.win ∧
    (settleGroup n was s).cfg = s.cfg ∧
    (settleGroup n was s).boot = s.boot ∧
    (settleGroup n was s).otp = s.otp ∧
    (settleGroup n was s).src = s.src ∧
    (settleGroup n was s).paceFrac = s.paceFrac ∧
    (settleGroup n was s).mains = s.mains ∧
    (settleGroup n was s).stitch = s.stitch ∧
    (settleGroup n was s).chan = s.chan ∧
    (settleGroup n was s).supply = s.supply ∧
    (settleGroup n was s).sto = s.sto ∧
    (settleGroup n was s).spread = s.spread ∧
    (settleGroup n was s).supv = s.supv ∧
    (settleGroup n was s).fb = s.fb ∧
    (settleGroup n was s).cnv = s.cnv ∧
    (settleGroup n was s).pin = s.pin ∧
    (settleGroup n was s).seam = s.seam ∧
    (settleGroup n was s).flt = s.flt ∧
    (settleGroup n was s).bak = s.bak ∧
    (settleGroup n was s).proof = s.proof := by
  unfold settleGroup; (try dsimp only); repeat' split
  all_goals (refine ⟨?_, ?_, ?_, ?_, ?_, ?_, ?_, ?_, ?_, ?_, ?_, ?_, ?_, ?_, ?_, ?_, ?_, ?_, ?_, ?_, ?_, ?_, ?_, ?_, ?_, ?_⟩ <;> simp)

@[simp] theorem regroup_frame (old : State) (n : Fin 8) (s : State) :
    (regroup old n s).pending = s.pending ∧
    (regroup old n s).now = s.now ∧
    (regroup old n s).free = s.free ∧
    (regroup old n s).power = s.power ∧
    (regroup old n s).host = s.host ∧
    (regroup old n s).lat = s.lat ∧
    (regroup old n s).win = s.win ∧
    (regroup old n s).cfg = s.cfg ∧
    (regroup old n s).boot = s.boot ∧
    (regroup old n s).otp = s.otp ∧
    (regroup old n s).src = s.src ∧
    (regroup old n s).paceFrac = s.paceFrac ∧
    (regroup old n s).mains = s.mains ∧
    (regroup old n s).stitch = s.stitch ∧
    (regroup old n s).chan = s.chan ∧
    (regroup old n s).supply = s.supply ∧
    (regroup old n s).sto = s.sto ∧
    (regroup old n s).spread = s.spread ∧
    (regroup old n s).supv = s.supv ∧
    (regroup old n s).fb = s.fb ∧
    (regroup old n s).cnv = s.cnv ∧
    (regroup old n s).pin = s.pin ∧
    (regroup old n s).seam = s.seam ∧
    (regroup old n s).flt = s.flt ∧
    (regroup old n s).bak = s.bak ∧
    (regroup old n s).proof = s.proof := by
  unfold regroup; (try dsimp only); repeat' split
  all_goals (refine ⟨?_, ?_, ?_, ?_, ?_, ?_, ?_, ?_, ?_, ?_, ?_, ?_, ?_, ?_, ?_, ?_, ?_, ?_, ?_, ?_, ?_, ?_, ?_, ?_, ?_, ?_⟩ <;> simp)

@[simp] theorem afterAxis_frame (old : State) (n : Fin 8) (s : State) :
    (afterAxis old n s).pending = s.pending ∧
    (afterAxis old n s).now = s.now ∧
    (afterAxis old n s).free = s.free ∧
    (afterAxis old n s).power = s.power ∧
    (afterAxis old n s).host = s.host ∧
    (afterAxis old n s).lat = s.lat ∧
    (afterAxis old n s).win = s.win ∧
    (afterAxis old n s).cfg = s.cfg ∧
    (afterAxis old n s).boot = s.boot ∧
    (afterAxis old n s).otp = s.otp ∧
    (afterAxis old n s).paceFrac = s.paceFrac ∧
    (afterAxis old n s).mains = s.mains ∧
    (afterAxis old n s).stitch = s.stitch ∧
    (afterAxis old n s).chan = s.chan ∧
    (afterAxis old n s).supply = s.supply ∧
    (afterAxis old n s).sto = s.sto ∧
    (afterAxis old n s).spread = s.spread ∧
    (afterAxis old n s).supv = s.supv ∧
    (afterAxis old n s).pin = s.pin ∧
    (afterAxis old n s).seam = s.seam ∧
    (afterAxis old n s).flt = s.flt ∧
    (afterAxis old n s).bak = s.bak ∧
    (afterAxis old n s).proof = s.proof := by
  unfold afterAxis; (try dsimp only); repeat' split
  all_goals (refine ⟨?_, ?_, ?_, ?_, ?_, ?_, ?_, ?_, ?_, ?_, ?_, ?_, ?_, ?_, ?_, ?_, ?_, ?_, ?_, ?_, ?_, ?_, ?_⟩ <;> simp)

@[simp] theorem takeAxis_frame (n : Fin 8) (s : State) :
    (takeAxis n s).pending = s.pending ∧
    (takeAxis n s).now = s.now ∧
    (takeAxis n s).free = s.free ∧
    (takeAxis n s).power = s.power ∧
    (takeAxis n s).host = s.host ∧
    (takeAxis n s).lat = s.lat ∧
    (takeAxis n s).win = s.win ∧
    (takeAxis n s).boot = s.boot ∧
    (takeAxis n s).otp = s.otp ∧
    (takeAxis n s).paceFrac = s.paceFrac ∧
    (takeAxis n s).mains = s.mains ∧
    (takeAxis n s).stitch = s.stitch ∧
    (takeAxis n s).chan = s.chan ∧
    (takeAxis n s).supply = s.supply ∧
    (takeAxis n s).sto = s.sto ∧
    (takeAxis n s).spread = s.spread ∧
    (takeAxis n s).supv = s.supv ∧
    (takeAxis n s).pin = s.pin ∧
    (takeAxis n s).seam = s.seam ∧
    (takeAxis n s).flt = s.flt ∧
    (takeAxis n s).bak = s.bak ∧
    (takeAxis n s).proof = s.proof := by
  unfold takeAxis; (try dsimp only); repeat' split
  all_goals (refine ⟨?_, ?_, ?_, ?_, ?_, ?_, ?_, ?_, ?_, ?_, ?_, ?_, ?_, ?_, ?_, ?_, ?_, ?_, ?_, ?_, ?_, ?_⟩ <;> simp)

@[simp] theorem finishApply_frame (s : State) :
    (finishApply s).pending = s.pending ∧
    (finishApply s).now = s.now ∧
    (finishApply s).free = s.free ∧
    (finishApply s).power = s.power ∧
    (finishApply s).host = s.host ∧
    (finishApply s).lat = s.lat ∧
    (finishApply s).win = s.win ∧
    (finishApply s).boot = s.boot ∧
    (finishApply s).otp = s.otp ∧
    (finishApply s).src = s.src ∧
    (finishApply s).paceFrac = s.paceFrac ∧
    (finishApply s).mains = s.mains ∧
    (finishApply s).stitch = s.stitch ∧
    (finishApply s).axes = s.axes ∧
    (finishApply s).chan = s.chan ∧
    (finishApply s).supply = s.supply ∧
    (finishApply s).sto = s.sto ∧
    (finishApply s).spread = s.spread ∧
    (finishApply s).supv = s.supv ∧
    (finishApply s).fb = s.fb ∧
    (finishApply s).cnv = s.cnv ∧
    (finishApply s).pin = s.pin ∧
    (finishApply s).seam = s.seam ∧
    (finishApply s).flt = s.flt ∧
    (finishApply s).store = s.store ∧
    (finishApply s).bak = s.bak ∧
    (finishApply s).proof = s.proof := by
  unfold finishApply; (try dsimp only); repeat' split
  all_goals (refine ⟨?_, ?_, ?_, ?_, ?_, ?_, ?_, ?_, ?_, ?_, ?_, ?_, ?_, ?_, ?_, ?_, ?_, ?_, ?_, ?_, ?_, ?_, ?_, ?_, ?_, ?_, ?_⟩ <;> simp)

@[simp] theorem takeWaiting_frame (n : Fin 8) (s : State) :
    (takeWaiting n s).pending = s.pending ∧
    (takeWaiting n s).now = s.now ∧
    (takeWaiting n s).free = s.free ∧
    (takeWaiting n s).power = s.power ∧
    (takeWaiting n s).host = s.host ∧
    (takeWaiting n s).lat = s.lat ∧
    (takeWaiting n s).win = s.win ∧
    (takeWaiting n s).boot = s.boot ∧
    (takeWaiting n s).otp = s.otp ∧
    (takeWaiting n s).paceFrac = s.paceFrac ∧
    (takeWaiting n s).mains = s.mains ∧
    (takeWaiting n s).stitch = s.stitch ∧
    (takeWaiting n s).chan = s.chan ∧
    (takeWaiting n s).supply = s.supply ∧
    (takeWaiting n s).sto = s.sto ∧
    (takeWaiting n s).spread = s.spread ∧
    (takeWaiting n s).supv = s.supv ∧
    (takeWaiting n s).pin = s.pin ∧
    (takeWaiting n s).seam = s.seam ∧
    (takeWaiting n s).flt = s.flt ∧
    (takeWaiting n s).bak = s.bak ∧
    (takeWaiting n s).proof = s.proof := by
  unfold takeWaiting; (try dsimp only); repeat' split
  all_goals (refine ⟨?_, ?_, ?_, ?_, ?_, ?_, ?_, ?_, ?_, ?_, ?_, ?_, ?_, ?_, ?_, ?_, ?_, ?_, ?_, ?_, ?_, ?_⟩ <;> simp)

/-! ### Carrier -/

@[simp] theorem periodTakes_frame (n : Fin 8) (s : State) :
    (periodTakes n s).pending = s.pending ∧
    (periodTakes n s).now = s.now ∧
    (periodTakes n s).free = s.free ∧
    (periodTakes n s).power = s.power ∧
    (periodTakes n s).host = s.host ∧
    (periodTakes n s).lat = s.lat ∧
    (periodTakes n s).win = s.win ∧
    (periodTakes n s).boot = s.boot ∧
    (periodTakes n s).otp = s.otp ∧
    (periodTakes n s).paceFrac = s.paceFrac ∧
    (periodTakes n s).mains = s.mains ∧
    (periodTakes n s).stitch = s.stitch ∧
    (periodTakes n s).chan = s.chan ∧
    (periodTakes n s).supply = s.supply ∧
    (periodTakes n s).sto = s.sto ∧
    (periodTakes n s).spread = s.spread ∧
    (periodTakes n s).supv = s.supv ∧
    (periodTakes n s).pin = s.pin ∧
    (periodTakes n s).seam = s.seam ∧
    (periodTakes n s).flt = s.flt ∧
    (periodTakes n s).bak = s.bak ∧
    (periodTakes n s).proof = s.proof := by
  unfold periodTakes; (try dsimp only); repeat' split
  all_goals (refine ⟨?_, ?_, ?_, ?_, ?_, ?_, ?_, ?_, ?_, ?_, ?_, ?_, ?_, ?_, ?_, ?_, ?_, ?_, ?_, ?_, ?_, ?_⟩ <;> simp)

@[simp] theorem leaderPeriod_frame (n : Fin 8) (dt e : Nat) (s : State) :
    (leaderPeriod n dt e s).pending = s.pending ∧
    (leaderPeriod n dt e s).now = s.now ∧
    (leaderPeriod n dt e s).free = s.free ∧
    (leaderPeriod n dt e s).power = s.power ∧
    (leaderPeriod n dt e s).host = s.host ∧
    (leaderPeriod n dt e s).lat = s.lat ∧
    (leaderPeriod n dt e s).win = s.win ∧
    (leaderPeriod n dt e s).boot = s.boot ∧
    (leaderPeriod n dt e s).otp = s.otp ∧
    (leaderPeriod n dt e s).paceFrac = s.paceFrac ∧
    (leaderPeriod n dt e s).mains = s.mains ∧
    (leaderPeriod n dt e s).stitch = s.stitch ∧
    (leaderPeriod n dt e s).chan = s.chan ∧
    (leaderPeriod n dt e s).supply = s.supply ∧
    (leaderPeriod n dt e s).sto = s.sto ∧
    (leaderPeriod n dt e s).spread = s.spread ∧
    (leaderPeriod n dt e s).supv = s.supv ∧
    (leaderPeriod n dt e s).pin = s.pin ∧
    (leaderPeriod n dt e s).seam = s.seam ∧
    (leaderPeriod n dt e s).flt = s.flt ∧
    (leaderPeriod n dt e s).bak = s.bak ∧
    (leaderPeriod n dt e s).proof = s.proof := by
  unfold leaderPeriod; (try dsimp only); repeat' split
  all_goals (refine ⟨?_, ?_, ?_, ?_, ?_, ?_, ?_, ?_, ?_, ?_, ?_, ?_, ?_, ?_, ?_, ?_, ?_, ?_, ?_, ?_, ?_, ?_⟩ <;> simp)

@[simp] theorem memberPeriod_frame (n : Fin 8) (e : Nat) (s : State) :
    (memberPeriod n e s).pending = s.pending ∧
    (memberPeriod n e s).now = s.now ∧
    (memberPeriod n e s).free = s.free ∧
    (memberPeriod n e s).power = s.power ∧
    (memberPeriod n e s).host = s.host ∧
    (memberPeriod n e s).lat = s.lat ∧
    (memberPeriod n e s).win = s.win ∧
    (memberPeriod n e s).boot = s.boot ∧
    (memberPeriod n e s).otp = s.otp ∧
    (memberPeriod n e s).paceFrac = s.paceFrac ∧
    (memberPeriod n e s).mains = s.mains ∧
    (memberPeriod n e s).stitch = s.stitch ∧
    (memberPeriod n e s).chan = s.chan ∧
    (memberPeriod n e s).supply = s.supply ∧
    (memberPeriod n e s).sto = s.sto ∧
    (memberPeriod n e s).spread = s.spread ∧
    (memberPeriod n e s).supv = s.supv ∧
    (memberPeriod n e s).pin = s.pin ∧
    (memberPeriod n e s).seam = s.seam ∧
    (memberPeriod n e s).flt = s.flt ∧
    (memberPeriod n e s).bak = s.bak ∧
    (memberPeriod n e s).proof = s.proof := by
  unfold memberPeriod; (try dsimp only); repeat' split
  all_goals (refine ⟨?_, ?_, ?_, ?_, ?_, ?_, ?_, ?_, ?_, ?_, ?_, ?_, ?_, ?_, ?_, ?_, ?_, ?_, ?_, ?_, ?_, ?_⟩ <;> simp)

@[simp] theorem parkCarrier_frame (m : Fin 8) (x : Nat) (s : State) :
    (parkCarrier m x s).pending = s.pending ∧
    (parkCarrier m x s).now = s.now ∧
    (parkCarrier m x s).free = s.free ∧
    (parkCarrier m x s).power = s.power ∧
    (parkCarrier m x s).host = s.host ∧
    (parkCarrier m x s).lat = s.lat ∧
    (parkCarrier m x s).win = s.win ∧
    (parkCarrier m x s).cfg = s.cfg ∧
    (parkCarrier m x s).boot = s.boot ∧
    (parkCarrier m x s).otp = s.otp ∧
    (parkCarrier m x s).src = s.src ∧
    (parkCarrier m x s).paceFrac = s.paceFrac ∧
    (parkCarrier m x s).mains = s.mains ∧
    (parkCarrier m x s).stitch = s.stitch ∧
    (parkCarrier m x s).chan = s.chan ∧
    (parkCarrier m x s).supply = s.supply ∧
    (parkCarrier m x s).sto = s.sto ∧
    (parkCarrier m x s).spread = s.spread ∧
    (parkCarrier m x s).supv = s.supv ∧
    (parkCarrier m x s).fb = s.fb ∧
    (parkCarrier m x s).cnv = s.cnv ∧
    (parkCarrier m x s).pin = s.pin ∧
    (parkCarrier m x s).seam = s.seam ∧
    (parkCarrier m x s).flt = s.flt ∧
    (parkCarrier m x s).store = s.store ∧
    (parkCarrier m x s).bak = s.bak ∧
    (parkCarrier m x s).proof = s.proof := by
  unfold parkCarrier; (try dsimp only); repeat' split
  all_goals (refine ⟨?_, ?_, ?_, ?_, ?_, ?_, ?_, ?_, ?_, ?_, ?_, ?_, ?_, ?_, ?_, ?_, ?_, ?_, ?_, ?_, ?_, ?_, ?_, ?_, ?_, ?_, ?_⟩ <;> simp)

@[simp] theorem startPeriod_frame (n : Fin 8) (e : Nat) (s : State) :
    (startPeriod n e s).pending = s.pending ∧
    (startPeriod n e s).now = s.now ∧
    (startPeriod n e s).free = s.free ∧
    (startPeriod n e s).power = s.power ∧
    (startPeriod n e s).host = s.host ∧
    (startPeriod n e s).lat = s.lat ∧
    (startPeriod n e s).win = s.win ∧
    (startPeriod n e s).boot = s.boot ∧
    (startPeriod n e s).otp = s.otp ∧
    (startPeriod n e s).paceFrac = s.paceFrac ∧
    (startPeriod n e s).mains = s.mains ∧
    (startPeriod n e s).stitch = s.stitch ∧
    (startPeriod n e s).chan = s.chan ∧
    (startPeriod n e s).supply = s.supply ∧
    (startPeriod n e s).sto = s.sto ∧
    (startPeriod n e s).spread = s.spread ∧
    (startPeriod n e s).supv = s.supv ∧
    (startPeriod n e s).pin = s.pin ∧
    (startPeriod n e s).seam = s.seam ∧
    (startPeriod n e s).flt = s.flt ∧
    (startPeriod n e s).bak = s.bak ∧
    (startPeriod n e s).proof = s.proof := by
  unfold startPeriod; (try dsimp only); repeat' split
  all_goals (refine ⟨?_, ?_, ?_, ?_, ?_, ?_, ?_, ?_, ?_, ?_, ?_, ?_, ?_, ?_, ?_, ?_, ?_, ?_, ?_, ?_, ?_, ?_⟩ <;> simp)

@[simp] theorem countSkipped_frame (n : Fin 8) (s : State) :
    (countSkipped n s).pending = s.pending ∧
    (countSkipped n s).now = s.now ∧
    (countSkipped n s).free = s.free ∧
    (countSkipped n s).power = s.power ∧
    (countSkipped n s).host = s.host ∧
    (countSkipped n s).lat = s.lat ∧
    (countSkipped n s).win = s.win ∧
    (countSkipped n s).cfg = s.cfg ∧
    (countSkipped n s).boot = s.boot ∧
    (countSkipped n s).otp = s.otp ∧
    (countSkipped n s).src = s.src ∧
    (countSkipped n s).paceFrac = s.paceFrac ∧
    (countSkipped n s).mains = s.mains ∧
    (countSkipped n s).axes = s.axes ∧
    (countSkipped n s).chan = s.chan ∧
    (countSkipped n s).supply = s.supply ∧
    (countSkipped n s).sto = s.sto ∧
    (countSkipped n s).spread = s.spread ∧
    (countSkipped n s).supv = s.supv ∧
    (countSkipped n s).fb = s.fb ∧
    (countSkipped n s).cnv = s.cnv ∧
    (countSkipped n s).pin = s.pin ∧
    (countSkipped n s).seam = s.seam ∧
    (countSkipped n s).flt = s.flt ∧
    (countSkipped n s).store = s.store ∧
    (countSkipped n s).bak = s.bak ∧
    (countSkipped n s).proof = s.proof := by
  unfold countSkipped; (try dsimp only); repeat' split
  all_goals (refine ⟨?_, ?_, ?_, ?_, ?_, ?_, ?_, ?_, ?_, ?_, ?_, ?_, ?_, ?_, ?_, ?_, ?_, ?_, ?_, ?_, ?_, ?_, ?_, ?_, ?_, ?_, ?_⟩ <;> simp)

@[simp] theorem restartAngle_frame (n : Fin 8) (s : State) :
    (restartAngle n s).pending = s.pending ∧
    (restartAngle n s).now = s.now ∧
    (restartAngle n s).free = s.free ∧
    (restartAngle n s).power = s.power ∧
    (restartAngle n s).host = s.host ∧
    (restartAngle n s).lat = s.lat ∧
    (restartAngle n s).win = s.win ∧
    (restartAngle n s).cfg = s.cfg ∧
    (restartAngle n s).boot = s.boot ∧
    (restartAngle n s).otp = s.otp ∧
    (restartAngle n s).paceFrac = s.paceFrac ∧
    (restartAngle n s).mains = s.mains ∧
    (restartAngle n s).stitch = s.stitch ∧
    (restartAngle n s).axes = s.axes ∧
    (restartAngle n s).chan = s.chan ∧
    (restartAngle n s).supply = s.supply ∧
    (restartAngle n s).sto = s.sto ∧
    (restartAngle n s).spread = s.spread ∧
    (restartAngle n s).supv = s.supv ∧
    (restartAngle n s).fb = s.fb ∧
    (restartAngle n s).cnv = s.cnv ∧
    (restartAngle n s).pin = s.pin ∧
    (restartAngle n s).seam = s.seam ∧
    (restartAngle n s).flt = s.flt ∧
    (restartAngle n s).store = s.store ∧
    (restartAngle n s).bak = s.bak ∧
    (restartAngle n s).proof = s.proof := by
  unfold restartAngle; (try dsimp only); repeat' split
  all_goals (refine ⟨?_, ?_, ?_, ?_, ?_, ?_, ?_, ?_, ?_, ?_, ?_, ?_, ?_, ?_, ?_, ?_, ?_, ?_, ?_, ?_, ?_, ?_, ?_, ?_, ?_, ?_, ?_⟩ <;> simp)

@[simp] theorem fireRest_frame (n : Fin 8) (s : State) :
    (fireRest n s).pending = s.pending ∧
    (fireRest n s).now = s.now ∧
    (fireRest n s).free = s.free ∧
    (fireRest n s).power = s.power ∧
    (fireRest n s).host = s.host ∧
    (fireRest n s).lat = s.lat ∧
    (fireRest n s).win = s.win ∧
    (fireRest n s).cfg = s.cfg ∧
    (fireRest n s).boot = s.boot ∧
    (fireRest n s).otp = s.otp ∧
    (fireRest n s).src = s.src ∧
    (fireRest n s).paceFrac = s.paceFrac ∧
    (fireRest n s).mains = s.mains ∧
    (fireRest n s).stitch = s.stitch ∧
    (fireRest n s).chan = s.chan ∧
    (fireRest n s).supply = s.supply ∧
    (fireRest n s).sto = s.sto ∧
    (fireRest n s).spread = s.spread ∧
    (fireRest n s).supv = s.supv ∧
    (fireRest n s).fb = s.fb ∧
    (fireRest n s).pin = s.pin ∧
    (fireRest n s).seam = s.seam ∧
    (fireRest n s).flt = s.flt ∧
    (fireRest n s).store = s.store ∧
    (fireRest n s).bak = s.bak ∧
    (fireRest n s).proof = s.proof := by
  unfold fireRest; (try dsimp only); repeat' split
  all_goals (refine ⟨?_, ?_, ?_, ?_, ?_, ?_, ?_, ?_, ?_, ?_, ?_, ?_, ?_, ?_, ?_, ?_, ?_, ?_, ?_, ?_, ?_, ?_, ?_, ?_, ?_, ?_⟩ <;> simp)

@[simp] theorem parkMember_frame (m : Fin 8) (s : State) :
    (parkMember m s).pending = s.pending ∧
    (parkMember m s).now = s.now ∧
    (parkMember m s).free = s.free ∧
    (parkMember m s).power = s.power ∧
    (parkMember m s).host = s.host ∧
    (parkMember m s).lat = s.lat ∧
    (parkMember m s).win = s.win ∧
    (parkMember m s).cfg = s.cfg ∧
    (parkMember m s).boot = s.boot ∧
    (parkMember m s).otp = s.otp ∧
    (parkMember m s).paceFrac = s.paceFrac ∧
    (parkMember m s).mains = s.mains ∧
    (parkMember m s).chan = s.chan ∧
    (parkMember m s).supply = s.supply ∧
    (parkMember m s).sto = s.sto ∧
    (parkMember m s).spread = s.spread ∧
    (parkMember m s).supv = s.supv ∧
    (parkMember m s).fb = s.fb ∧
    (parkMember m s).pin = s.pin ∧
    (parkMember m s).seam = s.seam ∧
    (parkMember m s).flt = s.flt ∧
    (parkMember m s).store = s.store ∧
    (parkMember m s).bak = s.bak ∧
    (parkMember m s).proof = s.proof := by
  unfold parkMember; (try dsimp only); repeat' split
  all_goals (refine ⟨?_, ?_, ?_, ?_, ?_, ?_, ?_, ?_, ?_, ?_, ?_, ?_, ?_, ?_, ?_, ?_, ?_, ?_, ?_, ?_, ?_, ?_, ?_, ?_⟩ <;> simp)

@[simp] theorem endByResync_frame (n : Fin 8) (s : State) :
    (endByResync n s).pending = s.pending ∧
    (endByResync n s).now = s.now ∧
    (endByResync n s).free = s.free ∧
    (endByResync n s).power = s.power ∧
    (endByResync n s).host = s.host ∧
    (endByResync n s).lat = s.lat ∧
    (endByResync n s).win = s.win ∧
    (endByResync n s).boot = s.boot ∧
    (endByResync n s).otp = s.otp ∧
    (endByResync n s).paceFrac = s.paceFrac ∧
    (endByResync n s).mains = s.mains ∧
    (endByResync n s).chan = s.chan ∧
    (endByResync n s).supply = s.supply ∧
    (endByResync n s).sto = s.sto ∧
    (endByResync n s).spread = s.spread ∧
    (endByResync n s).supv = s.supv ∧
    (endByResync n s).pin = s.pin ∧
    (endByResync n s).seam = s.seam ∧
    (endByResync n s).flt = s.flt ∧
    (endByResync n s).bak = s.bak ∧
    (endByResync n s).proof = s.proof := by
  unfold endByResync; (try dsimp only); repeat' split
  all_goals (refine ⟨?_, ?_, ?_, ?_, ?_, ?_, ?_, ?_, ?_, ?_, ?_, ?_, ?_, ?_, ?_, ?_, ?_, ?_, ?_, ?_, ?_⟩ <;> simp)

@[simp] theorem askResync_frame (n : Fin 8) (s : State) :
    (askResync n s).pending = s.pending ∧
    (askResync n s).now = s.now ∧
    (askResync n s).free = s.free ∧
    (askResync n s).power = s.power ∧
    (askResync n s).host = s.host ∧
    (askResync n s).lat = s.lat ∧
    (askResync n s).win = s.win ∧
    (askResync n s).cfg = s.cfg ∧
    (askResync n s).boot = s.boot ∧
    (askResync n s).otp = s.otp ∧
    (askResync n s).src = s.src ∧
    (askResync n s).paceFrac = s.paceFrac ∧
    (askResync n s).mains = s.mains ∧
    (askResync n s).stitch = s.stitch ∧
    (askResync n s).chan = s.chan ∧
    (askResync n s).supply = s.supply ∧
    (askResync n s).sto = s.sto ∧
    (askResync n s).spread = s.spread ∧
    (askResync n s).supv = s.supv ∧
    (askResync n s).fb = s.fb ∧
    (askResync n s).cnv = s.cnv ∧
    (askResync n s).pin = s.pin ∧
    (askResync n s).seam = s.seam ∧
    (askResync n s).flt = s.flt ∧
    (askResync n s).store = s.store ∧
    (askResync n s).bak = s.bak ∧
    (askResync n s).proof = s.proof := by
  unfold askResync; (try dsimp only); repeat' split
  all_goals (refine ⟨?_, ?_, ?_, ?_, ?_, ?_, ?_, ?_, ?_, ?_, ?_, ?_, ?_, ?_, ?_, ?_, ?_, ?_, ?_, ?_, ?_, ?_, ?_, ?_, ?_, ?_, ?_⟩ <;> simp)

@[simp] theorem resyncCarrier_frame (n : Fin 8) (s : State) :
    (resyncCarrier n s).pending = s.pending ∧
    (resyncCarrier n s).now = s.now ∧
    (resyncCarrier n s).free = s.free ∧
    (resyncCarrier n s).power = s.power ∧
    (resyncCarrier n s).host = s.host ∧
    (resyncCarrier n s).lat = s.lat ∧
    (resyncCarrier n s).win = s.win ∧
    (resyncCarrier n s).boot = s.boot ∧
    (resyncCarrier n s).otp = s.otp ∧
    (resyncCarrier n s).paceFrac = s.paceFrac ∧
    (resyncCarrier n s).mains = s.mains ∧
    (resyncCarrier n s).chan = s.chan ∧
    (resyncCarrier n s).supply = s.supply ∧
    (resyncCarrier n s).sto = s.sto ∧
    (resyncCarrier n s).spread = s.spread ∧
    (resyncCarrier n s).supv = s.supv ∧
    (resyncCarrier n s).pin = s.pin ∧
    (resyncCarrier n s).seam = s.seam ∧
    (resyncCarrier n s).flt = s.flt ∧
    (resyncCarrier n s).bak = s.bak ∧
    (resyncCarrier n s).proof = s.proof := by
  unfold resyncCarrier; (try dsimp only); repeat' split
  all_goals (refine ⟨?_, ?_, ?_, ?_, ?_, ?_, ?_, ?_, ?_, ?_, ?_, ?_, ?_, ?_, ?_, ?_, ?_, ?_, ?_, ?_, ?_⟩ <;> simp)

@[simp] theorem endCycleResyncs_frame (s : State) :
    (endCycleResyncs s).pending = s.pending ∧
    (endCycleResyncs s).now = s.now ∧
    (endCycleResyncs s).free = s.free ∧
    (endCycleResyncs s).power = s.power ∧
    (endCycleResyncs s).host = s.host ∧
    (endCycleResyncs s).lat = s.lat ∧
    (endCycleResyncs s).win = s.win ∧
    (endCycleResyncs s).boot = s.boot ∧
    (endCycleResyncs s).otp = s.otp ∧
    (endCycleResyncs s).paceFrac = s.paceFrac ∧
    (endCycleResyncs s).mains = s.mains ∧
    (endCycleResyncs s).chan = s.chan ∧
    (endCycleResyncs s).supply = s.supply ∧
    (endCycleResyncs s).sto = s.sto ∧
    (endCycleResyncs s).spread = s.spread ∧
    (endCycleResyncs s).supv = s.supv ∧
    (endCycleResyncs s).pin = s.pin ∧
    (endCycleResyncs s).seam = s.seam ∧
    (endCycleResyncs s).flt = s.flt ∧
    (endCycleResyncs s).bak = s.bak ∧
    (endCycleResyncs s).proof = s.proof := by
  unfold endCycleResyncs; (try dsimp only); repeat' split
  all_goals (refine ⟨?_, ?_, ?_, ?_, ?_, ?_, ?_, ?_, ?_, ?_, ?_, ?_, ?_, ?_, ?_, ?_, ?_, ?_, ?_, ?_, ?_⟩ <;> simp)

@[simp] theorem carrierPeriodStart_frame (n : Fin 8) (s : State) :
    (carrierPeriodStart n s).pending = s.pending ∧
    (carrierPeriodStart n s).now = s.now ∧
    (carrierPeriodStart n s).free = s.free ∧
    (carrierPeriodStart n s).power = s.power ∧
    (carrierPeriodStart n s).host = s.host ∧
    (carrierPeriodStart n s).lat = s.lat ∧
    (carrierPeriodStart n s).win = s.win ∧
    (carrierPeriodStart n s).boot = s.boot ∧
    (carrierPeriodStart n s).otp = s.otp ∧
    (carrierPeriodStart n s).paceFrac = s.paceFrac ∧
    (carrierPeriodStart n s).mains = s.mains ∧
    (carrierPeriodStart n s).chan = s.chan ∧
    (carrierPeriodStart n s).supply = s.supply ∧
    (carrierPeriodStart n s).sto = s.sto ∧
    (carrierPeriodStart n s).spread = s.spread ∧
    (carrierPeriodStart n s).supv = s.supv ∧
    (carrierPeriodStart n s).pin = s.pin ∧
    (carrierPeriodStart n s).seam = s.seam ∧
    (carrierPeriodStart n s).flt = s.flt ∧
    (carrierPeriodStart n s).bak = s.bak ∧
    (carrierPeriodStart n s).proof = s.proof := by
  unfold carrierPeriodStart; (try dsimp only); repeat' split
  all_goals (refine ⟨?_, ?_, ?_, ?_, ?_, ?_, ?_, ?_, ?_, ?_, ?_, ?_, ?_, ?_, ?_, ?_, ?_, ?_, ?_, ?_, ?_⟩ <;> simp)

@[simp] theorem restartCarriers_frame (s : State) :
    (restartCarriers s).pending = s.pending ∧
    (restartCarriers s).now = s.now ∧
    (restartCarriers s).free = s.free ∧
    (restartCarriers s).power = s.power ∧
    (restartCarriers s).host = s.host ∧
    (restartCarriers s).lat = s.lat ∧
    (restartCarriers s).win = s.win ∧
    (restartCarriers s).boot = s.boot ∧
    (restartCarriers s).otp = s.otp ∧
    (restartCarriers s).paceFrac = s.paceFrac ∧
    (restartCarriers s).mains = s.mains ∧
    (restartCarriers s).stitch = s.stitch ∧
    (restartCarriers s).chan = s.chan ∧
    (restartCarriers s).supply = s.supply ∧
    (restartCarriers s).sto = s.sto ∧
    (restartCarriers s).spread = s.spread ∧
    (restartCarriers s).supv = s.supv ∧
    (restartCarriers s).pin = s.pin ∧
    (restartCarriers s).seam = s.seam ∧
    (restartCarriers s).flt = s.flt ∧
    (restartCarriers s).bak = s.bak ∧
    (restartCarriers s).proof = s.proof := by
  unfold restartCarriers; (try dsimp only); repeat' split
  all_goals simp [ite_pending, ite_now, ite_free, ite_power, ite_host, ite_lat, ite_win, ite_cfg, ite_boot, ite_otp, ite_src, ite_paceFrac, ite_mains, ite_stitch, ite_axes, ite_chan, ite_supply, ite_sto, ite_spread, ite_supv, ite_fb, ite_cnv, ite_pin, ite_seam, ite_flt, ite_store, ite_bak, ite_proof]

/-! ### Stitch -/

@[simp] theorem dropHead_frame (l : Fin 8) (c : Chain) (s : State) :
    (dropHead l c s).pending = s.pending ∧
    (dropHead l c s).now = s.now ∧
    (dropHead l c s).free = s.free ∧
    (dropHead l c s).power = s.power ∧
    (dropHead l c s).host = s.host ∧
    (dropHead l c s).lat = s.lat ∧
    (dropHead l c s).win = s.win ∧
    (dropHead l c s).cfg = s.cfg ∧
    (dropHead l c s).boot = s.boot ∧
    (dropHead l c s).otp = s.otp ∧
    (dropHead l c s).src = s.src ∧
    (dropHead l c s).paceFrac = s.paceFrac ∧
    (dropHead l c s).mains = s.mains ∧
    (dropHead l c s).chan = s.chan ∧
    (dropHead l c s).supply = s.supply ∧
    (dropHead l c s).sto = s.sto ∧
    (dropHead l c s).spread = s.spread ∧
    (dropHead l c s).supv = s.supv ∧
    (dropHead l c s).pin = s.pin ∧
    (dropHead l c s).seam = s.seam ∧
    (dropHead l c s).bak = s.bak ∧
    (dropHead l c s).proof = s.proof := by
  unfold dropHead; (try dsimp only); repeat' split
  all_goals (refine ⟨?_, ?_, ?_, ?_, ?_, ?_, ?_, ?_, ?_, ?_, ?_, ?_, ?_, ?_, ?_, ?_, ?_, ?_, ?_, ?_, ?_, ?_⟩ <;> simp)

@[simp] theorem stitchDue_frame (k : Fin 1024) (s : State) :
    (stitchDue k s).pending = s.pending ∧
    (stitchDue k s).now = s.now ∧
    (stitchDue k s).free = s.free ∧
    (stitchDue k s).power = s.power ∧
    (stitchDue k s).host = s.host ∧
    (stitchDue k s).lat = s.lat ∧
    (stitchDue k s).win = s.win ∧
    (stitchDue k s).cfg = s.cfg ∧
    (stitchDue k s).boot = s.boot ∧
    (stitchDue k s).otp = s.otp ∧
    (stitchDue k s).src = s.src ∧
    (stitchDue k s).paceFrac = s.paceFrac ∧
    (stitchDue k s).mains = s.mains ∧
    (stitchDue k s).chan = s.chan ∧
    (stitchDue k s).supply = s.supply ∧
    (stitchDue k s).sto = s.sto ∧
    (stitchDue k s).spread = s.spread ∧
    (stitchDue k s).supv = s.supv ∧
    (stitchDue k s).pin = s.pin ∧
    (stitchDue k s).seam = s.seam ∧
    (stitchDue k s).bak = s.bak ∧
    (stitchDue k s).proof = s.proof := by
  unfold stitchDue; (try dsimp only); repeat' split
  all_goals (refine ⟨?_, ?_, ?_, ?_, ?_, ?_, ?_, ?_, ?_, ?_, ?_, ?_, ?_, ?_, ?_, ?_, ?_, ?_, ?_, ?_, ?_, ?_⟩ <;> simp)

@[simp] theorem stitchRearm_frame (k : Fin 1024) (s : State) :
    (stitchRearm k s).pending = s.pending ∧
    (stitchRearm k s).now = s.now ∧
    (stitchRearm k s).free = s.free ∧
    (stitchRearm k s).power = s.power ∧
    (stitchRearm k s).host = s.host ∧
    (stitchRearm k s).lat = s.lat ∧
    (stitchRearm k s).win = s.win ∧
    (stitchRearm k s).cfg = s.cfg ∧
    (stitchRearm k s).boot = s.boot ∧
    (stitchRearm k s).otp = s.otp ∧
    (stitchRearm k s).src = s.src ∧
    (stitchRearm k s).paceFrac = s.paceFrac ∧
    (stitchRearm k s).mains = s.mains ∧
    (stitchRearm k s).axes = s.axes ∧
    (stitchRearm k s).chan = s.chan ∧
    (stitchRearm k s).supply = s.supply ∧
    (stitchRearm k s).sto = s.sto ∧
    (stitchRearm k s).spread = s.spread ∧
    (stitchRearm k s).supv = s.supv ∧
    (stitchRearm k s).fb = s.fb ∧
    (stitchRearm k s).cnv = s.cnv ∧
    (stitchRearm k s).pin = s.pin ∧
    (stitchRearm k s).seam = s.seam ∧
    (stitchRearm k s).flt = s.flt ∧
    (stitchRearm k s).store = s.store ∧
    (stitchRearm k s).bak = s.bak ∧
    (stitchRearm k s).proof = s.proof := by
  unfold stitchRearm; (try dsimp only); repeat' split
  all_goals (refine ⟨?_, ?_, ?_, ?_, ?_, ?_, ?_, ?_, ?_, ?_, ?_, ?_, ?_, ?_, ?_, ?_, ?_, ?_, ?_, ?_, ?_, ?_, ?_, ?_, ?_, ?_, ?_⟩ <;> simp)

@[simp] theorem runAction_pending (code : BitVec 8) (l : Fin 8) (act : Chain → Action → State → State) (s : State)
    (h : ∀ c a t, (act c a t).pending = t.pending) : (runAction code l act s).pending = s.pending := by
  unfold runAction
  repeat' split
  all_goals simp [h]

@[simp] theorem runAction_now (code : BitVec 8) (l : Fin 8) (act : Chain → Action → State → State) (s : State)
    (h : ∀ c a t, (act c a t).now = t.now) : (runAction code l act s).now = s.now := by
  unfold runAction
  repeat' split
  all_goals simp [h]

@[simp] theorem runAction_free (code : BitVec 8) (l : Fin 8) (act : Chain → Action → State → State) (s : State)
    (h : ∀ c a t, (act c a t).free = t.free) : (runAction code l act s).free = s.free := by
  unfold runAction
  repeat' split
  all_goals simp [h]

@[simp] theorem runAction_power (code : BitVec 8) (l : Fin 8) (act : Chain → Action → State → State) (s : State)
    (h : ∀ c a t, (act c a t).power = t.power) : (runAction code l act s).power = s.power := by
  unfold runAction
  repeat' split
  all_goals simp [h]

@[simp] theorem runAction_host (code : BitVec 8) (l : Fin 8) (act : Chain → Action → State → State) (s : State)
    (h : ∀ c a t, (act c a t).host = t.host) : (runAction code l act s).host = s.host := by
  unfold runAction
  repeat' split
  all_goals simp [h]

@[simp] theorem runAction_lat (code : BitVec 8) (l : Fin 8) (act : Chain → Action → State → State) (s : State)
    (h : ∀ c a t, (act c a t).lat = t.lat) : (runAction code l act s).lat = s.lat := by
  unfold runAction
  repeat' split
  all_goals simp [h]

@[simp] theorem runAction_win (code : BitVec 8) (l : Fin 8) (act : Chain → Action → State → State) (s : State)
    (h : ∀ c a t, (act c a t).win = t.win) : (runAction code l act s).win = s.win := by
  unfold runAction
  repeat' split
  all_goals simp [h]

@[simp] theorem runAction_cfg (code : BitVec 8) (l : Fin 8) (act : Chain → Action → State → State) (s : State)
    (h : ∀ c a t, (act c a t).cfg = t.cfg) : (runAction code l act s).cfg = s.cfg := by
  unfold runAction
  repeat' split
  all_goals simp [h]

@[simp] theorem runAction_boot (code : BitVec 8) (l : Fin 8) (act : Chain → Action → State → State) (s : State)
    (h : ∀ c a t, (act c a t).boot = t.boot) : (runAction code l act s).boot = s.boot := by
  unfold runAction
  repeat' split
  all_goals simp [h]

@[simp] theorem runAction_otp (code : BitVec 8) (l : Fin 8) (act : Chain → Action → State → State) (s : State)
    (h : ∀ c a t, (act c a t).otp = t.otp) : (runAction code l act s).otp = s.otp := by
  unfold runAction
  repeat' split
  all_goals simp [h]

@[simp] theorem runAction_src (code : BitVec 8) (l : Fin 8) (act : Chain → Action → State → State) (s : State)
    (h : ∀ c a t, (act c a t).src = t.src) : (runAction code l act s).src = s.src := by
  unfold runAction
  repeat' split
  all_goals simp [h]

@[simp] theorem runAction_paceFrac (code : BitVec 8) (l : Fin 8) (act : Chain → Action → State → State) (s : State)
    (h : ∀ c a t, (act c a t).paceFrac = t.paceFrac) : (runAction code l act s).paceFrac = s.paceFrac := by
  unfold runAction
  repeat' split
  all_goals simp [h]

@[simp] theorem runAction_mains (code : BitVec 8) (l : Fin 8) (act : Chain → Action → State → State) (s : State)
    (h : ∀ c a t, (act c a t).mains = t.mains) : (runAction code l act s).mains = s.mains := by
  unfold runAction
  repeat' split
  all_goals simp [h]

@[simp] theorem runAction_axes (code : BitVec 8) (l : Fin 8) (act : Chain → Action → State → State) (s : State)
    (h : ∀ c a t, (act c a t).axes = t.axes) : (runAction code l act s).axes = s.axes := by
  unfold runAction
  repeat' split
  all_goals simp [h]

@[simp] theorem runAction_chan (code : BitVec 8) (l : Fin 8) (act : Chain → Action → State → State) (s : State)
    (h : ∀ c a t, (act c a t).chan = t.chan) : (runAction code l act s).chan = s.chan := by
  unfold runAction
  repeat' split
  all_goals simp [h]

@[simp] theorem runAction_supply (code : BitVec 8) (l : Fin 8) (act : Chain → Action → State → State) (s : State)
    (h : ∀ c a t, (act c a t).supply = t.supply) : (runAction code l act s).supply = s.supply := by
  unfold runAction
  repeat' split
  all_goals simp [h]

@[simp] theorem runAction_sto (code : BitVec 8) (l : Fin 8) (act : Chain → Action → State → State) (s : State)
    (h : ∀ c a t, (act c a t).sto = t.sto) : (runAction code l act s).sto = s.sto := by
  unfold runAction
  repeat' split
  all_goals simp [h]

@[simp] theorem runAction_spread (code : BitVec 8) (l : Fin 8) (act : Chain → Action → State → State) (s : State)
    (h : ∀ c a t, (act c a t).spread = t.spread) : (runAction code l act s).spread = s.spread := by
  unfold runAction
  repeat' split
  all_goals simp [h]

@[simp] theorem runAction_supv (code : BitVec 8) (l : Fin 8) (act : Chain → Action → State → State) (s : State)
    (h : ∀ c a t, (act c a t).supv = t.supv) : (runAction code l act s).supv = s.supv := by
  unfold runAction
  repeat' split
  all_goals simp [h]

@[simp] theorem runAction_fb (code : BitVec 8) (l : Fin 8) (act : Chain → Action → State → State) (s : State)
    (h : ∀ c a t, (act c a t).fb = t.fb) : (runAction code l act s).fb = s.fb := by
  unfold runAction
  repeat' split
  all_goals simp [h]

@[simp] theorem runAction_cnv (code : BitVec 8) (l : Fin 8) (act : Chain → Action → State → State) (s : State)
    (h : ∀ c a t, (act c a t).cnv = t.cnv) : (runAction code l act s).cnv = s.cnv := by
  unfold runAction
  repeat' split
  all_goals simp [h]

@[simp] theorem runAction_pin (code : BitVec 8) (l : Fin 8) (act : Chain → Action → State → State) (s : State)
    (h : ∀ c a t, (act c a t).pin = t.pin) : (runAction code l act s).pin = s.pin := by
  unfold runAction
  repeat' split
  all_goals simp [h]

@[simp] theorem runAction_seam (code : BitVec 8) (l : Fin 8) (act : Chain → Action → State → State) (s : State)
    (h : ∀ c a t, (act c a t).seam = t.seam) : (runAction code l act s).seam = s.seam := by
  unfold runAction
  repeat' split
  all_goals simp [h]

@[simp] theorem runAction_flt (code : BitVec 8) (l : Fin 8) (act : Chain → Action → State → State) (s : State)
    (h : ∀ c a t, (act c a t).flt = t.flt) : (runAction code l act s).flt = s.flt := by
  unfold runAction
  repeat' split
  all_goals simp [h]

@[simp] theorem runAction_store (code : BitVec 8) (l : Fin 8) (act : Chain → Action → State → State) (s : State)
    (h : ∀ c a t, (act c a t).store = t.store) : (runAction code l act s).store = s.store := by
  unfold runAction
  repeat' split
  all_goals simp [h]

@[simp] theorem runAction_bak (code : BitVec 8) (l : Fin 8) (act : Chain → Action → State → State) (s : State)
    (h : ∀ c a t, (act c a t).bak = t.bak) : (runAction code l act s).bak = s.bak := by
  unfold runAction
  repeat' split
  all_goals simp [h]

@[simp] theorem runAction_proof (code : BitVec 8) (l : Fin 8) (act : Chain → Action → State → State) (s : State)
    (h : ∀ c a t, (act c a t).proof = t.proof) : (runAction code l act s).proof = s.proof := by
  unfold runAction
  repeat' split
  all_goals simp [h]

@[simp] theorem nopAction_frame (x1 : Chain) (x2 : Action) (s : State) :
    (nopAction x1 x2 s).pending = s.pending ∧
    (nopAction x1 x2 s).now = s.now ∧
    (nopAction x1 x2 s).free = s.free ∧
    (nopAction x1 x2 s).power = s.power ∧
    (nopAction x1 x2 s).host = s.host ∧
    (nopAction x1 x2 s).lat = s.lat ∧
    (nopAction x1 x2 s).win = s.win ∧
    (nopAction x1 x2 s).cfg = s.cfg ∧
    (nopAction x1 x2 s).boot = s.boot ∧
    (nopAction x1 x2 s).otp = s.otp ∧
    (nopAction x1 x2 s).src = s.src ∧
    (nopAction x1 x2 s).paceFrac = s.paceFrac ∧
    (nopAction x1 x2 s).mains = s.mains ∧
    (nopAction x1 x2 s).stitch = s.stitch ∧
    (nopAction x1 x2 s).axes = s.axes ∧
    (nopAction x1 x2 s).chan = s.chan ∧
    (nopAction x1 x2 s).supply = s.supply ∧
    (nopAction x1 x2 s).sto = s.sto ∧
    (nopAction x1 x2 s).spread = s.spread ∧
    (nopAction x1 x2 s).supv = s.supv ∧
    (nopAction x1 x2 s).fb = s.fb ∧
    (nopAction x1 x2 s).cnv = s.cnv ∧
    (nopAction x1 x2 s).pin = s.pin ∧
    (nopAction x1 x2 s).seam = s.seam ∧
    (nopAction x1 x2 s).flt = s.flt ∧
    (nopAction x1 x2 s).store = s.store ∧
    (nopAction x1 x2 s).bak = s.bak ∧
    (nopAction x1 x2 s).proof = s.proof := by
  unfold nopAction; (try dsimp only); repeat' split
  all_goals (refine ⟨?_, ?_, ?_, ?_, ?_, ?_, ?_, ?_, ?_, ?_, ?_, ?_, ?_, ?_, ?_, ?_, ?_, ?_, ?_, ?_, ?_, ?_, ?_, ?_, ?_, ?_, ?_, ?_⟩ <;> simp)

@[simp] theorem commuteAction_frame (c : Chain) (a : Action) (s : State) :
    (commuteAction c a s).pending = s.pending ∧
    (commuteAction c a s).now = s.now ∧
    (commuteAction c a s).free = s.free ∧
    (commuteAction c a s).power = s.power ∧
    (commuteAction c a s).host = s.host ∧
    (commuteAction c a s).lat = s.lat ∧
    (commuteAction c a s).win = s.win ∧
    (commuteAction c a s).cfg = s.cfg ∧
    (commuteAction c a s).boot = s.boot ∧
    (commuteAction c a s).otp = s.otp ∧
    (commuteAction c a s).src = s.src ∧
    (commuteAction c a s).paceFrac = s.paceFrac ∧
    (commuteAction c a s).mains = s.mains ∧
    (commuteAction c a s).stitch = s.stitch ∧
    (commuteAction c a s).chan = s.chan ∧
    (commuteAction c a s).supply = s.supply ∧
    (commuteAction c a s).sto = s.sto ∧
    (commuteAction c a s).spread = s.spread ∧
    (commuteAction c a s).supv = s.supv ∧
    (commuteAction c a s).fb = s.fb ∧
    (commuteAction c a s).cnv = s.cnv ∧
    (commuteAction c a s).pin = s.pin ∧
    (commuteAction c a s).seam = s.seam ∧
    (commuteAction c a s).flt = s.flt ∧
    (commuteAction c a s).store = s.store ∧
    (commuteAction c a s).bak = s.bak ∧
    (commuteAction c a s).proof = s.proof := by
  unfold commuteAction; (try dsimp only); repeat' split
  all_goals (refine ⟨?_, ?_, ?_, ?_, ?_, ?_, ?_, ?_, ?_, ?_, ?_, ?_, ?_, ?_, ?_, ?_, ?_, ?_, ?_, ?_, ?_, ?_, ?_, ?_, ?_, ?_, ?_⟩ <;> simp)

@[simp] theorem convAction_frame (l : Fin 8) (x1 : Chain) (a : Action) (s : State) :
    (convAction l x1 a s).pending = s.pending ∧
    (convAction l x1 a s).now = s.now ∧
    (convAction l x1 a s).free = s.free ∧
    (convAction l x1 a s).power = s.power ∧
    (convAction l x1 a s).host = s.host ∧
    (convAction l x1 a s).lat = s.lat ∧
    (convAction l x1 a s).win = s.win ∧
    (convAction l x1 a s).cfg = s.cfg ∧
    (convAction l x1 a s).boot = s.boot ∧
    (convAction l x1 a s).otp = s.otp ∧
    (convAction l x1 a s).src = s.src ∧
    (convAction l x1 a s).paceFrac = s.paceFrac ∧
    (convAction l x1 a s).mains = s.mains ∧
    (convAction l x1 a s).stitch = s.stitch ∧
    (convAction l x1 a s).axes = s.axes ∧
    (convAction l x1 a s).chan = s.chan ∧
    (convAction l x1 a s).supply = s.supply ∧
    (convAction l x1 a s).sto = s.sto ∧
    (convAction l x1 a s).spread = s.spread ∧
    (convAction l x1 a s).supv = s.supv ∧
    (convAction l x1 a s).fb = s.fb ∧
    (convAction l x1 a s).pin = s.pin ∧
    (convAction l x1 a s).seam = s.seam ∧
    (convAction l x1 a s).flt = s.flt ∧
    (convAction l x1 a s).store = s.store ∧
    (convAction l x1 a s).bak = s.bak ∧
    (convAction l x1 a s).proof = s.proof := by
  unfold convAction; (try dsimp only); repeat' split
  all_goals (refine ⟨?_, ?_, ?_, ?_, ?_, ?_, ?_, ?_, ?_, ?_, ?_, ?_, ?_, ?_, ?_, ?_, ?_, ?_, ?_, ?_, ?_, ?_, ?_, ?_, ?_, ?_, ?_⟩ <;> simp)

@[simp] theorem actOnOutput_frame (l : Fin 8) (a : Action) (s : State) :
    (actOnOutput l a s).pending = s.pending ∧
    (actOnOutput l a s).now = s.now ∧
    (actOnOutput l a s).free = s.free ∧
    (actOnOutput l a s).power = s.power ∧
    (actOnOutput l a s).host = s.host ∧
    (actOnOutput l a s).lat = s.lat ∧
    (actOnOutput l a s).win = s.win ∧
    (actOnOutput l a s).cfg = s.cfg ∧
    (actOnOutput l a s).boot = s.boot ∧
    (actOnOutput l a s).otp = s.otp ∧
    (actOnOutput l a s).src = s.src ∧
    (actOnOutput l a s).paceFrac = s.paceFrac ∧
    (actOnOutput l a s).mains = s.mains ∧
    (actOnOutput l a s).axes = s.axes ∧
    (actOnOutput l a s).chan = s.chan ∧
    (actOnOutput l a s).supply = s.supply ∧
    (actOnOutput l a s).sto = s.sto ∧
    (actOnOutput l a s).spread = s.spread ∧
    (actOnOutput l a s).supv = s.supv ∧
    (actOnOutput l a s).fb = s.fb ∧
    (actOnOutput l a s).cnv = s.cnv ∧
    (actOnOutput l a s).pin = s.pin ∧
    (actOnOutput l a s).seam = s.seam ∧
    (actOnOutput l a s).flt = s.flt ∧
    (actOnOutput l a s).store = s.store ∧
    (actOnOutput l a s).bak = s.bak ∧
    (actOnOutput l a s).proof = s.proof := by
  unfold actOnOutput; (try dsimp only); repeat' split
  all_goals (refine ⟨?_, ?_, ?_, ?_, ?_, ?_, ?_, ?_, ?_, ?_, ?_, ?_, ?_, ?_, ?_, ?_, ?_, ?_, ?_, ?_, ?_, ?_, ?_, ?_, ?_, ?_, ?_⟩ <;> simp)

@[simp] theorem irqAction_frame (l : Fin 8) (c : Chain) (a : Action) (s : State) :
    (irqAction l c a s).pending = s.pending ∧
    (irqAction l c a s).now = s.now ∧
    (irqAction l c a s).free = s.free ∧
    (irqAction l c a s).power = s.power ∧
    (irqAction l c a s).lat = s.lat ∧
    (irqAction l c a s).win = s.win ∧
    (irqAction l c a s).cfg = s.cfg ∧
    (irqAction l c a s).boot = s.boot ∧
    (irqAction l c a s).otp = s.otp ∧
    (irqAction l c a s).src = s.src ∧
    (irqAction l c a s).paceFrac = s.paceFrac ∧
    (irqAction l c a s).mains = s.mains ∧
    (irqAction l c a s).axes = s.axes ∧
    (irqAction l c a s).chan = s.chan ∧
    (irqAction l c a s).supply = s.supply ∧
    (irqAction l c a s).sto = s.sto ∧
    (irqAction l c a s).spread = s.spread ∧
    (irqAction l c a s).supv = s.supv ∧
    (irqAction l c a s).fb = s.fb ∧
    (irqAction l c a s).cnv = s.cnv ∧
    (irqAction l c a s).pin = s.pin ∧
    (irqAction l c a s).seam = s.seam ∧
    (irqAction l c a s).flt = s.flt ∧
    (irqAction l c a s).store = s.store ∧
    (irqAction l c a s).bak = s.bak ∧
    (irqAction l c a s).proof = s.proof := by
  unfold irqAction; (try dsimp only); repeat' split
  all_goals (refine ⟨?_, ?_, ?_, ?_, ?_, ?_, ?_, ?_, ?_, ?_, ?_, ?_, ?_, ?_, ?_, ?_, ?_, ?_, ?_, ?_, ?_, ?_, ?_, ?_, ?_, ?_⟩ <;> simp)

@[simp] theorem latchAction_frame (on : Bool) (x1 : Chain) (a : Action) (s : State) :
    (latchAction on x1 a s).pending = s.pending ∧
    (latchAction on x1 a s).now = s.now ∧
    (latchAction on x1 a s).free = s.free ∧
    (latchAction on x1 a s).power = s.power ∧
    (latchAction on x1 a s).host = s.host ∧
    (latchAction on x1 a s).lat = s.lat ∧
    (latchAction on x1 a s).win = s.win ∧
    (latchAction on x1 a s).cfg = s.cfg ∧
    (latchAction on x1 a s).boot = s.boot ∧
    (latchAction on x1 a s).otp = s.otp ∧
    (latchAction on x1 a s).src = s.src ∧
    (latchAction on x1 a s).paceFrac = s.paceFrac ∧
    (latchAction on x1 a s).mains = s.mains ∧
    (latchAction on x1 a s).stitch = s.stitch ∧
    (latchAction on x1 a s).chan = s.chan ∧
    (latchAction on x1 a s).supply = s.supply ∧
    (latchAction on x1 a s).sto = s.sto ∧
    (latchAction on x1 a s).spread = s.spread ∧
    (latchAction on x1 a s).supv = s.supv ∧
    (latchAction on x1 a s).fb = s.fb ∧
    (latchAction on x1 a s).cnv = s.cnv ∧
    (latchAction on x1 a s).pin = s.pin ∧
    (latchAction on x1 a s).seam = s.seam ∧
    (latchAction on x1 a s).flt = s.flt ∧
    (latchAction on x1 a s).store = s.store ∧
    (latchAction on x1 a s).bak = s.bak ∧
    (latchAction on x1 a s).proof = s.proof := by
  unfold latchAction; (try dsimp only); repeat' split
  all_goals (refine ⟨?_, ?_, ?_, ?_, ?_, ?_, ?_, ?_, ?_, ?_, ?_, ?_, ?_, ?_, ?_, ?_, ?_, ?_, ?_, ?_, ?_, ?_, ?_, ?_, ?_, ?_, ?_⟩ <;> simp)

@[simp] theorem spacingAction_frame (x1 : Chain) (a : Action) (s : State) :
    (spacingAction x1 a s).pending = s.pending ∧
    (spacingAction x1 a s).now = s.now ∧
    (spacingAction x1 a s).free = s.free ∧
    (spacingAction x1 a s).power = s.power ∧
    (spacingAction x1 a s).host = s.host ∧
    (spacingAction x1 a s).lat = s.lat ∧
    (spacingAction x1 a s).win = s.win ∧
    (spacingAction x1 a s).cfg = s.cfg ∧
    (spacingAction x1 a s).boot = s.boot ∧
    (spacingAction x1 a s).otp = s.otp ∧
    (spacingAction x1 a s).src = s.src ∧
    (spacingAction x1 a s).paceFrac = s.paceFrac ∧
    (spacingAction x1 a s).mains = s.mains ∧
    (spacingAction x1 a s).stitch = s.stitch ∧
    (spacingAction x1 a s).axes = s.axes ∧
    (spacingAction x1 a s).chan = s.chan ∧
    (spacingAction x1 a s).supply = s.supply ∧
    (spacingAction x1 a s).sto = s.sto ∧
    (spacingAction x1 a s).spread = s.spread ∧
    (spacingAction x1 a s).supv = s.supv ∧
    (spacingAction x1 a s).cnv = s.cnv ∧
    (spacingAction x1 a s).pin = s.pin ∧
    (spacingAction x1 a s).seam = s.seam ∧
    (spacingAction x1 a s).flt = s.flt ∧
    (spacingAction x1 a s).store = s.store ∧
    (spacingAction x1 a s).bak = s.bak ∧
    (spacingAction x1 a s).proof = s.proof := by
  unfold spacingAction; (try dsimp only); repeat' split
  all_goals (refine ⟨?_, ?_, ?_, ?_, ?_, ?_, ?_, ?_, ?_, ?_, ?_, ?_, ?_, ?_, ?_, ?_, ?_, ?_, ?_, ?_, ?_, ?_, ?_, ?_, ?_, ?_, ?_⟩ <;> simp)

@[simp] theorem publish_frame (q : Fin 2) (k : Fin 32) (s : State) :
    (publish q k s).pending = s.pending ∧
    (publish q k s).now = s.now ∧
    (publish q k s).free = s.free ∧
    (publish q k s).power = s.power ∧
    (publish q k s).host = s.host ∧
    (publish q k s).lat = s.lat ∧
    (publish q k s).win = s.win ∧
    (publish q k s).cfg = s.cfg ∧
    (publish q k s).boot = s.boot ∧
    (publish q k s).otp = s.otp ∧
    (publish q k s).src = s.src ∧
    (publish q k s).paceFrac = s.paceFrac ∧
    (publish q k s).mains = s.mains ∧
    (publish q k s).stitch = s.stitch ∧
    (publish q k s).axes = s.axes ∧
    (publish q k s).chan = s.chan ∧
    (publish q k s).supply = s.supply ∧
    (publish q k s).sto = s.sto ∧
    (publish q k s).spread = s.spread ∧
    (publish q k s).supv = s.supv ∧
    (publish q k s).fb = s.fb ∧
    (publish q k s).cnv = s.cnv ∧
    (publish q k s).pin = s.pin ∧
    (publish q k s).flt = s.flt ∧
    (publish q k s).store = s.store ∧
    (publish q k s).bak = s.bak ∧
    (publish q k s).proof = s.proof := by
  unfold publish; (try dsimp only); repeat' split
  all_goals (refine ⟨?_, ?_, ?_, ?_, ?_, ?_, ?_, ?_, ?_, ?_, ?_, ?_, ?_, ?_, ?_, ?_, ?_, ?_, ?_, ?_, ?_, ?_, ?_, ?_, ?_, ?_, ?_⟩ <;> simp)

@[simp] theorem publishAction_frame (x1 : Chain) (a : Action) (s : State) :
    (publishAction x1 a s).pending = s.pending ∧
    (publishAction x1 a s).now = s.now ∧
    (publishAction x1 a s).free = s.free ∧
    (publishAction x1 a s).power = s.power ∧
    (publishAction x1 a s).host = s.host ∧
    (publishAction x1 a s).lat = s.lat ∧
    (publishAction x1 a s).win = s.win ∧
    (publishAction x1 a s).cfg = s.cfg ∧
    (publishAction x1 a s).boot = s.boot ∧
    (publishAction x1 a s).otp = s.otp ∧
    (publishAction x1 a s).src = s.src ∧
    (publishAction x1 a s).paceFrac = s.paceFrac ∧
    (publishAction x1 a s).mains = s.mains ∧
    (publishAction x1 a s).stitch = s.stitch ∧
    (publishAction x1 a s).axes = s.axes ∧
    (publishAction x1 a s).chan = s.chan ∧
    (publishAction x1 a s).supply = s.supply ∧
    (publishAction x1 a s).sto = s.sto ∧
    (publishAction x1 a s).spread = s.spread ∧
    (publishAction x1 a s).supv = s.supv ∧
    (publishAction x1 a s).fb = s.fb ∧
    (publishAction x1 a s).cnv = s.cnv ∧
    (publishAction x1 a s).pin = s.pin ∧
    (publishAction x1 a s).flt = s.flt ∧
    (publishAction x1 a s).store = s.store ∧
    (publishAction x1 a s).bak = s.bak ∧
    (publishAction x1 a s).proof = s.proof := by
  unfold publishAction; (try dsimp only); repeat' split
  all_goals (refine ⟨?_, ?_, ?_, ?_, ?_, ?_, ?_, ?_, ?_, ?_, ?_, ?_, ?_, ?_, ?_, ?_, ?_, ?_, ?_, ?_, ?_, ?_, ?_, ?_, ?_, ?_, ?_⟩ <;> simp)

@[simp] theorem resyncAction_frame (x1 : Chain) (a : Action) (s : State) :
    (resyncAction x1 a s).pending = s.pending ∧
    (resyncAction x1 a s).now = s.now ∧
    (resyncAction x1 a s).free = s.free ∧
    (resyncAction x1 a s).power = s.power ∧
    (resyncAction x1 a s).host = s.host ∧
    (resyncAction x1 a s).lat = s.lat ∧
    (resyncAction x1 a s).win = s.win ∧
    (resyncAction x1 a s).boot = s.boot ∧
    (resyncAction x1 a s).otp = s.otp ∧
    (resyncAction x1 a s).paceFrac = s.paceFrac ∧
    (resyncAction x1 a s).mains = s.mains ∧
    (resyncAction x1 a s).chan = s.chan ∧
    (resyncAction x1 a s).supply = s.supply ∧
    (resyncAction x1 a s).sto = s.sto ∧
    (resyncAction x1 a s).spread = s.spread ∧
    (resyncAction x1 a s).supv = s.supv ∧
    (resyncAction x1 a s).pin = s.pin ∧
    (resyncAction x1 a s).seam = s.seam ∧
    (resyncAction x1 a s).flt = s.flt ∧
    (resyncAction x1 a s).bak = s.bak ∧
    (resyncAction x1 a s).proof = s.proof := by
  unfold resyncAction; (try dsimp only); repeat' split
  all_goals (refine ⟨?_, ?_, ?_, ?_, ?_, ?_, ?_, ?_, ?_, ?_, ?_, ?_, ?_, ?_, ?_, ?_, ?_, ?_, ?_, ?_, ?_⟩ <;> simp)

@[simp] theorem tallyAction_frame (l : Fin 8) (x1 : Chain) (a : Action) (s : State) :
    (tallyAction l x1 a s).pending = s.pending ∧
    (tallyAction l x1 a s).now = s.now ∧
    (tallyAction l x1 a s).free = s.free ∧
    (tallyAction l x1 a s).power = s.power ∧
    (tallyAction l x1 a s).host = s.host ∧
    (tallyAction l x1 a s).lat = s.lat ∧
    (tallyAction l x1 a s).win = s.win ∧
    (tallyAction l x1 a s).cfg = s.cfg ∧
    (tallyAction l x1 a s).boot = s.boot ∧
    (tallyAction l x1 a s).otp = s.otp ∧
    (tallyAction l x1 a s).src = s.src ∧
    (tallyAction l x1 a s).paceFrac = s.paceFrac ∧
    (tallyAction l x1 a s).mains = s.mains ∧
    (tallyAction l x1 a s).axes = s.axes ∧
    (tallyAction l x1 a s).chan = s.chan ∧
    (tallyAction l x1 a s).supply = s.supply ∧
    (tallyAction l x1 a s).sto = s.sto ∧
    (tallyAction l x1 a s).spread = s.spread ∧
    (tallyAction l x1 a s).supv = s.supv ∧
    (tallyAction l x1 a s).fb = s.fb ∧
    (tallyAction l x1 a s).cnv = s.cnv ∧
    (tallyAction l x1 a s).pin = s.pin ∧
    (tallyAction l x1 a s).seam = s.seam ∧
    (tallyAction l x1 a s).flt = s.flt ∧
    (tallyAction l x1 a s).bak = s.bak ∧
    (tallyAction l x1 a s).proof = s.proof := by
  unfold tallyAction; (try dsimp only); repeat' split
  all_goals (refine ⟨?_, ?_, ?_, ?_, ?_, ?_, ?_, ?_, ?_, ?_, ?_, ?_, ?_, ?_, ?_, ?_, ?_, ?_, ?_, ?_, ?_, ?_, ?_, ?_, ?_, ?_⟩ <;> simp)

@[simp] theorem actionEffect_frame (l : Fin 8) (c : Chain) (a : Action) (s : State) :
    (actionEffect l c a s).pending = s.pending ∧
    (actionEffect l c a s).now = s.now ∧
    (actionEffect l c a s).free = s.free ∧
    (actionEffect l c a s).power = s.power ∧
    (actionEffect l c a s).lat = s.lat ∧
    (actionEffect l c a s).win = s.win ∧
    (actionEffect l c a s).boot = s.boot ∧
    (actionEffect l c a s).otp = s.otp ∧
    (actionEffect l c a s).paceFrac = s.paceFrac ∧
    (actionEffect l c a s).mains = s.mains ∧
    (actionEffect l c a s).chan = s.chan ∧
    (actionEffect l c a s).supply = s.supply ∧
    (actionEffect l c a s).sto = s.sto ∧
    (actionEffect l c a s).spread = s.spread ∧
    (actionEffect l c a s).supv = s.supv ∧
    (actionEffect l c a s).pin = s.pin ∧
    (actionEffect l c a s).flt = s.flt ∧
    (actionEffect l c a s).bak = s.bak ∧
    (actionEffect l c a s).proof = s.proof := by
  unfold actionEffect; (try dsimp only); repeat' split
  all_goals (refine ⟨?_, ?_, ?_, ?_, ?_, ?_, ?_, ?_, ?_, ?_, ?_, ?_, ?_, ?_, ?_, ?_, ?_, ?_, ?_⟩ <;> simp)

@[simp] theorem continueLane_frame (l : Fin 8) (s : State) :
    (continueLane l s).pending = s.pending ∧
    (continueLane l s).now = s.now ∧
    (continueLane l s).free = s.free ∧
    (continueLane l s).power = s.power ∧
    (continueLane l s).lat = s.lat ∧
    (continueLane l s).win = s.win ∧
    (continueLane l s).boot = s.boot ∧
    (continueLane l s).otp = s.otp ∧
    (continueLane l s).paceFrac = s.paceFrac ∧
    (continueLane l s).mains = s.mains ∧
    (continueLane l s).chan = s.chan ∧
    (continueLane l s).supply = s.supply ∧
    (continueLane l s).sto = s.sto ∧
    (continueLane l s).spread = s.spread ∧
    (continueLane l s).supv = s.supv ∧
    (continueLane l s).pin = s.pin ∧
    (continueLane l s).flt = s.flt ∧
    (continueLane l s).bak = s.bak ∧
    (continueLane l s).proof = s.proof := by
  unfold continueLane; (try dsimp only); repeat' split
  all_goals (refine ⟨?_, ?_, ?_, ?_, ?_, ?_, ?_, ?_, ?_, ?_, ?_, ?_, ?_, ?_, ?_, ?_, ?_, ?_, ?_⟩ <;> simp)

@[simp] theorem continueChains_frame (s : State) :
    (continueChains s).pending = s.pending ∧
    (continueChains s).now = s.now ∧
    (continueChains s).free = s.free ∧
    (continueChains s).power = s.power ∧
    (continueChains s).lat = s.lat ∧
    (continueChains s).win = s.win ∧
    (continueChains s).boot = s.boot ∧
    (continueChains s).otp = s.otp ∧
    (continueChains s).paceFrac = s.paceFrac ∧
    (continueChains s).mains = s.mains ∧
    (continueChains s).chan = s.chan ∧
    (continueChains s).supply = s.supply ∧
    (continueChains s).sto = s.sto ∧
    (continueChains s).spread = s.spread ∧
    (continueChains s).supv = s.supv ∧
    (continueChains s).pin = s.pin ∧
    (continueChains s).flt = s.flt ∧
    (continueChains s).bak = s.bak ∧
    (continueChains s).proof = s.proof := by
  unfold continueChains; (try dsimp only); repeat' split
  all_goals (refine ⟨?_, ?_, ?_, ?_, ?_, ?_, ?_, ?_, ?_, ?_, ?_, ?_, ?_, ?_, ?_, ?_, ?_, ?_, ?_⟩ <;> simp)

@[simp] theorem stepStitch_frame (s : State) :
    (stepStitch s).pending = s.pending ∧
    (stepStitch s).now = s.now ∧
    (stepStitch s).free = s.free ∧
    (stepStitch s).power = s.power ∧
    (stepStitch s).host = s.host ∧
    (stepStitch s).lat = s.lat ∧
    (stepStitch s).win = s.win ∧
    (stepStitch s).cfg = s.cfg ∧
    (stepStitch s).boot = s.boot ∧
    (stepStitch s).otp = s.otp ∧
    (stepStitch s).src = s.src ∧
    (stepStitch s).paceFrac = s.paceFrac ∧
    (stepStitch s).mains = s.mains ∧
    (stepStitch s).axes = s.axes ∧
    (stepStitch s).chan = s.chan ∧
    (stepStitch s).supply = s.supply ∧
    (stepStitch s).sto = s.sto ∧
    (stepStitch s).spread = s.spread ∧
    (stepStitch s).supv = s.supv ∧
    (stepStitch s).fb = s.fb ∧
    (stepStitch s).cnv = s.cnv ∧
    (stepStitch s).pin = s.pin ∧
    (stepStitch s).seam = s.seam ∧
    (stepStitch s).flt = s.flt ∧
    (stepStitch s).store = s.store ∧
    (stepStitch s).bak = s.bak ∧
    (stepStitch s).proof = s.proof := by
  unfold stepStitch; (try dsimp only); repeat' split
  all_goals (refine ⟨?_, ?_, ?_, ?_, ?_, ?_, ?_, ?_, ?_, ?_, ?_, ?_, ?_, ?_, ?_, ?_, ?_, ?_, ?_, ?_, ?_, ?_, ?_, ?_, ?_, ?_, ?_⟩ <;> simp)

@[simp] theorem laneClear_frame (l : Fin 8) (w : Nat) (s : State) :
    (laneClear l w s).pending = s.pending ∧
    (laneClear l w s).now = s.now ∧
    (laneClear l w s).free = s.free ∧
    (laneClear l w s).power = s.power ∧
    (laneClear l w s).host = s.host ∧
    (laneClear l w s).lat = s.lat ∧
    (laneClear l w s).win = s.win ∧
    (laneClear l w s).cfg = s.cfg ∧
    (laneClear l w s).boot = s.boot ∧
    (laneClear l w s).otp = s.otp ∧
    (laneClear l w s).src = s.src ∧
    (laneClear l w s).paceFrac = s.paceFrac ∧
    (laneClear l w s).mains = s.mains ∧
    (laneClear l w s).axes = s.axes ∧
    (laneClear l w s).chan = s.chan ∧
    (laneClear l w s).supply = s.supply ∧
    (laneClear l w s).sto = s.sto ∧
    (laneClear l w s).spread = s.spread ∧
    (laneClear l w s).supv = s.supv ∧
    (laneClear l w s).fb = s.fb ∧
    (laneClear l w s).cnv = s.cnv ∧
    (laneClear l w s).pin = s.pin ∧
    (laneClear l w s).seam = s.seam ∧
    (laneClear l w s).flt = s.flt ∧
    (laneClear l w s).store = s.store ∧
    (laneClear l w s).bak = s.bak ∧
    (laneClear l w s).proof = s.proof := by
  unfold laneClear; (try dsimp only); repeat' split
  all_goals (refine ⟨?_, ?_, ?_, ?_, ?_, ?_, ?_, ?_, ?_, ?_, ?_, ?_, ?_, ?_, ?_, ?_, ?_, ?_, ?_, ?_, ?_, ?_, ?_, ?_, ?_, ?_, ?_⟩ <;> simp)

/-! ### Owner -/

@[simp] theorem orphanPeer_frame (dev : DevId) (s : State) :
    (orphanPeer dev s).pending = s.pending ∧
    (orphanPeer dev s).now = s.now ∧
    (orphanPeer dev s).free = s.free ∧
    (orphanPeer dev s).power = s.power ∧
    (orphanPeer dev s).host = s.host ∧
    (orphanPeer dev s).lat = s.lat ∧
    (orphanPeer dev s).win = s.win ∧
    (orphanPeer dev s).cfg = s.cfg ∧
    (orphanPeer dev s).otp = s.otp ∧
    (orphanPeer dev s).src = s.src ∧
    (orphanPeer dev s).paceFrac = s.paceFrac ∧
    (orphanPeer dev s).mains = s.mains ∧
    (orphanPeer dev s).stitch = s.stitch ∧
    (orphanPeer dev s).chan = s.chan ∧
    (orphanPeer dev s).supply = s.supply ∧
    (orphanPeer dev s).sto = s.sto ∧
    (orphanPeer dev s).spread = s.spread ∧
    (orphanPeer dev s).supv = s.supv ∧
    (orphanPeer dev s).pin = s.pin ∧
    (orphanPeer dev s).store = s.store ∧
    (orphanPeer dev s).bak = s.bak ∧
    (orphanPeer dev s).proof = s.proof := by
  unfold orphanPeer; (try dsimp only); repeat' split
  all_goals (refine ⟨?_, ?_, ?_, ?_, ?_, ?_, ?_, ?_, ?_, ?_, ?_, ?_, ?_, ?_, ?_, ?_, ?_, ?_, ?_, ?_, ?_, ?_⟩ <;> simp)

/-! ### Pins -/

@[simp] theorem writeLatch_frame (sel val : BitVec 64) (s : State) :
    (writeLatch sel val s).pending = s.pending ∧
    (writeLatch sel val s).now = s.now ∧
    (writeLatch sel val s).free = s.free ∧
    (writeLatch sel val s).power = s.power ∧
    (writeLatch sel val s).host = s.host ∧
    (writeLatch sel val s).lat = s.lat ∧
    (writeLatch sel val s).win = s.win ∧
    (writeLatch sel val s).cfg = s.cfg ∧
    (writeLatch sel val s).boot = s.boot ∧
    (writeLatch sel val s).otp = s.otp ∧
    (writeLatch sel val s).src = s.src ∧
    (writeLatch sel val s).paceFrac = s.paceFrac ∧
    (writeLatch sel val s).mains = s.mains ∧
    (writeLatch sel val s).stitch = s.stitch ∧
    (writeLatch sel val s).axes = s.axes ∧
    (writeLatch sel val s).chan = s.chan ∧
    (writeLatch sel val s).supply = s.supply ∧
    (writeLatch sel val s).sto = s.sto ∧
    (writeLatch sel val s).spread = s.spread ∧
    (writeLatch sel val s).supv = s.supv ∧
    (writeLatch sel val s).fb = s.fb ∧
    (writeLatch sel val s).cnv = s.cnv ∧
    (writeLatch sel val s).seam = s.seam ∧
    (writeLatch sel val s).flt = s.flt ∧
    (writeLatch sel val s).store = s.store ∧
    (writeLatch sel val s).bak = s.bak ∧
    (writeLatch sel val s).proof = s.proof := by
  unfold writeLatch; (try dsimp only); repeat' split
  all_goals (refine ⟨?_, ?_, ?_, ?_, ?_, ?_, ?_, ?_, ?_, ?_, ?_, ?_, ?_, ?_, ?_, ?_, ?_, ?_, ?_, ?_, ?_, ?_, ?_, ?_, ?_, ?_, ?_⟩ <;> simp)

@[simp] theorem samplePins_frame (s : State) :
    (samplePins s).pending = s.pending ∧
    (samplePins s).now = s.now ∧
    (samplePins s).free = s.free ∧
    (samplePins s).power = s.power ∧
    (samplePins s).host = s.host ∧
    (samplePins s).lat = s.lat ∧
    (samplePins s).win = s.win ∧
    (samplePins s).cfg = s.cfg ∧
    (samplePins s).boot = s.boot ∧
    (samplePins s).otp = s.otp ∧
    (samplePins s).src = s.src ∧
    (samplePins s).paceFrac = s.paceFrac ∧
    (samplePins s).mains = s.mains ∧
    (samplePins s).stitch = s.stitch ∧
    (samplePins s).axes = s.axes ∧
    (samplePins s).chan = s.chan ∧
    (samplePins s).supply = s.supply ∧
    (samplePins s).sto = s.sto ∧
    (samplePins s).spread = s.spread ∧
    (samplePins s).supv = s.supv ∧
    (samplePins s).fb = s.fb ∧
    (samplePins s).cnv = s.cnv ∧
    (samplePins s).seam = s.seam ∧
    (samplePins s).flt = s.flt ∧
    (samplePins s).store = s.store ∧
    (samplePins s).bak = s.bak ∧
    (samplePins s).proof = s.proof := by
  unfold samplePins; (try dsimp only); repeat' split
  all_goals (refine ⟨?_, ?_, ?_, ?_, ?_, ?_, ?_, ?_, ?_, ?_, ?_, ?_, ?_, ?_, ?_, ?_, ?_, ?_, ?_, ?_, ?_, ?_, ?_, ?_, ?_, ?_, ?_⟩ <;> simp)

@[simp] theorem pinInputChange_frame (bank : Fin 4) (levels : Word) (s : State) :
    (pinInputChange bank levels s).pending = s.pending ∧
    (pinInputChange bank levels s).now = s.now ∧
    (pinInputChange bank levels s).free = s.free ∧
    (pinInputChange bank levels s).power = s.power ∧
    (pinInputChange bank levels s).host = s.host ∧
    (pinInputChange bank levels s).lat = s.lat ∧
    (pinInputChange bank levels s).win = s.win ∧
    (pinInputChange bank levels s).cfg = s.cfg ∧
    (pinInputChange bank levels s).boot = s.boot ∧
    (pinInputChange bank levels s).otp = s.otp ∧
    (pinInputChange bank levels s).src = s.src ∧
    (pinInputChange bank levels s).paceFrac = s.paceFrac ∧
    (pinInputChange bank levels s).mains = s.mains ∧
    (pinInputChange bank levels s).stitch = s.stitch ∧
    (pinInputChange bank levels s).axes = s.axes ∧
    (pinInputChange bank levels s).chan = s.chan ∧
    (pinInputChange bank levels s).supply = s.supply ∧
    (pinInputChange bank levels s).sto = s.sto ∧
    (pinInputChange bank levels s).spread = s.spread ∧
    (pinInputChange bank levels s).supv = s.supv ∧
    (pinInputChange bank levels s).fb = s.fb ∧
    (pinInputChange bank levels s).cnv = s.cnv ∧
    (pinInputChange bank levels s).seam = s.seam ∧
    (pinInputChange bank levels s).flt = s.flt ∧
    (pinInputChange bank levels s).store = s.store ∧
    (pinInputChange bank levels s).bak = s.bak ∧
    (pinInputChange bank levels s).proof = s.proof := by
  unfold pinInputChange; (try dsimp only); repeat' split
  all_goals (refine ⟨?_, ?_, ?_, ?_, ?_, ?_, ?_, ?_, ?_, ?_, ?_, ?_, ?_, ?_, ?_, ?_, ?_, ?_, ?_, ?_, ?_, ?_, ?_, ?_, ?_, ?_, ?_⟩ <;> simp)

@[simp] theorem clearPinIrq_frame (b : Nat) (s : State) :
    (clearPinIrq b s).pending = s.pending ∧
    (clearPinIrq b s).now = s.now ∧
    (clearPinIrq b s).free = s.free ∧
    (clearPinIrq b s).power = s.power ∧
    (clearPinIrq b s).host = s.host ∧
    (clearPinIrq b s).lat = s.lat ∧
    (clearPinIrq b s).win = s.win ∧
    (clearPinIrq b s).cfg = s.cfg ∧
    (clearPinIrq b s).boot = s.boot ∧
    (clearPinIrq b s).otp = s.otp ∧
    (clearPinIrq b s).src = s.src ∧
    (clearPinIrq b s).paceFrac = s.paceFrac ∧
    (clearPinIrq b s).mains = s.mains ∧
    (clearPinIrq b s).stitch = s.stitch ∧
    (clearPinIrq b s).axes = s.axes ∧
    (clearPinIrq b s).chan = s.chan ∧
    (clearPinIrq b s).supply = s.supply ∧
    (clearPinIrq b s).sto = s.sto ∧
    (clearPinIrq b s).spread = s.spread ∧
    (clearPinIrq b s).supv = s.supv ∧
    (clearPinIrq b s).fb = s.fb ∧
    (clearPinIrq b s).cnv = s.cnv ∧
    (clearPinIrq b s).seam = s.seam ∧
    (clearPinIrq b s).flt = s.flt ∧
    (clearPinIrq b s).store = s.store ∧
    (clearPinIrq b s).bak = s.bak ∧
    (clearPinIrq b s).proof = s.proof := by
  unfold clearPinIrq; (try dsimp only); repeat' split
  all_goals (refine ⟨?_, ?_, ?_, ?_, ?_, ?_, ?_, ?_, ?_, ?_, ?_, ?_, ?_, ?_, ?_, ?_, ?_, ?_, ?_, ?_, ?_, ?_, ?_, ?_, ?_, ?_, ?_⟩ <;> simp)

@[simp] theorem pinsSwapped_frame (old s : State) :
    (pinsSwapped old s).pending = s.pending ∧
    (pinsSwapped old s).now = s.now ∧
    (pinsSwapped old s).free = s.free ∧
    (pinsSwapped old s).power = s.power ∧
    (pinsSwapped old s).host = s.host ∧
    (pinsSwapped old s).lat = s.lat ∧
    (pinsSwapped old s).win = s.win ∧
    (pinsSwapped old s).cfg = s.cfg ∧
    (pinsSwapped old s).boot = s.boot ∧
    (pinsSwapped old s).otp = s.otp ∧
    (pinsSwapped old s).src = s.src ∧
    (pinsSwapped old s).paceFrac = s.paceFrac ∧
    (pinsSwapped old s).mains = s.mains ∧
    (pinsSwapped old s).stitch = s.stitch ∧
    (pinsSwapped old s).axes = s.axes ∧
    (pinsSwapped old s).chan = s.chan ∧
    (pinsSwapped old s).supply = s.supply ∧
    (pinsSwapped old s).sto = s.sto ∧
    (pinsSwapped old s).spread = s.spread ∧
    (pinsSwapped old s).supv = s.supv ∧
    (pinsSwapped old s).fb = s.fb ∧
    (pinsSwapped old s).cnv = s.cnv ∧
    (pinsSwapped old s).seam = s.seam ∧
    (pinsSwapped old s).flt = s.flt ∧
    (pinsSwapped old s).store = s.store ∧
    (pinsSwapped old s).bak = s.bak ∧
    (pinsSwapped old s).proof = s.proof := by
  unfold pinsSwapped; (try dsimp only); repeat' split
  all_goals (refine ⟨?_, ?_, ?_, ?_, ?_, ?_, ?_, ?_, ?_, ?_, ?_, ?_, ?_, ?_, ?_, ?_, ?_, ?_, ?_, ?_, ?_, ?_, ?_, ?_, ?_, ?_, ?_⟩ <;> simp)

@[simp] theorem lockThem_frame (d : Word) (s : State) :
    (lockThem d s).pending = s.pending ∧
    (lockThem d s).now = s.now ∧
    (lockThem d s).free = s.free ∧
    (lockThem d s).power = s.power ∧
    (lockThem d s).host = s.host ∧
    (lockThem d s).lat = s.lat ∧
    (lockThem d s).win = s.win ∧
    (lockThem d s).cfg = s.cfg ∧
    (lockThem d s).boot = s.boot ∧
    (lockThem d s).otp = s.otp ∧
    (lockThem d s).src = s.src ∧
    (lockThem d s).paceFrac = s.paceFrac ∧
    (lockThem d s).mains = s.mains ∧
    (lockThem d s).stitch = s.stitch ∧
    (lockThem d s).axes = s.axes ∧
    (lockThem d s).chan = s.chan ∧
    (lockThem d s).supply = s.supply ∧
    (lockThem d s).sto = s.sto ∧
    (lockThem d s).spread = s.spread ∧
    (lockThem d s).supv = s.supv ∧
    (lockThem d s).fb = s.fb ∧
    (lockThem d s).cnv = s.cnv ∧
    (lockThem d s).seam = s.seam ∧
    (lockThem d s).flt = s.flt ∧
    (lockThem d s).store = s.store ∧
    (lockThem d s).bak = s.bak ∧
    (lockThem d s).proof = s.proof := by
  unfold lockThem; (try dsimp only); repeat' split
  all_goals (refine ⟨?_, ?_, ?_, ?_, ?_, ?_, ?_, ?_, ?_, ?_, ?_, ?_, ?_, ?_, ?_, ?_, ?_, ?_, ?_, ?_, ?_, ?_, ?_, ?_, ?_, ?_, ?_⟩ <;> simp)

@[simp] theorem holdPins_frame (s : State) :
    (holdPins s).pending = s.pending ∧
    (holdPins s).now = s.now ∧
    (holdPins s).free = s.free ∧
    (holdPins s).power = s.power ∧
    (holdPins s).host = s.host ∧
    (holdPins s).lat = s.lat ∧
    (holdPins s).win = s.win ∧
    (holdPins s).cfg = s.cfg ∧
    (holdPins s).boot = s.boot ∧
    (holdPins s).otp = s.otp ∧
    (holdPins s).src = s.src ∧
    (holdPins s).paceFrac = s.paceFrac ∧
    (holdPins s).mains = s.mains ∧
    (holdPins s).stitch = s.stitch ∧
    (holdPins s).axes = s.axes ∧
    (holdPins s).chan = s.chan ∧
    (holdPins s).supply = s.supply ∧
    (holdPins s).sto = s.sto ∧
    (holdPins s).spread = s.spread ∧
    (holdPins s).supv = s.supv ∧
    (holdPins s).fb = s.fb ∧
    (holdPins s).cnv = s.cnv ∧
    (holdPins s).seam = s.seam ∧
    (holdPins s).flt = s.flt ∧
    (holdPins s).store = s.store ∧
    (holdPins s).bak = s.bak ∧
    (holdPins s).proof = s.proof := by
  unfold holdPins; (try dsimp only); repeat' split
  all_goals (refine ⟨?_, ?_, ?_, ?_, ?_, ?_, ?_, ?_, ?_, ?_, ?_, ?_, ?_, ?_, ?_, ?_, ?_, ?_, ?_, ?_, ?_, ?_, ?_, ?_, ?_, ?_, ?_⟩ <;> simp)

@[simp] theorem releasePins_frame (s : State) :
    (releasePins s).pending = s.pending ∧
    (releasePins s).now = s.now ∧
    (releasePins s).free = s.free ∧
    (releasePins s).power = s.power ∧
    (releasePins s).host = s.host ∧
    (releasePins s).lat = s.lat ∧
    (releasePins s).win = s.win ∧
    (releasePins s).cfg = s.cfg ∧
    (releasePins s).boot = s.boot ∧
    (releasePins s).otp = s.otp ∧
    (releasePins s).src = s.src ∧
    (releasePins s).paceFrac = s.paceFrac ∧
    (releasePins s).mains = s.mains ∧
    (releasePins s).stitch = s.stitch ∧
    (releasePins s).axes = s.axes ∧
    (releasePins s).chan = s.chan ∧
    (releasePins s).supply = s.supply ∧
    (releasePins s).sto = s.sto ∧
    (releasePins s).spread = s.spread ∧
    (releasePins s).supv = s.supv ∧
    (releasePins s).fb = s.fb ∧
    (releasePins s).cnv = s.cnv ∧
    (releasePins s).seam = s.seam ∧
    (releasePins s).flt = s.flt ∧
    (releasePins s).store = s.store ∧
    (releasePins s).bak = s.bak ∧
    (releasePins s).proof = s.proof := by
  unfold releasePins; (try dsimp only); repeat' split
  all_goals (refine ⟨?_, ?_, ?_, ?_, ?_, ?_, ?_, ?_, ?_, ?_, ?_, ?_, ?_, ?_, ?_, ?_, ?_, ?_, ?_, ?_, ?_, ?_, ?_, ?_, ?_, ?_, ?_⟩ <;> simp)

/-! ### Store -/

@[simp] theorem modStore_frame (f : WordMem → WordMem) (s : State) :
    (modStore f s).pending = s.pending ∧
    (modStore f s).now = s.now ∧
    (modStore f s).free = s.free ∧
    (modStore f s).power = s.power ∧
    (modStore f s).host = s.host ∧
    (modStore f s).lat = s.lat ∧
    (modStore f s).win = s.win ∧
    (modStore f s).cfg = s.cfg ∧
    (modStore f s).boot = s.boot ∧
    (modStore f s).otp = s.otp ∧
    (modStore f s).src = s.src ∧
    (modStore f s).paceFrac = s.paceFrac ∧
    (modStore f s).mains = s.mains ∧
    (modStore f s).stitch = s.stitch ∧
    (modStore f s).axes = s.axes ∧
    (modStore f s).chan = s.chan ∧
    (modStore f s).supply = s.supply ∧
    (modStore f s).sto = s.sto ∧
    (modStore f s).spread = s.spread ∧
    (modStore f s).supv = s.supv ∧
    (modStore f s).fb = s.fb ∧
    (modStore f s).cnv = s.cnv ∧
    (modStore f s).pin = s.pin ∧
    (modStore f s).seam = s.seam ∧
    (modStore f s).flt = s.flt ∧
    (modStore f s).bak = s.bak ∧
    (modStore f s).proof = s.proof := by
  unfold modStore; (try dsimp only); repeat' split
  all_goals (refine ⟨?_, ?_, ?_, ?_, ?_, ?_, ?_, ?_, ?_, ?_, ?_, ?_, ?_, ?_, ?_, ?_, ?_, ?_, ?_, ?_, ?_, ?_, ?_, ?_, ?_, ?_, ?_⟩ <;> simp)

@[simp] theorem verifyFault_frame (area : Nat) (s : State) :
    (verifyFault area s).pending = s.pending ∧
    (verifyFault area s).now = s.now ∧
    (verifyFault area s).free = s.free ∧
    (verifyFault area s).power = s.power ∧
    (verifyFault area s).host = s.host ∧
    (verifyFault area s).lat = s.lat ∧
    (verifyFault area s).win = s.win ∧
    (verifyFault area s).cfg = s.cfg ∧
    (verifyFault area s).boot = s.boot ∧
    (verifyFault area s).otp = s.otp ∧
    (verifyFault area s).src = s.src ∧
    (verifyFault area s).paceFrac = s.paceFrac ∧
    (verifyFault area s).mains = s.mains ∧
    (verifyFault area s).stitch = s.stitch ∧
    (verifyFault area s).axes = s.axes ∧
    (verifyFault area s).chan = s.chan ∧
    (verifyFault area s).supply = s.supply ∧
    (verifyFault area s).sto = s.sto ∧
    (verifyFault area s).spread = s.spread ∧
    (verifyFault area s).supv = s.supv ∧
    (verifyFault area s).pin = s.pin ∧
    (verifyFault area s).seam = s.seam ∧
    (verifyFault area s).store = s.store ∧
    (verifyFault area s).bak = s.bak ∧
    (verifyFault area s).proof = s.proof := by
  unfold verifyFault; (try dsimp only); repeat' split
  all_goals (refine ⟨?_, ?_, ?_, ?_, ?_, ?_, ?_, ?_, ?_, ?_, ?_, ?_, ?_, ?_, ?_, ?_, ?_, ?_, ?_, ?_, ?_, ?_, ?_, ?_, ?_⟩ <;> simp)

@[simp] theorem cutJob_frame (l : StoreJob) (s : State) :
    (cutJob l s).pending = s.pending ∧
    (cutJob l s).now = s.now ∧
    (cutJob l s).power = s.power ∧
    (cutJob l s).host = s.host ∧
    (cutJob l s).lat = s.lat ∧
    (cutJob l s).win = s.win ∧
    (cutJob l s).cfg = s.cfg ∧
    (cutJob l s).boot = s.boot ∧
    (cutJob l s).otp = s.otp ∧
    (cutJob l s).src = s.src ∧
    (cutJob l s).paceFrac = s.paceFrac ∧
    (cutJob l s).mains = s.mains ∧
    (cutJob l s).stitch = s.stitch ∧
    (cutJob l s).axes = s.axes ∧
    (cutJob l s).chan = s.chan ∧
    (cutJob l s).supply = s.supply ∧
    (cutJob l s).sto = s.sto ∧
    (cutJob l s).spread = s.spread ∧
    (cutJob l s).supv = s.supv ∧
    (cutJob l s).fb = s.fb ∧
    (cutJob l s).cnv = s.cnv ∧
    (cutJob l s).pin = s.pin ∧
    (cutJob l s).seam = s.seam ∧
    (cutJob l s).flt = s.flt ∧
    (cutJob l s).bak = s.bak ∧
    (cutJob l s).proof = s.proof := by
  unfold cutJob; (try dsimp only); repeat' split
  all_goals (refine ⟨?_, ?_, ?_, ?_, ?_, ?_, ?_, ?_, ?_, ?_, ?_, ?_, ?_, ?_, ?_, ?_, ?_, ?_, ?_, ?_, ?_, ?_, ?_, ?_, ?_, ?_⟩ <;> simp)

@[simp] theorem failJob_frame (l : StoreJob) (s : State) :
    (failJob l s).pending = s.pending ∧
    (failJob l s).now = s.now ∧
    (failJob l s).power = s.power ∧
    (failJob l s).host = s.host ∧
    (failJob l s).lat = s.lat ∧
    (failJob l s).win = s.win ∧
    (failJob l s).cfg = s.cfg ∧
    (failJob l s).boot = s.boot ∧
    (failJob l s).otp = s.otp ∧
    (failJob l s).src = s.src ∧
    (failJob l s).paceFrac = s.paceFrac ∧
    (failJob l s).mains = s.mains ∧
    (failJob l s).stitch = s.stitch ∧
    (failJob l s).axes = s.axes ∧
    (failJob l s).chan = s.chan ∧
    (failJob l s).supply = s.supply ∧
    (failJob l s).sto = s.sto ∧
    (failJob l s).spread = s.spread ∧
    (failJob l s).supv = s.supv ∧
    (failJob l s).pin = s.pin ∧
    (failJob l s).seam = s.seam ∧
    (failJob l s).bak = s.bak ∧
    (failJob l s).proof = s.proof := by
  unfold failJob; (try dsimp only); repeat' split
  all_goals (refine ⟨?_, ?_, ?_, ?_, ?_, ?_, ?_, ?_, ?_, ?_, ?_, ?_, ?_, ?_, ?_, ?_, ?_, ?_, ?_, ?_, ?_, ?_, ?_⟩ <;> simp)

@[simp] theorem endJob_frame (verified : Bool) (l : StoreJob) (s : State) :
    (endJob verified l s).pending = s.pending ∧
    (endJob verified l s).now = s.now ∧
    (endJob verified l s).power = s.power ∧
    (endJob verified l s).host = s.host ∧
    (endJob verified l s).lat = s.lat ∧
    (endJob verified l s).win = s.win ∧
    (endJob verified l s).cfg = s.cfg ∧
    (endJob verified l s).boot = s.boot ∧
    (endJob verified l s).otp = s.otp ∧
    (endJob verified l s).src = s.src ∧
    (endJob verified l s).paceFrac = s.paceFrac ∧
    (endJob verified l s).mains = s.mains ∧
    (endJob verified l s).stitch = s.stitch ∧
    (endJob verified l s).axes = s.axes ∧
    (endJob verified l s).chan = s.chan ∧
    (endJob verified l s).supply = s.supply ∧
    (endJob verified l s).sto = s.sto ∧
    (endJob verified l s).spread = s.spread ∧
    (endJob verified l s).supv = s.supv ∧
    (endJob verified l s).pin = s.pin ∧
    (endJob verified l s).seam = s.seam ∧
    (endJob verified l s).bak = s.bak ∧
    (endJob verified l s).proof = s.proof := by
  unfold endJob; (try dsimp only); repeat' split
  all_goals (refine ⟨?_, ?_, ?_, ?_, ?_, ?_, ?_, ?_, ?_, ?_, ?_, ?_, ?_, ?_, ?_, ?_, ?_, ?_, ?_, ?_, ?_, ?_, ?_⟩ <;> simp)

@[simp] theorem bumpCounter_frame (verified : Bool) (c k : Nat) (s : State) :
    (bumpCounter verified c k s).pending = s.pending ∧
    (bumpCounter verified c k s).now = s.now ∧
    (bumpCounter verified c k s).power = s.power ∧
    (bumpCounter verified c k s).host = s.host ∧
    (bumpCounter verified c k s).lat = s.lat ∧
    (bumpCounter verified c k s).win = s.win ∧
    (bumpCounter verified c k s).cfg = s.cfg ∧
    (bumpCounter verified c k s).boot = s.boot ∧
    (bumpCounter verified c k s).otp = s.otp ∧
    (bumpCounter verified c k s).src = s.src ∧
    (bumpCounter verified c k s).paceFrac = s.paceFrac ∧
    (bumpCounter verified c k s).mains = s.mains ∧
    (bumpCounter verified c k s).stitch = s.stitch ∧
    (bumpCounter verified c k s).axes = s.axes ∧
    (bumpCounter verified c k s).chan = s.chan ∧
    (bumpCounter verified c k s).supply = s.supply ∧
    (bumpCounter verified c k s).sto = s.sto ∧
    (bumpCounter verified c k s).spread = s.spread ∧
    (bumpCounter verified c k s).supv = s.supv ∧
    (bumpCounter verified c k s).pin = s.pin ∧
    (bumpCounter verified c k s).seam = s.seam ∧
    (bumpCounter verified c k s).bak = s.bak ∧
    (bumpCounter verified c k s).proof = s.proof := by
  unfold bumpCounter; (try dsimp only); repeat' split
  all_goals (refine ⟨?_, ?_, ?_, ?_, ?_, ?_, ?_, ?_, ?_, ?_, ?_, ?_, ?_, ?_, ?_, ?_, ?_, ?_, ?_, ?_, ?_, ?_, ?_⟩ <;> simp)

@[simp] theorem tallyStoreWrite_frame (verified : Bool) (s : State) :
    (tallyStoreWrite verified s).pending = s.pending ∧
    (tallyStoreWrite verified s).now = s.now ∧
    (tallyStoreWrite verified s).power = s.power ∧
    (tallyStoreWrite verified s).host = s.host ∧
    (tallyStoreWrite verified s).lat = s.lat ∧
    (tallyStoreWrite verified s).win = s.win ∧
    (tallyStoreWrite verified s).cfg = s.cfg ∧
    (tallyStoreWrite verified s).boot = s.boot ∧
    (tallyStoreWrite verified s).otp = s.otp ∧
    (tallyStoreWrite verified s).src = s.src ∧
    (tallyStoreWrite verified s).paceFrac = s.paceFrac ∧
    (tallyStoreWrite verified s).mains = s.mains ∧
    (tallyStoreWrite verified s).stitch = s.stitch ∧
    (tallyStoreWrite verified s).axes = s.axes ∧
    (tallyStoreWrite verified s).chan = s.chan ∧
    (tallyStoreWrite verified s).supply = s.supply ∧
    (tallyStoreWrite verified s).sto = s.sto ∧
    (tallyStoreWrite verified s).spread = s.spread ∧
    (tallyStoreWrite verified s).supv = s.supv ∧
    (tallyStoreWrite verified s).pin = s.pin ∧
    (tallyStoreWrite verified s).seam = s.seam ∧
    (tallyStoreWrite verified s).bak = s.bak ∧
    (tallyStoreWrite verified s).proof = s.proof := by
  unfold tallyStoreWrite; (try dsimp only); repeat' split
  all_goals (refine ⟨?_, ?_, ?_, ?_, ?_, ?_, ?_, ?_, ?_, ?_, ?_, ?_, ?_, ?_, ?_, ?_, ?_, ?_, ?_, ?_, ?_, ?_, ?_⟩ <;> simp)

@[simp] theorem runTimeIncrement_frame (n : Fin 8) (s : State) :
    (runTimeIncrement n s).pending = s.pending ∧
    (runTimeIncrement n s).now = s.now ∧
    (runTimeIncrement n s).free = s.free ∧
    (runTimeIncrement n s).power = s.power ∧
    (runTimeIncrement n s).host = s.host ∧
    (runTimeIncrement n s).lat = s.lat ∧
    (runTimeIncrement n s).win = s.win ∧
    (runTimeIncrement n s).cfg = s.cfg ∧
    (runTimeIncrement n s).boot = s.boot ∧
    (runTimeIncrement n s).otp = s.otp ∧
    (runTimeIncrement n s).src = s.src ∧
    (runTimeIncrement n s).paceFrac = s.paceFrac ∧
    (runTimeIncrement n s).mains = s.mains ∧
    (runTimeIncrement n s).stitch = s.stitch ∧
    (runTimeIncrement n s).chan = s.chan ∧
    (runTimeIncrement n s).supply = s.supply ∧
    (runTimeIncrement n s).sto = s.sto ∧
    (runTimeIncrement n s).spread = s.spread ∧
    (runTimeIncrement n s).supv = s.supv ∧
    (runTimeIncrement n s).fb = s.fb ∧
    (runTimeIncrement n s).cnv = s.cnv ∧
    (runTimeIncrement n s).pin = s.pin ∧
    (runTimeIncrement n s).seam = s.seam ∧
    (runTimeIncrement n s).flt = s.flt ∧
    (runTimeIncrement n s).bak = s.bak ∧
    (runTimeIncrement n s).proof = s.proof := by
  unfold runTimeIncrement; (try dsimp only); repeat' split
  all_goals (refine ⟨?_, ?_, ?_, ?_, ?_, ?_, ?_, ?_, ?_, ?_, ?_, ?_, ?_, ?_, ?_, ?_, ?_, ?_, ?_, ?_, ?_, ?_, ?_, ?_, ?_, ?_⟩ <;> simp)

@[simp] theorem stepRunTime_frame (s : State) :
    (stepRunTime s).pending = s.pending ∧
    (stepRunTime s).now = s.now ∧
    (stepRunTime s).free = s.free ∧
    (stepRunTime s).power = s.power ∧
    (stepRunTime s).host = s.host ∧
    (stepRunTime s).lat = s.lat ∧
    (stepRunTime s).win = s.win ∧
    (stepRunTime s).cfg = s.cfg ∧
    (stepRunTime s).boot = s.boot ∧
    (stepRunTime s).otp = s.otp ∧
    (stepRunTime s).src = s.src ∧
    (stepRunTime s).paceFrac = s.paceFrac ∧
    (stepRunTime s).mains = s.mains ∧
    (stepRunTime s).stitch = s.stitch ∧
    (stepRunTime s).chan = s.chan ∧
    (stepRunTime s).supply = s.supply ∧
    (stepRunTime s).sto = s.sto ∧
    (stepRunTime s).spread = s.spread ∧
    (stepRunTime s).supv = s.supv ∧
    (stepRunTime s).fb = s.fb ∧
    (stepRunTime s).cnv = s.cnv ∧
    (stepRunTime s).pin = s.pin ∧
    (stepRunTime s).seam = s.seam ∧
    (stepRunTime s).flt = s.flt ∧
    (stepRunTime s).store = s.store ∧
    (stepRunTime s).bak = s.bak ∧
    (stepRunTime s).proof = s.proof := by
  unfold stepRunTime; (try dsimp only); repeat' split
  all_goals simp [ite_pending, ite_now, ite_free, ite_power, ite_host, ite_lat, ite_win, ite_cfg, ite_boot, ite_otp, ite_src, ite_paceFrac, ite_mains, ite_stitch, ite_axes, ite_chan, ite_supply, ite_sto, ite_spread, ite_supv, ite_fb, ite_cnv, ite_pin, ite_seam, ite_flt, ite_store, ite_bak, ite_proof]

@[simp] theorem writeHeader_frame (verified : Bool) (h : Header) (s : State) :
    (writeHeader verified h s).pending = s.pending ∧
    (writeHeader verified h s).now = s.now ∧
    (writeHeader verified h s).power = s.power ∧
    (writeHeader verified h s).host = s.host ∧
    (writeHeader verified h s).lat = s.lat ∧
    (writeHeader verified h s).win = s.win ∧
    (writeHeader verified h s).cfg = s.cfg ∧
    (writeHeader verified h s).boot = s.boot ∧
    (writeHeader verified h s).otp = s.otp ∧
    (writeHeader verified h s).src = s.src ∧
    (writeHeader verified h s).paceFrac = s.paceFrac ∧
    (writeHeader verified h s).mains = s.mains ∧
    (writeHeader verified h s).stitch = s.stitch ∧
    (writeHeader verified h s).axes = s.axes ∧
    (writeHeader verified h s).chan = s.chan ∧
    (writeHeader verified h s).supply = s.supply ∧
    (writeHeader verified h s).sto = s.sto ∧
    (writeHeader verified h s).spread = s.spread ∧
    (writeHeader verified h s).supv = s.supv ∧
    (writeHeader verified h s).pin = s.pin ∧
    (writeHeader verified h s).seam = s.seam ∧
    (writeHeader verified h s).bak = s.bak ∧
    (writeHeader verified h s).proof = s.proof := by
  unfold writeHeader; (try dsimp only); repeat' split
  all_goals (refine ⟨?_, ?_, ?_, ?_, ?_, ?_, ?_, ?_, ?_, ?_, ?_, ?_, ?_, ?_, ?_, ?_, ?_, ?_, ?_, ?_, ?_, ?_, ?_⟩ <;> simp)

@[simp] theorem endStagingOf_frame (p : Party) (s : State) :
    (endStagingOf p s).pending = s.pending ∧
    (endStagingOf p s).now = s.now ∧
    (endStagingOf p s).free = s.free ∧
    (endStagingOf p s).power = s.power ∧
    (endStagingOf p s).host = s.host ∧
    (endStagingOf p s).lat = s.lat ∧
    (endStagingOf p s).win = s.win ∧
    (endStagingOf p s).cfg = s.cfg ∧
    (endStagingOf p s).boot = s.boot ∧
    (endStagingOf p s).otp = s.otp ∧
    (endStagingOf p s).src = s.src ∧
    (endStagingOf p s).paceFrac = s.paceFrac ∧
    (endStagingOf p s).mains = s.mains ∧
    (endStagingOf p s).stitch = s.stitch ∧
    (endStagingOf p s).axes = s.axes ∧
    (endStagingOf p s).chan = s.chan ∧
    (endStagingOf p s).supply = s.supply ∧
    (endStagingOf p s).sto = s.sto ∧
    (endStagingOf p s).spread = s.spread ∧
    (endStagingOf p s).supv = s.supv ∧
    (endStagingOf p s).fb = s.fb ∧
    (endStagingOf p s).cnv = s.cnv ∧
    (endStagingOf p s).pin = s.pin ∧
    (endStagingOf p s).seam = s.seam ∧
    (endStagingOf p s).flt = s.flt ∧
    (endStagingOf p s).bak = s.bak ∧
    (endStagingOf p s).proof = s.proof := by
  unfold endStagingOf; (try dsimp only); repeat' split
  all_goals (refine ⟨?_, ?_, ?_, ?_, ?_, ?_, ?_, ?_, ?_, ?_, ?_, ?_, ?_, ?_, ?_, ?_, ?_, ?_, ?_, ?_, ?_, ?_, ?_, ?_, ?_, ?_, ?_⟩ <;> simp)

@[simp] theorem storeDone_frame (result : BitVec 3) (s : State) :
    (storeDone result s).pending = s.pending ∧
    (storeDone result s).now = s.now ∧
    (storeDone result s).free = s.free ∧
    (storeDone result s).power = s.power ∧
    (storeDone result s).host = s.host ∧
    (storeDone result s).lat = s.lat ∧
    (storeDone result s).win = s.win ∧
    (storeDone result s).cfg = s.cfg ∧
    (storeDone result s).boot = s.boot ∧
    (storeDone result s).otp = s.otp ∧
    (storeDone result s).src = s.src ∧
    (storeDone result s).paceFrac = s.paceFrac ∧
    (storeDone result s).mains = s.mains ∧
    (storeDone result s).stitch = s.stitch ∧
    (storeDone result s).axes = s.axes ∧
    (storeDone result s).chan = s.chan ∧
    (storeDone result s).supply = s.supply ∧
    (storeDone result s).sto = s.sto ∧
    (storeDone result s).spread = s.spread ∧
    (storeDone result s).supv = s.supv ∧
    (storeDone result s).fb = s.fb ∧
    (storeDone result s).cnv = s.cnv ∧
    (storeDone result s).pin = s.pin ∧
    (storeDone result s).seam = s.seam ∧
    (storeDone result s).flt = s.flt ∧
    (storeDone result s).bak = s.bak ∧
    (storeDone result s).proof = s.proof := by
  unfold storeDone; (try dsimp only); repeat' split
  all_goals (refine ⟨?_, ?_, ?_, ?_, ?_, ?_, ?_, ?_, ?_, ?_, ?_, ?_, ?_, ?_, ?_, ?_, ?_, ?_, ?_, ?_, ?_, ?_, ?_, ?_, ?_, ?_, ?_⟩ <;> simp)

@[simp] theorem calstore_frame (arg : BitVec 12) (s : State) :
    (calstore arg s).pending = s.pending ∧
    (calstore arg s).now = s.now ∧
    (calstore arg s).free = s.free ∧
    (calstore arg s).power = s.power ∧
    (calstore arg s).host = s.host ∧
    (calstore arg s).lat = s.lat ∧
    (calstore arg s).win = s.win ∧
    (calstore arg s).cfg = s.cfg ∧
    (calstore arg s).boot = s.boot ∧
    (calstore arg s).otp = s.otp ∧
    (calstore arg s).src = s.src ∧
    (calstore arg s).paceFrac = s.paceFrac ∧
    (calstore arg s).mains = s.mains ∧
    (calstore arg s).stitch = s.stitch ∧
    (calstore arg s).axes = s.axes ∧
    (calstore arg s).chan = s.chan ∧
    (calstore arg s).supply = s.supply ∧
    (calstore arg s).sto = s.sto ∧
    (calstore arg s).spread = s.spread ∧
    (calstore arg s).supv = s.supv ∧
    (calstore arg s).fb = s.fb ∧
    (calstore arg s).cnv = s.cnv ∧
    (calstore arg s).pin = s.pin ∧
    (calstore arg s).seam = s.seam ∧
    (calstore arg s).flt = s.flt ∧
    (calstore arg s).bak = s.bak ∧
    (calstore arg s).proof = s.proof := by
  unfold calstore; (try dsimp only); repeat' split
  all_goals (refine ⟨?_, ?_, ?_, ?_, ?_, ?_, ?_, ?_, ?_, ?_, ?_, ?_, ?_, ?_, ?_, ?_, ?_, ?_, ?_, ?_, ?_, ?_, ?_, ?_, ?_, ?_, ?_⟩ <;> simp)

@[simp] theorem sealSlot_frame (s : State) :
    (sealSlot s).pending = s.pending ∧
    (sealSlot s).now = s.now ∧
    (sealSlot s).free = s.free ∧
    (sealSlot s).power = s.power ∧
    (sealSlot s).host = s.host ∧
    (sealSlot s).lat = s.lat ∧
    (sealSlot s).win = s.win ∧
    (sealSlot s).cfg = s.cfg ∧
    (sealSlot s).boot = s.boot ∧
    (sealSlot s).otp = s.otp ∧
    (sealSlot s).src = s.src ∧
    (sealSlot s).paceFrac = s.paceFrac ∧
    (sealSlot s).mains = s.mains ∧
    (sealSlot s).stitch = s.stitch ∧
    (sealSlot s).axes = s.axes ∧
    (sealSlot s).chan = s.chan ∧
    (sealSlot s).supply = s.supply ∧
    (sealSlot s).sto = s.sto ∧
    (sealSlot s).spread = s.spread ∧
    (sealSlot s).supv = s.supv ∧
    (sealSlot s).fb = s.fb ∧
    (sealSlot s).cnv = s.cnv ∧
    (sealSlot s).pin = s.pin ∧
    (sealSlot s).seam = s.seam ∧
    (sealSlot s).flt = s.flt ∧
    (sealSlot s).bak = s.bak ∧
    (sealSlot s).proof = s.proof := by
  unfold sealSlot; (try dsimp only); repeat' split
  all_goals (refine ⟨?_, ?_, ?_, ?_, ?_, ?_, ?_, ?_, ?_, ?_, ?_, ?_, ?_, ?_, ?_, ?_, ?_, ?_, ?_, ?_, ?_, ?_, ?_, ?_, ?_, ?_, ?_⟩ <;> simp)

@[simp] theorem storeCmd_frame (p : Party) (op : Nat) (arg : BitVec 12) (s : State) :
    (storeCmd p op arg s).pending = s.pending ∧
    (storeCmd p op arg s).now = s.now ∧
    (storeCmd p op arg s).free = s.free ∧
    (storeCmd p op arg s).power = s.power ∧
    (storeCmd p op arg s).host = s.host ∧
    (storeCmd p op arg s).lat = s.lat ∧
    (storeCmd p op arg s).win = s.win ∧
    (storeCmd p op arg s).cfg = s.cfg ∧
    (storeCmd p op arg s).boot = s.boot ∧
    (storeCmd p op arg s).otp = s.otp ∧
    (storeCmd p op arg s).src = s.src ∧
    (storeCmd p op arg s).paceFrac = s.paceFrac ∧
    (storeCmd p op arg s).mains = s.mains ∧
    (storeCmd p op arg s).stitch = s.stitch ∧
    (storeCmd p op arg s).axes = s.axes ∧
    (storeCmd p op arg s).chan = s.chan ∧
    (storeCmd p op arg s).supply = s.supply ∧
    (storeCmd p op arg s).sto = s.sto ∧
    (storeCmd p op arg s).spread = s.spread ∧
    (storeCmd p op arg s).supv = s.supv ∧
    (storeCmd p op arg s).fb = s.fb ∧
    (storeCmd p op arg s).cnv = s.cnv ∧
    (storeCmd p op arg s).pin = s.pin ∧
    (storeCmd p op arg s).seam = s.seam ∧
    (storeCmd p op arg s).flt = s.flt ∧
    (storeCmd p op arg s).bak = s.bak ∧
    (storeCmd p op arg s).proof = s.proof := by
  unfold storeCmd; (try dsimp only); repeat' split
  all_goals (refine ⟨?_, ?_, ?_, ?_, ?_, ?_, ?_, ?_, ?_, ?_, ?_, ?_, ?_, ?_, ?_, ?_, ?_, ?_, ?_, ?_, ?_, ?_, ?_, ?_, ?_, ?_, ?_⟩ <;> simp)

@[simp] theorem bankWriteDone_frame (verified : Bool) (s : State) :
    (bankWriteDone verified s).pending = s.pending ∧
    (bankWriteDone verified s).now = s.now ∧
    (bankWriteDone verified s).power = s.power ∧
    (bankWriteDone verified s).host = s.host ∧
    (bankWriteDone verified s).lat = s.lat ∧
    (bankWriteDone verified s).win = s.win ∧
    (bankWriteDone verified s).cfg = s.cfg ∧
    (bankWriteDone verified s).boot = s.boot ∧
    (bankWriteDone verified s).otp = s.otp ∧
    (bankWriteDone verified s).src = s.src ∧
    (bankWriteDone verified s).paceFrac = s.paceFrac ∧
    (bankWriteDone verified s).mains = s.mains ∧
    (bankWriteDone verified s).stitch = s.stitch ∧
    (bankWriteDone verified s).axes = s.axes ∧
    (bankWriteDone verified s).chan = s.chan ∧
    (bankWriteDone verified s).supply = s.supply ∧
    (bankWriteDone verified s).sto = s.sto ∧
    (bankWriteDone verified s).spread = s.spread ∧
    (bankWriteDone verified s).supv = s.supv ∧
    (bankWriteDone verified s).pin = s.pin ∧
    (bankWriteDone verified s).seam = s.seam ∧
    (bankWriteDone verified s).bak = s.bak ∧
    (bankWriteDone verified s).proof = s.proof := by
  unfold bankWriteDone; (try dsimp only); repeat' split
  all_goals (refine ⟨?_, ?_, ?_, ?_, ?_, ?_, ?_, ?_, ?_, ?_, ?_, ?_, ?_, ?_, ?_, ?_, ?_, ?_, ?_, ?_, ?_, ?_, ?_⟩ <;> simp)

@[simp] theorem stagingBeginDone_frame (verified : Bool) (s : State) :
    (stagingBeginDone verified s).pending = s.pending ∧
    (stagingBeginDone verified s).now = s.now ∧
    (stagingBeginDone verified s).power = s.power ∧
    (stagingBeginDone verified s).host = s.host ∧
    (stagingBeginDone verified s).lat = s.lat ∧
    (stagingBeginDone verified s).win = s.win ∧
    (stagingBeginDone verified s).cfg = s.cfg ∧
    (stagingBeginDone verified s).boot = s.boot ∧
    (stagingBeginDone verified s).otp = s.otp ∧
    (stagingBeginDone verified s).src = s.src ∧
    (stagingBeginDone verified s).paceFrac = s.paceFrac ∧
    (stagingBeginDone verified s).mains = s.mains ∧
    (stagingBeginDone verified s).stitch = s.stitch ∧
    (stagingBeginDone verified s).axes = s.axes ∧
    (stagingBeginDone verified s).chan = s.chan ∧
    (stagingBeginDone verified s).supply = s.supply ∧
    (stagingBeginDone verified s).sto = s.sto ∧
    (stagingBeginDone verified s).spread = s.spread ∧
    (stagingBeginDone verified s).supv = s.supv ∧
    (stagingBeginDone verified s).pin = s.pin ∧
    (stagingBeginDone verified s).seam = s.seam ∧
    (stagingBeginDone verified s).bak = s.bak ∧
    (stagingBeginDone verified s).proof = s.proof := by
  unfold stagingBeginDone; (try dsimp only); repeat' split
  all_goals (refine ⟨?_, ?_, ?_, ?_, ?_, ?_, ?_, ?_, ?_, ?_, ?_, ?_, ?_, ?_, ?_, ?_, ?_, ?_, ?_, ?_, ?_, ?_, ?_⟩ <;> simp)

@[simp] theorem headerWriteDone_frame (verified : Bool) (s : State) :
    (headerWriteDone verified s).pending = s.pending ∧
    (headerWriteDone verified s).now = s.now ∧
    (headerWriteDone verified s).power = s.power ∧
    (headerWriteDone verified s).host = s.host ∧
    (headerWriteDone verified s).lat = s.lat ∧
    (headerWriteDone verified s).win = s.win ∧
    (headerWriteDone verified s).cfg = s.cfg ∧
    (headerWriteDone verified s).boot = s.boot ∧
    (headerWriteDone verified s).otp = s.otp ∧
    (headerWriteDone verified s).src = s.src ∧
    (headerWriteDone verified s).paceFrac = s.paceFrac ∧
    (headerWriteDone verified s).mains = s.mains ∧
    (headerWriteDone verified s).stitch = s.stitch ∧
    (headerWriteDone verified s).axes = s.axes ∧
    (headerWriteDone verified s).chan = s.chan ∧
    (headerWriteDone verified s).supply = s.supply ∧
    (headerWriteDone verified s).sto = s.sto ∧
    (headerWriteDone verified s).spread = s.spread ∧
    (headerWriteDone verified s).supv = s.supv ∧
    (headerWriteDone verified s).pin = s.pin ∧
    (headerWriteDone verified s).seam = s.seam ∧
    (headerWriteDone verified s).bak = s.bak ∧
    (headerWriteDone verified s).proof = s.proof := by
  unfold headerWriteDone; (try dsimp only); repeat' split
  all_goals (refine ⟨?_, ?_, ?_, ?_, ?_, ?_, ?_, ?_, ?_, ?_, ?_, ?_, ?_, ?_, ?_, ?_, ?_, ?_, ?_, ?_, ?_, ?_, ?_⟩ <;> simp)

@[simp] theorem writeStaged_frame (a : Nat) (d : Word) (verified : Bool) (s : State) :
    (writeStaged a d verified s).pending = s.pending ∧
    (writeStaged a d verified s).now = s.now ∧
    (writeStaged a d verified s).power = s.power ∧
    (writeStaged a d verified s).host = s.host ∧
    (writeStaged a d verified s).lat = s.lat ∧
    (writeStaged a d verified s).win = s.win ∧
    (writeStaged a d verified s).cfg = s.cfg ∧
    (writeStaged a d verified s).boot = s.boot ∧
    (writeStaged a d verified s).otp = s.otp ∧
    (writeStaged a d verified s).src = s.src ∧
    (writeStaged a d verified s).paceFrac = s.paceFrac ∧
    (writeStaged a d verified s).mains = s.mains ∧
    (writeStaged a d verified s).stitch = s.stitch ∧
    (writeStaged a d verified s).axes = s.axes ∧
    (writeStaged a d verified s).chan = s.chan ∧
    (writeStaged a d verified s).supply = s.supply ∧
    (writeStaged a d verified s).sto = s.sto ∧
    (writeStaged a d verified s).spread = s.spread ∧
    (writeStaged a d verified s).supv = s.supv ∧
    (writeStaged a d verified s).pin = s.pin ∧
    (writeStaged a d verified s).seam = s.seam ∧
    (writeStaged a d verified s).bak = s.bak ∧
    (writeStaged a d verified s).proof = s.proof := by
  unfold writeStaged; (try dsimp only); repeat' split
  all_goals (refine ⟨?_, ?_, ?_, ?_, ?_, ?_, ?_, ?_, ?_, ?_, ?_, ?_, ?_, ?_, ?_, ?_, ?_, ?_, ?_, ?_, ?_, ?_, ?_⟩ <;> simp)

/-! ### Backup -/

@[simp] theorem modBak_frame (f : Backup → Backup) (s : State) :
    (modBak f s).pending = s.pending ∧
    (modBak f s).now = s.now ∧
    (modBak f s).free = s.free ∧
    (modBak f s).power = s.power ∧
    (modBak f s).host = s.host ∧
    (modBak f s).lat = s.lat ∧
    (modBak f s).win = s.win ∧
    (modBak f s).cfg = s.cfg ∧
    (modBak f s).boot = s.boot ∧
    (modBak f s).otp = s.otp ∧
    (modBak f s).src = s.src ∧
    (modBak f s).paceFrac = s.paceFrac ∧
    (modBak f s).mains = s.mains ∧
    (modBak f s).stitch = s.stitch ∧
    (modBak f s).axes = s.axes ∧
    (modBak f s).chan = s.chan ∧
    (modBak f s).supply = s.supply ∧
    (modBak f s).sto = s.sto ∧
    (modBak f s).spread = s.spread ∧
    (modBak f s).supv = s.supv ∧
    (modBak f s).fb = s.fb ∧
    (modBak f s).cnv = s.cnv ∧
    (modBak f s).pin = s.pin ∧
    (modBak f s).seam = s.seam ∧
    (modBak f s).flt = s.flt ∧
    (modBak f s).store = s.store ∧
    (modBak f s).proof = s.proof := by
  unfold modBak; (try dsimp only); repeat' split
  all_goals (refine ⟨?_, ?_, ?_, ?_, ?_, ?_, ?_, ?_, ?_, ?_, ?_, ?_, ?_, ?_, ?_, ?_, ?_, ?_, ?_, ?_, ?_, ?_, ?_, ?_, ?_, ?_, ?_⟩ <;> simp)

@[simp] theorem stepRtc_frame (s : State) :
    (stepRtc s).pending = s.pending ∧
    (stepRtc s).now = s.now ∧
    (stepRtc s).free = s.free ∧
    (stepRtc s).power = s.power ∧
    (stepRtc s).host = s.host ∧
    (stepRtc s).lat = s.lat ∧
    (stepRtc s).win = s.win ∧
    (stepRtc s).cfg = s.cfg ∧
    (stepRtc s).boot = s.boot ∧
    (stepRtc s).otp = s.otp ∧
    (stepRtc s).src = s.src ∧
    (stepRtc s).paceFrac = s.paceFrac ∧
    (stepRtc s).mains = s.mains ∧
    (stepRtc s).stitch = s.stitch ∧
    (stepRtc s).axes = s.axes ∧
    (stepRtc s).chan = s.chan ∧
    (stepRtc s).supply = s.supply ∧
    (stepRtc s).sto = s.sto ∧
    (stepRtc s).spread = s.spread ∧
    (stepRtc s).supv = s.supv ∧
    (stepRtc s).fb = s.fb ∧
    (stepRtc s).cnv = s.cnv ∧
    (stepRtc s).pin = s.pin ∧
    (stepRtc s).seam = s.seam ∧
    (stepRtc s).flt = s.flt ∧
    (stepRtc s).store = s.store ∧
    (stepRtc s).proof = s.proof := by
  unfold stepRtc; (try dsimp only); repeat' split
  all_goals (refine ⟨?_, ?_, ?_, ?_, ?_, ?_, ?_, ?_, ?_, ?_, ?_, ?_, ?_, ?_, ?_, ?_, ?_, ?_, ?_, ?_, ?_, ?_, ?_, ?_, ?_, ?_, ?_⟩ <;> simp)

@[simp] theorem passClock_frame (s : State) :
    (passClock s).pending = s.pending ∧
    (passClock s).now = s.now ∧
    (passClock s).power = s.power ∧
    (passClock s).host = s.host ∧
    (passClock s).lat = s.lat ∧
    (passClock s).win = s.win ∧
    (passClock s).cfg = s.cfg ∧
    (passClock s).boot = s.boot ∧
    (passClock s).otp = s.otp ∧
    (passClock s).src = s.src ∧
    (passClock s).paceFrac = s.paceFrac ∧
    (passClock s).mains = s.mains ∧
    (passClock s).stitch = s.stitch ∧
    (passClock s).axes = s.axes ∧
    (passClock s).chan = s.chan ∧
    (passClock s).supply = s.supply ∧
    (passClock s).sto = s.sto ∧
    (passClock s).spread = s.spread ∧
    (passClock s).supv = s.supv ∧
    (passClock s).fb = s.fb ∧
    (passClock s).cnv = s.cnv ∧
    (passClock s).pin = s.pin ∧
    (passClock s).seam = s.seam ∧
    (passClock s).flt = s.flt ∧
    (passClock s).store = s.store ∧
    (passClock s).proof = s.proof := by
  unfold passClock; (try dsimp only); repeat' split
  all_goals (refine ⟨?_, ?_, ?_, ?_, ?_, ?_, ?_, ?_, ?_, ?_, ?_, ?_, ?_, ?_, ?_, ?_, ?_, ?_, ?_, ?_, ?_, ?_, ?_, ?_, ?_, ?_⟩ <;> simp)

@[simp] theorem wake_frame (s : State) :
    (wake s).pending = s.pending ∧
    (wake s).now = s.now ∧
    (wake s).free = s.free ∧
    (wake s).host = s.host ∧
    (wake s).lat = s.lat ∧
    (wake s).win = s.win ∧
    (wake s).cfg = s.cfg ∧
    (wake s).boot = s.boot ∧
    (wake s).otp = s.otp ∧
    (wake s).src = s.src ∧
    (wake s).paceFrac = s.paceFrac ∧
    (wake s).mains = s.mains ∧
    (wake s).stitch = s.stitch ∧
    (wake s).axes = s.axes ∧
    (wake s).chan = s.chan ∧
    (wake s).supply = s.supply ∧
    (wake s).sto = s.sto ∧
    (wake s).spread = s.spread ∧
    (wake s).supv = s.supv ∧
    (wake s).fb = s.fb ∧
    (wake s).cnv = s.cnv ∧
    (wake s).pin = s.pin ∧
    (wake s).seam = s.seam ∧
    (wake s).flt = s.flt ∧
    (wake s).store = s.store ∧
    (wake s).bak = s.bak ∧
    (wake s).proof = s.proof := by
  unfold wake; (try dsimp only); repeat' split
  all_goals (refine ⟨?_, ?_, ?_, ?_, ?_, ?_, ?_, ?_, ?_, ?_, ?_, ?_, ?_, ?_, ?_, ?_, ?_, ?_, ?_, ?_, ?_, ?_, ?_, ?_, ?_, ?_, ?_⟩ <;> simp)

@[simp] theorem latchAlarm_frame (b : Nat) (s : State) :
    (latchAlarm b s).pending = s.pending ∧
    (latchAlarm b s).now = s.now ∧
    (latchAlarm b s).free = s.free ∧
    (latchAlarm b s).host = s.host ∧
    (latchAlarm b s).lat = s.lat ∧
    (latchAlarm b s).win = s.win ∧
    (latchAlarm b s).cfg = s.cfg ∧
    (latchAlarm b s).boot = s.boot ∧
    (latchAlarm b s).otp = s.otp ∧
    (latchAlarm b s).src = s.src ∧
    (latchAlarm b s).paceFrac = s.paceFrac ∧
    (latchAlarm b s).mains = s.mains ∧
    (latchAlarm b s).stitch = s.stitch ∧
    (latchAlarm b s).axes = s.axes ∧
    (latchAlarm b s).chan = s.chan ∧
    (latchAlarm b s).supply = s.supply ∧
    (latchAlarm b s).sto = s.sto ∧
    (latchAlarm b s).spread = s.spread ∧
    (latchAlarm b s).supv = s.supv ∧
    (latchAlarm b s).fb = s.fb ∧
    (latchAlarm b s).cnv = s.cnv ∧
    (latchAlarm b s).pin = s.pin ∧
    (latchAlarm b s).seam = s.seam ∧
    (latchAlarm b s).store = s.store ∧
    (latchAlarm b s).proof = s.proof := by
  unfold latchAlarm; (try dsimp only); repeat' split
  all_goals (refine ⟨?_, ?_, ?_, ?_, ?_, ?_, ?_, ?_, ?_, ?_, ?_, ?_, ?_, ?_, ?_, ?_, ?_, ?_, ?_, ?_, ?_, ?_, ?_, ?_, ?_⟩ <;> simp)

@[simp] theorem logSleepAlarms_frame (s : State) :
    (logSleepAlarms s).pending = s.pending ∧
    (logSleepAlarms s).now = s.now ∧
    (logSleepAlarms s).free = s.free ∧
    (logSleepAlarms s).power = s.power ∧
    (logSleepAlarms s).host = s.host ∧
    (logSleepAlarms s).lat = s.lat ∧
    (logSleepAlarms s).win = s.win ∧
    (logSleepAlarms s).cfg = s.cfg ∧
    (logSleepAlarms s).boot = s.boot ∧
    (logSleepAlarms s).otp = s.otp ∧
    (logSleepAlarms s).src = s.src ∧
    (logSleepAlarms s).paceFrac = s.paceFrac ∧
    (logSleepAlarms s).mains = s.mains ∧
    (logSleepAlarms s).stitch = s.stitch ∧
    (logSleepAlarms s).axes = s.axes ∧
    (logSleepAlarms s).chan = s.chan ∧
    (logSleepAlarms s).supply = s.supply ∧
    (logSleepAlarms s).sto = s.sto ∧
    (logSleepAlarms s).spread = s.spread ∧
    (logSleepAlarms s).supv = s.supv ∧
    (logSleepAlarms s).fb = s.fb ∧
    (logSleepAlarms s).cnv = s.cnv ∧
    (logSleepAlarms s).pin = s.pin ∧
    (logSleepAlarms s).seam = s.seam ∧
    (logSleepAlarms s).store = s.store ∧
    (logSleepAlarms s).proof = s.proof := by
  unfold logSleepAlarms; (try dsimp only); repeat' split
  all_goals (refine ⟨?_, ?_, ?_, ?_, ?_, ?_, ?_, ?_, ?_, ?_, ?_, ?_, ?_, ?_, ?_, ?_, ?_, ?_, ?_, ?_, ?_, ?_, ?_, ?_, ?_, ?_⟩ <;> simp)

@[simp] theorem vbakLow_frame (s : State) :
    (vbakLow s).pending = s.pending ∧
    (vbakLow s).now = s.now ∧
    (vbakLow s).host = s.host ∧
    (vbakLow s).lat = s.lat ∧
    (vbakLow s).win = s.win ∧
    (vbakLow s).cfg = s.cfg ∧
    (vbakLow s).boot = s.boot ∧
    (vbakLow s).otp = s.otp ∧
    (vbakLow s).src = s.src ∧
    (vbakLow s).paceFrac = s.paceFrac ∧
    (vbakLow s).mains = s.mains ∧
    (vbakLow s).stitch = s.stitch ∧
    (vbakLow s).axes = s.axes ∧
    (vbakLow s).chan = s.chan ∧
    (vbakLow s).supply = s.supply ∧
    (vbakLow s).sto = s.sto ∧
    (vbakLow s).spread = s.spread ∧
    (vbakLow s).supv = s.supv ∧
    (vbakLow s).fb = s.fb ∧
    (vbakLow s).cnv = s.cnv ∧
    (vbakLow s).pin = s.pin ∧
    (vbakLow s).seam = s.seam ∧
    (vbakLow s).store = s.store ∧
    (vbakLow s).proof = s.proof := by
  unfold vbakLow; (try dsimp only); repeat' split
  all_goals (refine ⟨?_, ?_, ?_, ?_, ?_, ?_, ?_, ?_, ?_, ?_, ?_, ?_, ?_, ?_, ?_, ?_, ?_, ?_, ?_, ?_, ?_, ?_, ?_, ?_⟩ <;> simp)

@[simp] theorem strobeSample_frame (ab : AbSample) (s : State) :
    (strobeSample ab s).pending = s.pending ∧
    (strobeSample ab s).now = s.now ∧
    (strobeSample ab s).free = s.free ∧
    (strobeSample ab s).host = s.host ∧
    (strobeSample ab s).lat = s.lat ∧
    (strobeSample ab s).win = s.win ∧
    (strobeSample ab s).cfg = s.cfg ∧
    (strobeSample ab s).boot = s.boot ∧
    (strobeSample ab s).otp = s.otp ∧
    (strobeSample ab s).src = s.src ∧
    (strobeSample ab s).paceFrac = s.paceFrac ∧
    (strobeSample ab s).mains = s.mains ∧
    (strobeSample ab s).stitch = s.stitch ∧
    (strobeSample ab s).axes = s.axes ∧
    (strobeSample ab s).chan = s.chan ∧
    (strobeSample ab s).supply = s.supply ∧
    (strobeSample ab s).sto = s.sto ∧
    (strobeSample ab s).spread = s.spread ∧
    (strobeSample ab s).supv = s.supv ∧
    (strobeSample ab s).fb = s.fb ∧
    (strobeSample ab s).pin = s.pin ∧
    (strobeSample ab s).seam = s.seam ∧
    (strobeSample ab s).store = s.store ∧
    (strobeSample ab s).proof = s.proof ∧
    (strobeSample ab s).cnv = s.cnv := by
  unfold strobeSample; (try dsimp only); repeat' split
  all_goals (refine ⟨?_, ?_, ?_, ?_, ?_, ?_, ?_, ?_, ?_, ?_, ?_, ?_, ?_, ?_, ?_, ?_, ?_, ?_, ?_, ?_, ?_, ?_, ?_, ?_, ?_⟩ <;> simp)

@[simp] theorem watchStrobe_frame (ab : AbSample) (s : State) :
    (watchStrobe ab s).pending = s.pending ∧
    (watchStrobe ab s).now = s.now ∧
    (watchStrobe ab s).host = s.host ∧
    (watchStrobe ab s).lat = s.lat ∧
    (watchStrobe ab s).win = s.win ∧
    (watchStrobe ab s).cfg = s.cfg ∧
    (watchStrobe ab s).boot = s.boot ∧
    (watchStrobe ab s).otp = s.otp ∧
    (watchStrobe ab s).src = s.src ∧
    (watchStrobe ab s).paceFrac = s.paceFrac ∧
    (watchStrobe ab s).mains = s.mains ∧
    (watchStrobe ab s).stitch = s.stitch ∧
    (watchStrobe ab s).axes = s.axes ∧
    (watchStrobe ab s).chan = s.chan ∧
    (watchStrobe ab s).supply = s.supply ∧
    (watchStrobe ab s).sto = s.sto ∧
    (watchStrobe ab s).spread = s.spread ∧
    (watchStrobe ab s).supv = s.supv ∧
    (watchStrobe ab s).fb = s.fb ∧
    (watchStrobe ab s).pin = s.pin ∧
    (watchStrobe ab s).seam = s.seam ∧
    (watchStrobe ab s).store = s.store ∧
    (watchStrobe ab s).proof = s.proof ∧
    (watchStrobe ab s).cnv = s.cnv := by
  unfold watchStrobe; (try dsimp only); repeat' split
  all_goals (refine ⟨?_, ?_, ?_, ?_, ?_, ?_, ?_, ?_, ?_, ?_, ?_, ?_, ?_, ?_, ?_, ?_, ?_, ?_, ?_, ?_, ?_, ?_, ?_, ?_⟩ <;> simp)

@[simp] theorem watchFollow_frame (old : State) (n : Fin 8) (s : State) :
    (watchFollow old n s).pending = s.pending ∧
    (watchFollow old n s).now = s.now ∧
    (watchFollow old n s).free = s.free ∧
    (watchFollow old n s).power = s.power ∧
    (watchFollow old n s).host = s.host ∧
    (watchFollow old n s).lat = s.lat ∧
    (watchFollow old n s).win = s.win ∧
    (watchFollow old n s).cfg = s.cfg ∧
    (watchFollow old n s).boot = s.boot ∧
    (watchFollow old n s).otp = s.otp ∧
    (watchFollow old n s).src = s.src ∧
    (watchFollow old n s).paceFrac = s.paceFrac ∧
    (watchFollow old n s).mains = s.mains ∧
    (watchFollow old n s).stitch = s.stitch ∧
    (watchFollow old n s).axes = s.axes ∧
    (watchFollow old n s).chan = s.chan ∧
    (watchFollow old n s).supply = s.supply ∧
    (watchFollow old n s).sto = s.sto ∧
    (watchFollow old n s).spread = s.spread ∧
    (watchFollow old n s).supv = s.supv ∧
    (watchFollow old n s).fb = s.fb ∧
    (watchFollow old n s).pin = s.pin ∧
    (watchFollow old n s).seam = s.seam ∧
    (watchFollow old n s).flt = s.flt ∧
    (watchFollow old n s).store = s.store ∧
    (watchFollow old n s).proof = s.proof ∧
    (watchFollow old n s).cnv = s.cnv := by
  unfold watchFollow; (try dsimp only); repeat' split
  all_goals (refine ⟨?_, ?_, ?_, ?_, ?_, ?_, ?_, ?_, ?_, ?_, ?_, ?_, ?_, ?_, ?_, ?_, ?_, ?_, ?_, ?_, ?_, ?_, ?_, ?_, ?_, ?_, ?_⟩ <;> simp)

@[simp] theorem seeWatch_frame (s : State) :
    (seeWatch s).pending = s.pending ∧
    (seeWatch s).now = s.now ∧
    (seeWatch s).free = s.free ∧
    (seeWatch s).power = s.power ∧
    (seeWatch s).host = s.host ∧
    (seeWatch s).lat = s.lat ∧
    (seeWatch s).win = s.win ∧
    (seeWatch s).cfg = s.cfg ∧
    (seeWatch s).boot = s.boot ∧
    (seeWatch s).otp = s.otp ∧
    (seeWatch s).src = s.src ∧
    (seeWatch s).paceFrac = s.paceFrac ∧
    (seeWatch s).mains = s.mains ∧
    (seeWatch s).stitch = s.stitch ∧
    (seeWatch s).axes = s.axes ∧
    (seeWatch s).chan = s.chan ∧
    (seeWatch s).supply = s.supply ∧
    (seeWatch s).sto = s.sto ∧
    (seeWatch s).spread = s.spread ∧
    (seeWatch s).supv = s.supv ∧
    (seeWatch s).fb = s.fb ∧
    (seeWatch s).cnv = s.cnv ∧
    (seeWatch s).pin = s.pin ∧
    (seeWatch s).seam = s.seam ∧
    (seeWatch s).flt = s.flt ∧
    (seeWatch s).store = s.store ∧
    (seeWatch s).proof = s.proof := by
  unfold seeWatch; (try dsimp only); repeat' split
  all_goals (refine ⟨?_, ?_, ?_, ?_, ?_, ?_, ?_, ?_, ?_, ?_, ?_, ?_, ?_, ?_, ?_, ?_, ?_, ?_, ?_, ?_, ?_, ?_, ?_, ?_, ?_, ?_, ?_⟩ <;> simp)

@[simp] theorem watchSwapped_frame (old : State) (s : State) :
    (watchSwapped old s).pending = s.pending ∧
    (watchSwapped old s).now = s.now ∧
    (watchSwapped old s).free = s.free ∧
    (watchSwapped old s).host = s.host ∧
    (watchSwapped old s).lat = s.lat ∧
    (watchSwapped old s).win = s.win ∧
    (watchSwapped old s).cfg = s.cfg ∧
    (watchSwapped old s).boot = s.boot ∧
    (watchSwapped old s).otp = s.otp ∧
    (watchSwapped old s).src = s.src ∧
    (watchSwapped old s).paceFrac = s.paceFrac ∧
    (watchSwapped old s).mains = s.mains ∧
    (watchSwapped old s).stitch = s.stitch ∧
    (watchSwapped old s).axes = s.axes ∧
    (watchSwapped old s).chan = s.chan ∧
    (watchSwapped old s).supply = s.supply ∧
    (watchSwapped old s).sto = s.sto ∧
    (watchSwapped old s).spread = s.spread ∧
    (watchSwapped old s).supv = s.supv ∧
    (watchSwapped old s).fb = s.fb ∧
    (watchSwapped old s).cnv = s.cnv ∧
    (watchSwapped old s).pin = s.pin ∧
    (watchSwapped old s).seam = s.seam ∧
    (watchSwapped old s).store = s.store ∧
    (watchSwapped old s).proof = s.proof := by
  unfold watchSwapped; (try dsimp only); repeat' split
  all_goals (refine ⟨?_, ?_, ?_, ?_, ?_, ?_, ?_, ?_, ?_, ?_, ?_, ?_, ?_, ?_, ?_, ?_, ?_, ?_, ?_, ?_, ?_, ?_, ?_, ?_, ?_⟩ <;> simp)

theorem wake_awake (s : State) (h : awake s = true) : wake s = s := by
  unfold wake; unfold awake at h
  rw [if_neg]; intro hc; simp_all

theorem latchAlarm_power_awake (b : Nat) (s : State) (h : awake s = true) : (latchAlarm b s).power = s.power := by
  unfold latchAlarm
  split
  · rfl
  · dsimp only
    rw [if_pos (by simpa [awake, running] using h)]
    simp

@[simp] theorem watchSwapped_power (old : State) (s : State) : (watchSwapped old s).power = s.power := by
  unfold watchSwapped strobeSample
  dsimp only
  split
  · rename_i h
    split
    · simp
    · split
      · rw [latchAlarm_power_awake _ _ (by simp_all [awake, running])]; simp
      · split <;> simp
  · split <;> simp

@[simp] theorem fprintSwapped_frame (old : State) (s : State) :
    (fprintSwapped old s).pending = s.pending ∧
    (fprintSwapped old s).now = s.now ∧
    (fprintSwapped old s).free = s.free ∧
    (fprintSwapped old s).power = s.power ∧
    (fprintSwapped old s).host = s.host ∧
    (fprintSwapped old s).lat = s.lat ∧
    (fprintSwapped old s).win = s.win ∧
    (fprintSwapped old s).cfg = s.cfg ∧
    (fprintSwapped old s).boot = s.boot ∧
    (fprintSwapped old s).otp = s.otp ∧
    (fprintSwapped old s).src = s.src ∧
    (fprintSwapped old s).paceFrac = s.paceFrac ∧
    (fprintSwapped old s).mains = s.mains ∧
    (fprintSwapped old s).stitch = s.stitch ∧
    (fprintSwapped old s).axes = s.axes ∧
    (fprintSwapped old s).chan = s.chan ∧
    (fprintSwapped old s).supply = s.supply ∧
    (fprintSwapped old s).sto = s.sto ∧
    (fprintSwapped old s).spread = s.spread ∧
    (fprintSwapped old s).supv = s.supv ∧
    (fprintSwapped old s).fb = s.fb ∧
    (fprintSwapped old s).cnv = s.cnv ∧
    (fprintSwapped old s).pin = s.pin ∧
    (fprintSwapped old s).flt = s.flt ∧
    (fprintSwapped old s).store = s.store ∧
    (fprintSwapped old s).bak = s.bak ∧
    (fprintSwapped old s).proof = s.proof := by
  unfold fprintSwapped; (try dsimp only); repeat' split
  all_goals (refine ⟨?_, ?_, ?_, ?_, ?_, ?_, ?_, ?_, ?_, ?_, ?_, ?_, ?_, ?_, ?_, ?_, ?_, ?_, ?_, ?_, ?_, ?_, ?_, ?_, ?_, ?_, ?_⟩ <;> simp)

@[simp] theorem wordsSwapped_frame (old : State) (s : State) :
    (wordsSwapped old s).pending = s.pending ∧
    (wordsSwapped old s).now = s.now ∧
    (wordsSwapped old s).free = s.free ∧
    (wordsSwapped old s).power = s.power ∧
    (wordsSwapped old s).host = s.host ∧
    (wordsSwapped old s).lat = s.lat ∧
    (wordsSwapped old s).win = s.win ∧
    (wordsSwapped old s).cfg = s.cfg ∧
    (wordsSwapped old s).boot = s.boot ∧
    (wordsSwapped old s).otp = s.otp ∧
    (wordsSwapped old s).src = s.src ∧
    (wordsSwapped old s).paceFrac = s.paceFrac ∧
    (wordsSwapped old s).mains = s.mains ∧
    (wordsSwapped old s).stitch = s.stitch ∧
    (wordsSwapped old s).axes = s.axes ∧
    (wordsSwapped old s).chan = s.chan ∧
    (wordsSwapped old s).supply = s.supply ∧
    (wordsSwapped old s).sto = s.sto ∧
    (wordsSwapped old s).spread = s.spread ∧
    (wordsSwapped old s).supv = s.supv ∧
    (wordsSwapped old s).fb = s.fb ∧
    (wordsSwapped old s).cnv = s.cnv ∧
    (wordsSwapped old s).pin = s.pin ∧
    (wordsSwapped old s).store = s.store ∧
    (wordsSwapped old s).proof = s.proof := by
  unfold wordsSwapped; (try dsimp only); repeat' split
  all_goals (refine ⟨?_, ?_, ?_, ?_, ?_, ?_, ?_, ?_, ?_, ?_, ?_, ?_, ?_, ?_, ?_, ?_, ?_, ?_, ?_, ?_, ?_, ?_, ?_, ?_, ?_⟩ <;> simp)

@[simp] theorem enterWatch_frame (s : State) :
    (enterWatch s).pending = s.pending ∧
    (enterWatch s).now = s.now ∧
    (enterWatch s).free = s.free ∧
    (enterWatch s).power = s.power ∧
    (enterWatch s).host = s.host ∧
    (enterWatch s).lat = s.lat ∧
    (enterWatch s).win = s.win ∧
    (enterWatch s).cfg = s.cfg ∧
    (enterWatch s).boot = s.boot ∧
    (enterWatch s).otp = s.otp ∧
    (enterWatch s).src = s.src ∧
    (enterWatch s).paceFrac = s.paceFrac ∧
    (enterWatch s).mains = s.mains ∧
    (enterWatch s).stitch = s.stitch ∧
    (enterWatch s).axes = s.axes ∧
    (enterWatch s).chan = s.chan ∧
    (enterWatch s).supply = s.supply ∧
    (enterWatch s).sto = s.sto ∧
    (enterWatch s).spread = s.spread ∧
    (enterWatch s).supv = s.supv ∧
    (enterWatch s).fb = s.fb ∧
    (enterWatch s).cnv = s.cnv ∧
    (enterWatch s).pin = s.pin ∧
    (enterWatch s).seam = s.seam ∧
    (enterWatch s).flt = s.flt ∧
    (enterWatch s).store = s.store ∧
    (enterWatch s).proof = s.proof := by
  unfold enterWatch; (try dsimp only); repeat' split
  all_goals (refine ⟨?_, ?_, ?_, ?_, ?_, ?_, ?_, ?_, ?_, ?_, ?_, ?_, ?_, ?_, ?_, ?_, ?_, ?_, ?_, ?_, ?_, ?_, ?_, ?_, ?_, ?_, ?_⟩ <;> simp)

@[simp] theorem acknowledgeAlarms_frame (s : State) :
    (acknowledgeAlarms s).pending = s.pending ∧
    (acknowledgeAlarms s).now = s.now ∧
    (acknowledgeAlarms s).free = s.free ∧
    (acknowledgeAlarms s).power = s.power ∧
    (acknowledgeAlarms s).host = s.host ∧
    (acknowledgeAlarms s).lat = s.lat ∧
    (acknowledgeAlarms s).win = s.win ∧
    (acknowledgeAlarms s).cfg = s.cfg ∧
    (acknowledgeAlarms s).boot = s.boot ∧
    (acknowledgeAlarms s).otp = s.otp ∧
    (acknowledgeAlarms s).src = s.src ∧
    (acknowledgeAlarms s).paceFrac = s.paceFrac ∧
    (acknowledgeAlarms s).mains = s.mains ∧
    (acknowledgeAlarms s).stitch = s.stitch ∧
    (acknowledgeAlarms s).axes = s.axes ∧
    (acknowledgeAlarms s).chan = s.chan ∧
    (acknowledgeAlarms s).supply = s.supply ∧
    (acknowledgeAlarms s).sto = s.sto ∧
    (acknowledgeAlarms s).spread = s.spread ∧
    (acknowledgeAlarms s).supv = s.supv ∧
    (acknowledgeAlarms s).fb = s.fb ∧
    (acknowledgeAlarms s).cnv = s.cnv ∧
    (acknowledgeAlarms s).pin = s.pin ∧
    (acknowledgeAlarms s).seam = s.seam ∧
    (acknowledgeAlarms s).flt = s.flt ∧
    (acknowledgeAlarms s).store = s.store ∧
    (acknowledgeAlarms s).proof = s.proof := by
  unfold acknowledgeAlarms; (try dsimp only); repeat' split
  all_goals (refine ⟨?_, ?_, ?_, ?_, ?_, ?_, ?_, ?_, ?_, ?_, ?_, ?_, ?_, ?_, ?_, ?_, ?_, ?_, ?_, ?_, ?_, ?_, ?_, ?_, ?_, ?_, ?_⟩ <;> simp)

@[simp] theorem readAlarms_frame (s : State) :
    (readAlarms s).pending = s.pending ∧
    (readAlarms s).now = s.now ∧
    (readAlarms s).free = s.free ∧
    (readAlarms s).power = s.power ∧
    (readAlarms s).host = s.host ∧
    (readAlarms s).lat = s.lat ∧
    (readAlarms s).win = s.win ∧
    (readAlarms s).cfg = s.cfg ∧
    (readAlarms s).boot = s.boot ∧
    (readAlarms s).otp = s.otp ∧
    (readAlarms s).src = s.src ∧
    (readAlarms s).paceFrac = s.paceFrac ∧
    (readAlarms s).mains = s.mains ∧
    (readAlarms s).stitch = s.stitch ∧
    (readAlarms s).axes = s.axes ∧
    (readAlarms s).chan = s.chan ∧
    (readAlarms s).supply = s.supply ∧
    (readAlarms s).sto = s.sto ∧
    (readAlarms s).spread = s.spread ∧
    (readAlarms s).supv = s.supv ∧
    (readAlarms s).fb = s.fb ∧
    (readAlarms s).cnv = s.cnv ∧
    (readAlarms s).pin = s.pin ∧
    (readAlarms s).seam = s.seam ∧
    (readAlarms s).flt = s.flt ∧
    (readAlarms s).store = s.store ∧
    (readAlarms s).proof = s.proof := by
  unfold readAlarms; (try dsimp only); repeat' split
  all_goals (refine ⟨?_, ?_, ?_, ?_, ?_, ?_, ?_, ?_, ?_, ?_, ?_, ?_, ?_, ?_, ?_, ?_, ?_, ?_, ?_, ?_, ?_, ?_, ?_, ?_, ?_, ?_, ?_⟩ <;> simp)

@[simp] theorem writeBakWord_frame (a : Nat) (d : Word) (s : State) :
    (writeBakWord a d s).pending = s.pending ∧
    (writeBakWord a d s).now = s.now ∧
    (writeBakWord a d s).free = s.free ∧
    (writeBakWord a d s).power = s.power ∧
    (writeBakWord a d s).host = s.host ∧
    (writeBakWord a d s).lat = s.lat ∧
    (writeBakWord a d s).win = s.win ∧
    (writeBakWord a d s).cfg = s.cfg ∧
    (writeBakWord a d s).boot = s.boot ∧
    (writeBakWord a d s).otp = s.otp ∧
    (writeBakWord a d s).src = s.src ∧
    (writeBakWord a d s).paceFrac = s.paceFrac ∧
    (writeBakWord a d s).mains = s.mains ∧
    (writeBakWord a d s).stitch = s.stitch ∧
    (writeBakWord a d s).axes = s.axes ∧
    (writeBakWord a d s).chan = s.chan ∧
    (writeBakWord a d s).supply = s.supply ∧
    (writeBakWord a d s).sto = s.sto ∧
    (writeBakWord a d s).spread = s.spread ∧
    (writeBakWord a d s).supv = s.supv ∧
    (writeBakWord a d s).fb = s.fb ∧
    (writeBakWord a d s).cnv = s.cnv ∧
    (writeBakWord a d s).pin = s.pin ∧
    (writeBakWord a d s).seam = s.seam ∧
    (writeBakWord a d s).flt = s.flt ∧
    (writeBakWord a d s).store = s.store ∧
    (writeBakWord a d s).proof = s.proof := by
  unfold writeBakWord; (try dsimp only); repeat' split
  all_goals (refine ⟨?_, ?_, ?_, ?_, ?_, ?_, ?_, ?_, ?_, ?_, ?_, ?_, ?_, ?_, ?_, ?_, ?_, ?_, ?_, ?_, ?_, ?_, ?_, ?_, ?_, ?_, ?_⟩ <;> simp)

/-! ### Otp -/

@[simp] theorem modOtp_frame (f : Otp → Otp) (s : State) :
    (modOtp f s).pending = s.pending ∧
    (modOtp f s).now = s.now ∧
    (modOtp f s).free = s.free ∧
    (modOtp f s).power = s.power ∧
    (modOtp f s).host = s.host ∧
    (modOtp f s).lat = s.lat ∧
    (modOtp f s).win = s.win ∧
    (modOtp f s).cfg = s.cfg ∧
    (modOtp f s).boot = s.boot ∧
    (modOtp f s).src = s.src ∧
    (modOtp f s).paceFrac = s.paceFrac ∧
    (modOtp f s).mains = s.mains ∧
    (modOtp f s).stitch = s.stitch ∧
    (modOtp f s).axes = s.axes ∧
    (modOtp f s).chan = s.chan ∧
    (modOtp f s).supply = s.supply ∧
    (modOtp f s).sto = s.sto ∧
    (modOtp f s).spread = s.spread ∧
    (modOtp f s).supv = s.supv ∧
    (modOtp f s).fb = s.fb ∧
    (modOtp f s).cnv = s.cnv ∧
    (modOtp f s).pin = s.pin ∧
    (modOtp f s).seam = s.seam ∧
    (modOtp f s).flt = s.flt ∧
    (modOtp f s).store = s.store ∧
    (modOtp f s).bak = s.bak ∧
    (modOtp f s).proof = s.proof := by
  unfold modOtp; (try dsimp only); repeat' split
  all_goals (refine ⟨?_, ?_, ?_, ?_, ?_, ?_, ?_, ?_, ?_, ?_, ?_, ?_, ?_, ?_, ?_, ?_, ?_, ?_, ?_, ?_, ?_, ?_, ?_, ?_, ?_, ?_, ?_⟩ <;> simp)

@[simp] theorem otpRefused_frame (st : Status) (s : State) :
    (otpRefused st s).pending = s.pending ∧
    (otpRefused st s).now = s.now ∧
    (otpRefused st s).free = s.free ∧
    (otpRefused st s).power = s.power ∧
    (otpRefused st s).host = s.host ∧
    (otpRefused st s).lat = s.lat ∧
    (otpRefused st s).win = s.win ∧
    (otpRefused st s).cfg = s.cfg ∧
    (otpRefused st s).boot = s.boot ∧
    (otpRefused st s).src = s.src ∧
    (otpRefused st s).paceFrac = s.paceFrac ∧
    (otpRefused st s).mains = s.mains ∧
    (otpRefused st s).stitch = s.stitch ∧
    (otpRefused st s).axes = s.axes ∧
    (otpRefused st s).chan = s.chan ∧
    (otpRefused st s).supply = s.supply ∧
    (otpRefused st s).sto = s.sto ∧
    (otpRefused st s).spread = s.spread ∧
    (otpRefused st s).supv = s.supv ∧
    (otpRefused st s).fb = s.fb ∧
    (otpRefused st s).cnv = s.cnv ∧
    (otpRefused st s).pin = s.pin ∧
    (otpRefused st s).seam = s.seam ∧
    (otpRefused st s).flt = s.flt ∧
    (otpRefused st s).store = s.store ∧
    (otpRefused st s).bak = s.bak ∧
    (otpRefused st s).proof = s.proof := by
  unfold otpRefused; (try dsimp only); repeat' split
  all_goals (refine ⟨?_, ?_, ?_, ?_, ?_, ?_, ?_, ?_, ?_, ?_, ?_, ?_, ?_, ?_, ?_, ?_, ?_, ?_, ?_, ?_, ?_, ?_, ?_, ?_, ?_, ?_, ?_⟩ <;> simp)

@[simp] theorem otpCmd_frame (d : Word) (s : State) :
    (otpCmd d s).pending = s.pending ∧
    (otpCmd d s).now = s.now ∧
    (otpCmd d s).free = s.free ∧
    (otpCmd d s).power = s.power ∧
    (otpCmd d s).host = s.host ∧
    (otpCmd d s).lat = s.lat ∧
    (otpCmd d s).win = s.win ∧
    (otpCmd d s).cfg = s.cfg ∧
    (otpCmd d s).boot = s.boot ∧
    (otpCmd d s).src = s.src ∧
    (otpCmd d s).paceFrac = s.paceFrac ∧
    (otpCmd d s).mains = s.mains ∧
    (otpCmd d s).stitch = s.stitch ∧
    (otpCmd d s).axes = s.axes ∧
    (otpCmd d s).chan = s.chan ∧
    (otpCmd d s).supply = s.supply ∧
    (otpCmd d s).sto = s.sto ∧
    (otpCmd d s).spread = s.spread ∧
    (otpCmd d s).supv = s.supv ∧
    (otpCmd d s).fb = s.fb ∧
    (otpCmd d s).cnv = s.cnv ∧
    (otpCmd d s).pin = s.pin ∧
    (otpCmd d s).seam = s.seam ∧
    (otpCmd d s).flt = s.flt ∧
    (otpCmd d s).store = s.store ∧
    (otpCmd d s).bak = s.bak ∧
    (otpCmd d s).proof = s.proof := by
  unfold otpCmd; (try dsimp only); repeat' split
  all_goals (refine ⟨?_, ?_, ?_, ?_, ?_, ?_, ?_, ?_, ?_, ?_, ?_, ?_, ?_, ?_, ?_, ?_, ?_, ?_, ?_, ?_, ?_, ?_, ?_, ?_, ?_, ?_, ?_⟩ <;> simp)

@[simp] theorem halfBurned_frame (a : Nat) (d : Word) (s : State) :
    (halfBurned a d s).pending = s.pending ∧
    (halfBurned a d s).now = s.now ∧
    (halfBurned a d s).power = s.power ∧
    (halfBurned a d s).host = s.host ∧
    (halfBurned a d s).lat = s.lat ∧
    (halfBurned a d s).win = s.win ∧
    (halfBurned a d s).cfg = s.cfg ∧
    (halfBurned a d s).boot = s.boot ∧
    (halfBurned a d s).src = s.src ∧
    (halfBurned a d s).paceFrac = s.paceFrac ∧
    (halfBurned a d s).mains = s.mains ∧
    (halfBurned a d s).stitch = s.stitch ∧
    (halfBurned a d s).axes = s.axes ∧
    (halfBurned a d s).chan = s.chan ∧
    (halfBurned a d s).supply = s.supply ∧
    (halfBurned a d s).sto = s.sto ∧
    (halfBurned a d s).spread = s.spread ∧
    (halfBurned a d s).supv = s.supv ∧
    (halfBurned a d s).fb = s.fb ∧
    (halfBurned a d s).cnv = s.cnv ∧
    (halfBurned a d s).pin = s.pin ∧
    (halfBurned a d s).seam = s.seam ∧
    (halfBurned a d s).flt = s.flt ∧
    (halfBurned a d s).store = s.store ∧
    (halfBurned a d s).bak = s.bak ∧
    (halfBurned a d s).proof = s.proof := by
  unfold halfBurned; (try dsimp only); repeat' split
  all_goals (refine ⟨?_, ?_, ?_, ?_, ?_, ?_, ?_, ?_, ?_, ?_, ?_, ?_, ?_, ?_, ?_, ?_, ?_, ?_, ?_, ?_, ?_, ?_, ?_, ?_, ?_, ?_⟩ <;> simp)

@[simp] theorem pulseCut_frame (a : Nat) (d : Word) (s : State) :
    (pulseCut a d s).pending = s.pending ∧
    (pulseCut a d s).now = s.now ∧
    (pulseCut a d s).power = s.power ∧
    (pulseCut a d s).host = s.host ∧
    (pulseCut a d s).lat = s.lat ∧
    (pulseCut a d s).win = s.win ∧
    (pulseCut a d s).cfg = s.cfg ∧
    (pulseCut a d s).boot = s.boot ∧
    (pulseCut a d s).src = s.src ∧
    (pulseCut a d s).paceFrac = s.paceFrac ∧
    (pulseCut a d s).mains = s.mains ∧
    (pulseCut a d s).stitch = s.stitch ∧
    (pulseCut a d s).axes = s.axes ∧
    (pulseCut a d s).chan = s.chan ∧
    (pulseCut a d s).supply = s.supply ∧
    (pulseCut a d s).sto = s.sto ∧
    (pulseCut a d s).spread = s.spread ∧
    (pulseCut a d s).supv = s.supv ∧
    (pulseCut a d s).fb = s.fb ∧
    (pulseCut a d s).cnv = s.cnv ∧
    (pulseCut a d s).pin = s.pin ∧
    (pulseCut a d s).seam = s.seam ∧
    (pulseCut a d s).flt = s.flt ∧
    (pulseCut a d s).store = s.store ∧
    (pulseCut a d s).bak = s.bak ∧
    (pulseCut a d s).proof = s.proof := by
  unfold pulseCut; (try dsimp only); repeat' split
  all_goals (refine ⟨?_, ?_, ?_, ?_, ?_, ?_, ?_, ?_, ?_, ?_, ?_, ?_, ?_, ?_, ?_, ?_, ?_, ?_, ?_, ?_, ?_, ?_, ?_, ?_, ?_, ?_⟩ <;> simp)

@[simp] theorem lockFailed_frame (r : BitVec 4) (write : Bool) (s : State) :
    (lockFailed r write s).pending = s.pending ∧
    (lockFailed r write s).now = s.now ∧
    (lockFailed r write s).power = s.power ∧
    (lockFailed r write s).host = s.host ∧
    (lockFailed r write s).lat = s.lat ∧
    (lockFailed r write s).win = s.win ∧
    (lockFailed r write s).cfg = s.cfg ∧
    (lockFailed r write s).boot = s.boot ∧
    (lockFailed r write s).src = s.src ∧
    (lockFailed r write s).paceFrac = s.paceFrac ∧
    (lockFailed r write s).mains = s.mains ∧
    (lockFailed r write s).stitch = s.stitch ∧
    (lockFailed r write s).axes = s.axes ∧
    (lockFailed r write s).chan = s.chan ∧
    (lockFailed r write s).supply = s.supply ∧
    (lockFailed r write s).sto = s.sto ∧
    (lockFailed r write s).spread = s.spread ∧
    (lockFailed r write s).supv = s.supv ∧
    (lockFailed r write s).fb = s.fb ∧
    (lockFailed r write s).cnv = s.cnv ∧
    (lockFailed r write s).pin = s.pin ∧
    (lockFailed r write s).seam = s.seam ∧
    (lockFailed r write s).flt = s.flt ∧
    (lockFailed r write s).store = s.store ∧
    (lockFailed r write s).bak = s.bak ∧
    (lockFailed r write s).proof = s.proof := by
  unfold lockFailed; (try dsimp only); repeat' split
  all_goals (refine ⟨?_, ?_, ?_, ?_, ?_, ?_, ?_, ?_, ?_, ?_, ?_, ?_, ?_, ?_, ?_, ?_, ?_, ?_, ?_, ?_, ?_, ?_, ?_, ?_, ?_, ?_⟩ <;> simp)

@[simp] theorem otpBurnDone_frame (verified : Bool) (s : State) :
    (otpBurnDone verified s).pending = s.pending ∧
    (otpBurnDone verified s).now = s.now ∧
    (otpBurnDone verified s).power = s.power ∧
    (otpBurnDone verified s).host = s.host ∧
    (otpBurnDone verified s).lat = s.lat ∧
    (otpBurnDone verified s).win = s.win ∧
    (otpBurnDone verified s).cfg = s.cfg ∧
    (otpBurnDone verified s).boot = s.boot ∧
    (otpBurnDone verified s).src = s.src ∧
    (otpBurnDone verified s).paceFrac = s.paceFrac ∧
    (otpBurnDone verified s).mains = s.mains ∧
    (otpBurnDone verified s).stitch = s.stitch ∧
    (otpBurnDone verified s).axes = s.axes ∧
    (otpBurnDone verified s).chan = s.chan ∧
    (otpBurnDone verified s).supply = s.supply ∧
    (otpBurnDone verified s).sto = s.sto ∧
    (otpBurnDone verified s).spread = s.spread ∧
    (otpBurnDone verified s).supv = s.supv ∧
    (otpBurnDone verified s).fb = s.fb ∧
    (otpBurnDone verified s).cnv = s.cnv ∧
    (otpBurnDone verified s).pin = s.pin ∧
    (otpBurnDone verified s).seam = s.seam ∧
    (otpBurnDone verified s).flt = s.flt ∧
    (otpBurnDone verified s).store = s.store ∧
    (otpBurnDone verified s).bak = s.bak ∧
    (otpBurnDone verified s).proof = s.proof := by
  unfold otpBurnDone; (try dsimp only); repeat' split
  all_goals (refine ⟨?_, ?_, ?_, ?_, ?_, ?_, ?_, ?_, ?_, ?_, ?_, ?_, ?_, ?_, ?_, ?_, ?_, ?_, ?_, ?_, ?_, ?_, ?_, ?_, ?_, ?_⟩ <;> simp)

@[simp] theorem otpRedirectionDone_frame (failedSpares : List Nat) (s : State) :
    (otpRedirectionDone failedSpares s).pending = s.pending ∧
    (otpRedirectionDone failedSpares s).now = s.now ∧
    (otpRedirectionDone failedSpares s).free = s.free ∧
    (otpRedirectionDone failedSpares s).power = s.power ∧
    (otpRedirectionDone failedSpares s).host = s.host ∧
    (otpRedirectionDone failedSpares s).lat = s.lat ∧
    (otpRedirectionDone failedSpares s).win = s.win ∧
    (otpRedirectionDone failedSpares s).cfg = s.cfg ∧
    (otpRedirectionDone failedSpares s).boot = s.boot ∧
    (otpRedirectionDone failedSpares s).src = s.src ∧
    (otpRedirectionDone failedSpares s).paceFrac = s.paceFrac ∧
    (otpRedirectionDone failedSpares s).mains = s.mains ∧
    (otpRedirectionDone failedSpares s).stitch = s.stitch ∧
    (otpRedirectionDone failedSpares s).axes = s.axes ∧
    (otpRedirectionDone failedSpares s).chan = s.chan ∧
    (otpRedirectionDone failedSpares s).supply = s.supply ∧
    (otpRedirectionDone failedSpares s).sto = s.sto ∧
    (otpRedirectionDone failedSpares s).spread = s.spread ∧
    (otpRedirectionDone failedSpares s).supv = s.supv ∧
    (otpRedirectionDone failedSpares s).pin = s.pin ∧
    (otpRedirectionDone failedSpares s).seam = s.seam ∧
    (otpRedirectionDone failedSpares s).store = s.store ∧
    (otpRedirectionDone failedSpares s).bak = s.bak ∧
    (otpRedirectionDone failedSpares s).proof = s.proof := by
  unfold otpRedirectionDone; (try dsimp only); repeat' split
  all_goals (refine ⟨?_, ?_, ?_, ?_, ?_, ?_, ?_, ?_, ?_, ?_, ?_, ?_, ?_, ?_, ?_, ?_, ?_, ?_, ?_, ?_, ?_, ?_, ?_, ?_⟩ <;> simp)

@[simp] theorem redirectionCut_frame (a : Nat) (d : Word) (s : State) :
    (redirectionCut a d s).pending = s.pending ∧
    (redirectionCut a d s).now = s.now ∧
    (redirectionCut a d s).power = s.power ∧
    (redirectionCut a d s).host = s.host ∧
    (redirectionCut a d s).lat = s.lat ∧
    (redirectionCut a d s).win = s.win ∧
    (redirectionCut a d s).cfg = s.cfg ∧
    (redirectionCut a d s).boot = s.boot ∧
    (redirectionCut a d s).src = s.src ∧
    (redirectionCut a d s).paceFrac = s.paceFrac ∧
    (redirectionCut a d s).mains = s.mains ∧
    (redirectionCut a d s).stitch = s.stitch ∧
    (redirectionCut a d s).axes = s.axes ∧
    (redirectionCut a d s).chan = s.chan ∧
    (redirectionCut a d s).supply = s.supply ∧
    (redirectionCut a d s).sto = s.sto ∧
    (redirectionCut a d s).spread = s.spread ∧
    (redirectionCut a d s).supv = s.supv ∧
    (redirectionCut a d s).fb = s.fb ∧
    (redirectionCut a d s).cnv = s.cnv ∧
    (redirectionCut a d s).pin = s.pin ∧
    (redirectionCut a d s).seam = s.seam ∧
    (redirectionCut a d s).flt = s.flt ∧
    (redirectionCut a d s).store = s.store ∧
    (redirectionCut a d s).bak = s.bak ∧
    (redirectionCut a d s).proof = s.proof := by
  unfold redirectionCut; (try dsimp only); repeat' split
  all_goals (refine ⟨?_, ?_, ?_, ?_, ?_, ?_, ?_, ?_, ?_, ?_, ?_, ?_, ?_, ?_, ?_, ?_, ?_, ?_, ?_, ?_, ?_, ?_, ?_, ?_, ?_, ?_⟩ <;> simp)

@[simp] theorem otpReset_frame (s : State) :
    (otpReset s).pending = s.pending ∧
    (otpReset s).now = s.now ∧
    (otpReset s).power = s.power ∧
    (otpReset s).host = s.host ∧
    (otpReset s).lat = s.lat ∧
    (otpReset s).win = s.win ∧
    (otpReset s).cfg = s.cfg ∧
    (otpReset s).boot = s.boot ∧
    (otpReset s).src = s.src ∧
    (otpReset s).paceFrac = s.paceFrac ∧
    (otpReset s).mains = s.mains ∧
    (otpReset s).stitch = s.stitch ∧
    (otpReset s).axes = s.axes ∧
    (otpReset s).chan = s.chan ∧
    (otpReset s).supply = s.supply ∧
    (otpReset s).sto = s.sto ∧
    (otpReset s).spread = s.spread ∧
    (otpReset s).supv = s.supv ∧
    (otpReset s).fb = s.fb ∧
    (otpReset s).cnv = s.cnv ∧
    (otpReset s).pin = s.pin ∧
    (otpReset s).seam = s.seam ∧
    (otpReset s).flt = s.flt ∧
    (otpReset s).store = s.store ∧
    (otpReset s).bak = s.bak ∧
    (otpReset s).proof = s.proof := by
  unfold otpReset; (try dsimp only); repeat' split
  all_goals (refine ⟨?_, ?_, ?_, ?_, ?_, ?_, ?_, ?_, ?_, ?_, ?_, ?_, ?_, ?_, ?_, ?_, ?_, ?_, ?_, ?_, ?_, ?_, ?_, ?_, ?_, ?_⟩ <;> simp)

/-! ### FaultLog -/

@[simp] theorem writeEntry_frame (verified : Bool) (e : LogEntry) (s : State) :
    (writeEntry verified e s).pending = s.pending ∧
    (writeEntry verified e s).now = s.now ∧
    (writeEntry verified e s).power = s.power ∧
    (writeEntry verified e s).host = s.host ∧
    (writeEntry verified e s).lat = s.lat ∧
    (writeEntry verified e s).win = s.win ∧
    (writeEntry verified e s).cfg = s.cfg ∧
    (writeEntry verified e s).boot = s.boot ∧
    (writeEntry verified e s).otp = s.otp ∧
    (writeEntry verified e s).src = s.src ∧
    (writeEntry verified e s).paceFrac = s.paceFrac ∧
    (writeEntry verified e s).mains = s.mains ∧
    (writeEntry verified e s).stitch = s.stitch ∧
    (writeEntry verified e s).axes = s.axes ∧
    (writeEntry verified e s).chan = s.chan ∧
    (writeEntry verified e s).supply = s.supply ∧
    (writeEntry verified e s).sto = s.sto ∧
    (writeEntry verified e s).spread = s.spread ∧
    (writeEntry verified e s).supv = s.supv ∧
    (writeEntry verified e s).pin = s.pin ∧
    (writeEntry verified e s).seam = s.seam ∧
    (writeEntry verified e s).bak = s.bak := by
  unfold writeEntry; (try dsimp only); repeat' split
  all_goals (refine ⟨?_, ?_, ?_, ?_, ?_, ?_, ?_, ?_, ?_, ?_, ?_, ?_, ?_, ?_, ?_, ?_, ?_, ?_, ?_, ?_, ?_, ?_⟩ <;> simp)

@[simp] theorem faultLogWrite_frame (verified : Bool) (s : State) :
    (faultLogWrite verified s).pending = s.pending ∧
    (faultLogWrite verified s).now = s.now ∧
    (faultLogWrite verified s).power = s.power ∧
    (faultLogWrite verified s).host = s.host ∧
    (faultLogWrite verified s).lat = s.lat ∧
    (faultLogWrite verified s).win = s.win ∧
    (faultLogWrite verified s).cfg = s.cfg ∧
    (faultLogWrite verified s).boot = s.boot ∧
    (faultLogWrite verified s).otp = s.otp ∧
    (faultLogWrite verified s).src = s.src ∧
    (faultLogWrite verified s).paceFrac = s.paceFrac ∧
    (faultLogWrite verified s).mains = s.mains ∧
    (faultLogWrite verified s).stitch = s.stitch ∧
    (faultLogWrite verified s).axes = s.axes ∧
    (faultLogWrite verified s).chan = s.chan ∧
    (faultLogWrite verified s).supply = s.supply ∧
    (faultLogWrite verified s).sto = s.sto ∧
    (faultLogWrite verified s).spread = s.spread ∧
    (faultLogWrite verified s).supv = s.supv ∧
    (faultLogWrite verified s).pin = s.pin ∧
    (faultLogWrite verified s).seam = s.seam ∧
    (faultLogWrite verified s).bak = s.bak := by
  unfold faultLogWrite; (try dsimp only); repeat' split
  all_goals (refine ⟨?_, ?_, ?_, ?_, ?_, ?_, ?_, ?_, ?_, ?_, ?_, ?_, ?_, ?_, ?_, ?_, ?_, ?_, ?_, ?_, ?_, ?_⟩ <;> simp)

@[simp] theorem ackFault_frame (d : Word) (s : State) :
    (ackFault d s).pending = s.pending ∧
    (ackFault d s).now = s.now ∧
    (ackFault d s).free = s.free ∧
    (ackFault d s).power = s.power ∧
    (ackFault d s).host = s.host ∧
    (ackFault d s).lat = s.lat ∧
    (ackFault d s).win = s.win ∧
    (ackFault d s).cfg = s.cfg ∧
    (ackFault d s).boot = s.boot ∧
    (ackFault d s).otp = s.otp ∧
    (ackFault d s).src = s.src ∧
    (ackFault d s).paceFrac = s.paceFrac ∧
    (ackFault d s).mains = s.mains ∧
    (ackFault d s).stitch = s.stitch ∧
    (ackFault d s).axes = s.axes ∧
    (ackFault d s).chan = s.chan ∧
    (ackFault d s).supply = s.supply ∧
    (ackFault d s).sto = s.sto ∧
    (ackFault d s).spread = s.spread ∧
    (ackFault d s).supv = s.supv ∧
    (ackFault d s).pin = s.pin ∧
    (ackFault d s).seam = s.seam ∧
    (ackFault d s).store = s.store ∧
    (ackFault d s).bak = s.bak ∧
    (ackFault d s).proof = s.proof := by
  unfold ackFault; (try dsimp only); repeat' split
  all_goals (refine ⟨?_, ?_, ?_, ?_, ?_, ?_, ?_, ?_, ?_, ?_, ?_, ?_, ?_, ?_, ?_, ?_, ?_, ?_, ?_, ?_, ?_, ?_, ?_, ?_, ?_⟩ <;> simp)

@[simp] theorem hostTest_frame (u : TestUnit) (proof : Bool) (s : State) :
    (hostTest u proof s).pending = s.pending ∧
    (hostTest u proof s).now = s.now ∧
    (hostTest u proof s).free = s.free ∧
    (hostTest u proof s).power = s.power ∧
    (hostTest u proof s).host = s.host ∧
    (hostTest u proof s).lat = s.lat ∧
    (hostTest u proof s).win = s.win ∧
    (hostTest u proof s).cfg = s.cfg ∧
    (hostTest u proof s).boot = s.boot ∧
    (hostTest u proof s).otp = s.otp ∧
    (hostTest u proof s).src = s.src ∧
    (hostTest u proof s).paceFrac = s.paceFrac ∧
    (hostTest u proof s).mains = s.mains ∧
    (hostTest u proof s).stitch = s.stitch ∧
    (hostTest u proof s).chan = s.chan ∧
    (hostTest u proof s).supply = s.supply ∧
    (hostTest u proof s).sto = s.sto ∧
    (hostTest u proof s).spread = s.spread ∧
    (hostTest u proof s).supv = s.supv ∧
    (hostTest u proof s).pin = s.pin ∧
    (hostTest u proof s).seam = s.seam ∧
    (hostTest u proof s).bak = s.bak ∧
    (hostTest u proof s).proof = s.proof := by
  unfold hostTest; (try dsimp only); repeat' split
  all_goals (refine ⟨?_, ?_, ?_, ?_, ?_, ?_, ?_, ?_, ?_, ?_, ?_, ?_, ?_, ?_, ?_, ?_, ?_, ?_, ?_, ?_, ?_, ?_, ?_⟩ <;> simp)

@[simp] theorem requestTest_frame (d : Word) (s : State) :
    (requestTest d s).pending = s.pending ∧
    (requestTest d s).now = s.now ∧
    (requestTest d s).free = s.free ∧
    (requestTest d s).power = s.power ∧
    (requestTest d s).host = s.host ∧
    (requestTest d s).lat = s.lat ∧
    (requestTest d s).win = s.win ∧
    (requestTest d s).cfg = s.cfg ∧
    (requestTest d s).boot = s.boot ∧
    (requestTest d s).otp = s.otp ∧
    (requestTest d s).src = s.src ∧
    (requestTest d s).paceFrac = s.paceFrac ∧
    (requestTest d s).mains = s.mains ∧
    (requestTest d s).stitch = s.stitch ∧
    (requestTest d s).chan = s.chan ∧
    (requestTest d s).supply = s.supply ∧
    (requestTest d s).sto = s.sto ∧
    (requestTest d s).spread = s.spread ∧
    (requestTest d s).supv = s.supv ∧
    (requestTest d s).pin = s.pin ∧
    (requestTest d s).seam = s.seam ∧
    (requestTest d s).bak = s.bak ∧
    (requestTest d s).proof = s.proof := by
  unfold requestTest; (try dsimp only); repeat' split
  all_goals (refine ⟨?_, ?_, ?_, ?_, ?_, ?_, ?_, ?_, ?_, ?_, ?_, ?_, ?_, ?_, ?_, ?_, ?_, ?_, ?_, ?_, ?_, ?_, ?_⟩ <;> simp)

/-! ### Reset -/

@[simp] theorem flushWindow_frame (w : Window) (s : State) :
    (flushWindow w s).pending = s.pending ∧
    (flushWindow w s).now = s.now ∧
    (flushWindow w s).power = s.power ∧
    (flushWindow w s).host = s.host ∧
    (flushWindow w s).lat = s.lat ∧
    (flushWindow w s).win = s.win ∧
    (flushWindow w s).cfg = s.cfg ∧
    (flushWindow w s).boot = s.boot ∧
    (flushWindow w s).otp = s.otp ∧
    (flushWindow w s).src = s.src ∧
    (flushWindow w s).paceFrac = s.paceFrac ∧
    (flushWindow w s).mains = s.mains ∧
    (flushWindow w s).stitch = s.stitch ∧
    (flushWindow w s).axes = s.axes ∧
    (flushWindow w s).chan = s.chan ∧
    (flushWindow w s).supply = s.supply ∧
    (flushWindow w s).sto = s.sto ∧
    (flushWindow w s).spread = s.spread ∧
    (flushWindow w s).supv = s.supv ∧
    (flushWindow w s).pin = s.pin ∧
    (flushWindow w s).seam = s.seam ∧
    (flushWindow w s).proof = s.proof := by
  unfold flushWindow; (try dsimp only); repeat' split
  all_goals (refine ⟨?_, ?_, ?_, ?_, ?_, ?_, ?_, ?_, ?_, ?_, ?_, ?_, ?_, ?_, ?_, ?_, ?_, ?_, ?_, ?_, ?_, ?_⟩ <;> simp)

@[simp] theorem coldState_frame (s : State) :
    (coldState s).pending = s.pending ∧
    (coldState s).free = s.free ∧
    (coldState s).otp = s.otp ∧
    (coldState s).bak = s.bak := by
  unfold coldState; (try dsimp only); repeat' split
  all_goals (refine ⟨?_, ?_, ?_, ?_⟩ <;> simp)

@[simp] theorem cutStore_frame (s : State) :
    (cutStore s).pending = s.pending ∧
    (cutStore s).now = s.now ∧
    (cutStore s).power = s.power ∧
    (cutStore s).host = s.host ∧
    (cutStore s).lat = s.lat ∧
    (cutStore s).win = s.win ∧
    (cutStore s).cfg = s.cfg ∧
    (cutStore s).boot = s.boot ∧
    (cutStore s).otp = s.otp ∧
    (cutStore s).src = s.src ∧
    (cutStore s).paceFrac = s.paceFrac ∧
    (cutStore s).mains = s.mains ∧
    (cutStore s).stitch = s.stitch ∧
    (cutStore s).axes = s.axes ∧
    (cutStore s).chan = s.chan ∧
    (cutStore s).supply = s.supply ∧
    (cutStore s).sto = s.sto ∧
    (cutStore s).spread = s.spread ∧
    (cutStore s).supv = s.supv ∧
    (cutStore s).fb = s.fb ∧
    (cutStore s).cnv = s.cnv ∧
    (cutStore s).pin = s.pin ∧
    (cutStore s).seam = s.seam ∧
    (cutStore s).flt = s.flt ∧
    (cutStore s).bak = s.bak ∧
    (cutStore s).proof = s.proof := by
  unfold cutStore; (try dsimp only); repeat' split
  all_goals (refine ⟨?_, ?_, ?_, ?_, ?_, ?_, ?_, ?_, ?_, ?_, ?_, ?_, ?_, ?_, ?_, ?_, ?_, ?_, ?_, ?_, ?_, ?_, ?_, ?_, ?_, ?_⟩ <;> simp)

@[simp] theorem enterReset_frame (cause : BitVec 5) (s : State) :
    (enterReset cause s).pending = s.pending := by
  unfold enterReset; (try dsimp only); repeat' split
  all_goals (try simp)

@[simp] theorem supvReset_frame (reason : BitVec 4) (s : State) :
    (supvReset reason s).pending = s.pending := by
  unfold supvReset; (try dsimp only); repeat' split
  all_goals (try simp)

@[simp] theorem hostReset_frame (s : State) :
    (hostReset s).pending = s.pending := by
  unfold hostReset; (try dsimp only); repeat' split
  all_goals (try simp)

@[simp] theorem rstnReset_frame (lowNs : Nat) (s : State) :
    (rstnReset lowNs s).pending = s.pending := by
  unfold rstnReset; (try dsimp only); repeat' split
  all_goals (try simp)

@[simp] theorem powerOnReset_frame (rstn : Bool) (s : State) :
    (powerOnReset rstn s).pending = s.pending := by
  unfold powerOnReset; (try dsimp only); repeat' split
  all_goals (try simp)

@[simp] theorem backupEnd_frame (s : State) :
    (backupEnd s).pending = s.pending := by
  unfold backupEnd; (try dsimp only); repeat' split
  all_goals (try simp)

@[simp] theorem dropWork_frame (s : State) :
    (dropWork s).pending = s.pending ∧
    (dropWork s).now = s.now ∧
    (dropWork s).power = s.power ∧
    (dropWork s).host = s.host ∧
    (dropWork s).lat = s.lat ∧
    (dropWork s).win = s.win ∧
    (dropWork s).cfg = s.cfg ∧
    (dropWork s).boot = s.boot ∧
    (dropWork s).src = s.src ∧
    (dropWork s).paceFrac = s.paceFrac ∧
    (dropWork s).mains = s.mains ∧
    (dropWork s).stitch = s.stitch ∧
    (dropWork s).axes = s.axes ∧
    (dropWork s).chan = s.chan ∧
    (dropWork s).supply = s.supply ∧
    (dropWork s).sto = s.sto ∧
    (dropWork s).spread = s.spread ∧
    (dropWork s).supv = s.supv ∧
    (dropWork s).fb = s.fb ∧
    (dropWork s).cnv = s.cnv ∧
    (dropWork s).pin = s.pin ∧
    (dropWork s).seam = s.seam ∧
    (dropWork s).bak = s.bak ∧
    (dropWork s).proof = s.proof := by
  unfold dropWork; (try dsimp only); repeat' split
  all_goals (refine ⟨?_, ?_, ?_, ?_, ?_, ?_, ?_, ?_, ?_, ?_, ?_, ?_, ?_, ?_, ?_, ?_, ?_, ?_, ?_, ?_, ?_, ?_, ?_, ?_⟩ <;> simp)

@[simp] theorem supplyLoss_frame (rail : Rail) (s : State) :
    (supplyLoss rail s).pending = s.pending ∧
    (supplyLoss rail s).now = s.now ∧
    (supplyLoss rail s).host = s.host ∧
    (supplyLoss rail s).lat = s.lat ∧
    (supplyLoss rail s).win = s.win ∧
    (supplyLoss rail s).cfg = s.cfg ∧
    (supplyLoss rail s).src = s.src ∧
    (supplyLoss rail s).paceFrac = s.paceFrac ∧
    (supplyLoss rail s).mains = s.mains ∧
    (supplyLoss rail s).stitch = s.stitch ∧
    (supplyLoss rail s).axes = s.axes ∧
    (supplyLoss rail s).chan = s.chan ∧
    (supplyLoss rail s).supply = s.supply ∧
    (supplyLoss rail s).sto = s.sto ∧
    (supplyLoss rail s).spread = s.spread ∧
    (supplyLoss rail s).supv = s.supv ∧
    (supplyLoss rail s).fb = s.fb ∧
    (supplyLoss rail s).cnv = s.cnv ∧
    (supplyLoss rail s).seam = s.seam ∧
    (supplyLoss rail s).proof = s.proof := by
  unfold supplyLoss; (try dsimp only); repeat' split
  all_goals (refine ⟨?_, ?_, ?_, ?_, ?_, ?_, ?_, ?_, ?_, ?_, ?_, ?_, ?_, ?_, ?_, ?_, ?_, ?_, ?_, ?_⟩ <;> simp)

@[simp] theorem takePermissions_frame (s : State) :
    (takePermissions s).pending = s.pending ∧
    (takePermissions s).now = s.now ∧
    (takePermissions s).free = s.free ∧
    (takePermissions s).power = s.power ∧
    (takePermissions s).host = s.host ∧
    (takePermissions s).lat = s.lat ∧
    (takePermissions s).win = s.win ∧
    (takePermissions s).cfg = s.cfg ∧
    (takePermissions s).otp = s.otp ∧
    (takePermissions s).src = s.src ∧
    (takePermissions s).paceFrac = s.paceFrac ∧
    (takePermissions s).mains = s.mains ∧
    (takePermissions s).stitch = s.stitch ∧
    (takePermissions s).axes = s.axes ∧
    (takePermissions s).chan = s.chan ∧
    (takePermissions s).supply = s.supply ∧
    (takePermissions s).sto = s.sto ∧
    (takePermissions s).spread = s.spread ∧
    (takePermissions s).supv = s.supv ∧
    (takePermissions s).fb = s.fb ∧
    (takePermissions s).cnv = s.cnv ∧
    (takePermissions s).pin = s.pin ∧
    (takePermissions s).seam = s.seam ∧
    (takePermissions s).flt = s.flt ∧
    (takePermissions s).store = s.store ∧
    (takePermissions s).bak = s.bak ∧
    (takePermissions s).proof = s.proof := by
  unfold takePermissions; (try dsimp only); repeat' split
  all_goals (refine ⟨?_, ?_, ?_, ?_, ?_, ?_, ?_, ?_, ?_, ?_, ?_, ?_, ?_, ?_, ?_, ?_, ?_, ?_, ?_, ?_, ?_, ?_, ?_, ?_, ?_, ?_, ?_⟩ <;> simp)

@[simp] theorem modSupv_frame (f : Supv → Supv) (s : State) :
    (modSupv f s).pending = s.pending ∧
    (modSupv f s).now = s.now ∧
    (modSupv f s).free = s.free ∧
    (modSupv f s).power = s.power ∧
    (modSupv f s).host = s.host ∧
    (modSupv f s).lat = s.lat ∧
    (modSupv f s).win = s.win ∧
    (modSupv f s).cfg = s.cfg ∧
    (modSupv f s).boot = s.boot ∧
    (modSupv f s).otp = s.otp ∧
    (modSupv f s).src = s.src ∧
    (modSupv f s).paceFrac = s.paceFrac ∧
    (modSupv f s).mains = s.mains ∧
    (modSupv f s).stitch = s.stitch ∧
    (modSupv f s).axes = s.axes ∧
    (modSupv f s).chan = s.chan ∧
    (modSupv f s).supply = s.supply ∧
    (modSupv f s).sto = s.sto ∧
    (modSupv f s).spread = s.spread ∧
    (modSupv f s).fb = s.fb ∧
    (modSupv f s).cnv = s.cnv ∧
    (modSupv f s).pin = s.pin ∧
    (modSupv f s).seam = s.seam ∧
    (modSupv f s).flt = s.flt ∧
    (modSupv f s).store = s.store ∧
    (modSupv f s).bak = s.bak ∧
    (modSupv f s).proof = s.proof := by
  unfold modSupv; (try dsimp only); repeat' split
  all_goals (refine ⟨?_, ?_, ?_, ?_, ?_, ?_, ?_, ?_, ?_, ?_, ?_, ?_, ?_, ?_, ?_, ?_, ?_, ?_, ?_, ?_, ?_, ?_, ?_, ?_, ?_, ?_, ?_⟩ <;> simp)

@[simp] theorem decide4_frame (reason : BitVec 4) (s : State) :
    (decide4 reason s).pending = s.pending ∧
    (decide4 reason s).now = s.now ∧
    (decide4 reason s).free = s.free ∧
    (decide4 reason s).power = s.power ∧
    (decide4 reason s).host = s.host ∧
    (decide4 reason s).lat = s.lat ∧
    (decide4 reason s).win = s.win ∧
    (decide4 reason s).cfg = s.cfg ∧
    (decide4 reason s).boot = s.boot ∧
    (decide4 reason s).otp = s.otp ∧
    (decide4 reason s).src = s.src ∧
    (decide4 reason s).paceFrac = s.paceFrac ∧
    (decide4 reason s).mains = s.mains ∧
    (decide4 reason s).stitch = s.stitch ∧
    (decide4 reason s).axes = s.axes ∧
    (decide4 reason s).chan = s.chan ∧
    (decide4 reason s).supply = s.supply ∧
    (decide4 reason s).sto = s.sto ∧
    (decide4 reason s).spread = s.spread ∧
    (decide4 reason s).fb = s.fb ∧
    (decide4 reason s).cnv = s.cnv ∧
    (decide4 reason s).pin = s.pin ∧
    (decide4 reason s).seam = s.seam ∧
    (decide4 reason s).store = s.store ∧
    (decide4 reason s).bak = s.bak ∧
    (decide4 reason s).proof = s.proof := by
  unfold decide4; (try dsimp only); repeat' split
  all_goals (refine ⟨?_, ?_, ?_, ?_, ?_, ?_, ?_, ?_, ?_, ?_, ?_, ?_, ?_, ?_, ?_, ?_, ?_, ?_, ?_, ?_, ?_, ?_, ?_, ?_, ?_, ?_⟩ <;> simp)

@[simp] theorem supvTripDecision_frame (reason : BitVec 4) (f : Supv → Supv) (s : State) :
    (supvTripDecision reason f s).pending = s.pending ∧
    (supvTripDecision reason f s).now = s.now ∧
    (supvTripDecision reason f s).free = s.free ∧
    (supvTripDecision reason f s).power = s.power ∧
    (supvTripDecision reason f s).host = s.host ∧
    (supvTripDecision reason f s).lat = s.lat ∧
    (supvTripDecision reason f s).win = s.win ∧
    (supvTripDecision reason f s).cfg = s.cfg ∧
    (supvTripDecision reason f s).boot = s.boot ∧
    (supvTripDecision reason f s).otp = s.otp ∧
    (supvTripDecision reason f s).src = s.src ∧
    (supvTripDecision reason f s).paceFrac = s.paceFrac ∧
    (supvTripDecision reason f s).mains = s.mains ∧
    (supvTripDecision reason f s).stitch = s.stitch ∧
    (supvTripDecision reason f s).chan = s.chan ∧
    (supvTripDecision reason f s).supply = s.supply ∧
    (supvTripDecision reason f s).sto = s.sto ∧
    (supvTripDecision reason f s).spread = s.spread ∧
    (supvTripDecision reason f s).fb = s.fb ∧
    (supvTripDecision reason f s).cnv = s.cnv ∧
    (supvTripDecision reason f s).pin = s.pin ∧
    (supvTripDecision reason f s).seam = s.seam ∧
    (supvTripDecision reason f s).bak = s.bak ∧
    (supvTripDecision reason f s).proof = s.proof := by
  unfold supvTripDecision; (try dsimp only); repeat' split
  all_goals (refine ⟨?_, ?_, ?_, ?_, ?_, ?_, ?_, ?_, ?_, ?_, ?_, ?_, ?_, ?_, ?_, ?_, ?_, ?_, ?_, ?_, ?_, ?_, ?_, ?_⟩ <;> simp)

@[simp] theorem stoPathCheckFail_frame (path : Fin 2) (s : State) :
    (stoPathCheckFail path s).pending = s.pending ∧
    (stoPathCheckFail path s).now = s.now ∧
    (stoPathCheckFail path s).free = s.free ∧
    (stoPathCheckFail path s).power = s.power ∧
    (stoPathCheckFail path s).host = s.host ∧
    (stoPathCheckFail path s).lat = s.lat ∧
    (stoPathCheckFail path s).win = s.win ∧
    (stoPathCheckFail path s).cfg = s.cfg ∧
    (stoPathCheckFail path s).boot = s.boot ∧
    (stoPathCheckFail path s).src = s.src ∧
    (stoPathCheckFail path s).paceFrac = s.paceFrac ∧
    (stoPathCheckFail path s).mains = s.mains ∧
    (stoPathCheckFail path s).stitch = s.stitch ∧
    (stoPathCheckFail path s).chan = s.chan ∧
    (stoPathCheckFail path s).supply = s.supply ∧
    (stoPathCheckFail path s).sto = s.sto ∧
    (stoPathCheckFail path s).spread = s.spread ∧
    (stoPathCheckFail path s).fb = s.fb ∧
    (stoPathCheckFail path s).cnv = s.cnv ∧
    (stoPathCheckFail path s).pin = s.pin ∧
    (stoPathCheckFail path s).seam = s.seam ∧
    (stoPathCheckFail path s).bak = s.bak ∧
    (stoPathCheckFail path s).proof = s.proof := by
  unfold stoPathCheckFail; (try dsimp only); repeat' split
  all_goals (refine ⟨?_, ?_, ?_, ?_, ?_, ?_, ?_, ?_, ?_, ?_, ?_, ?_, ?_, ?_, ?_, ?_, ?_, ?_, ?_, ?_, ?_, ?_, ?_⟩ <;> simp)

@[simp] theorem missBeat_frame (i : Nat) (s : State) :
    (missBeat i s).pending = s.pending ∧
    (missBeat i s).now = s.now ∧
    (missBeat i s).free = s.free ∧
    (missBeat i s).power = s.power ∧
    (missBeat i s).host = s.host ∧
    (missBeat i s).lat = s.lat ∧
    (missBeat i s).win = s.win ∧
    (missBeat i s).cfg = s.cfg ∧
    (missBeat i s).boot = s.boot ∧
    (missBeat i s).otp = s.otp ∧
    (missBeat i s).src = s.src ∧
    (missBeat i s).paceFrac = s.paceFrac ∧
    (missBeat i s).mains = s.mains ∧
    (missBeat i s).stitch = s.stitch ∧
    (missBeat i s).chan = s.chan ∧
    (missBeat i s).supply = s.supply ∧
    (missBeat i s).sto = s.sto ∧
    (missBeat i s).spread = s.spread ∧
    (missBeat i s).pin = s.pin ∧
    (missBeat i s).seam = s.seam ∧
    (missBeat i s).bak = s.bak ∧
    (missBeat i s).proof = s.proof := by
  unfold missBeat; (try dsimp only); repeat' split
  all_goals (refine ⟨?_, ?_, ?_, ?_, ?_, ?_, ?_, ?_, ?_, ?_, ?_, ?_, ?_, ?_, ?_, ?_, ?_, ?_, ?_, ?_, ?_, ?_⟩ <;> simp)

@[simp] theorem heartbeatCheck_frame (silent : List Nat) (s : State) :
    (heartbeatCheck silent s).pending = s.pending ∧
    (heartbeatCheck silent s).now = s.now ∧
    (heartbeatCheck silent s).free = s.free ∧
    (heartbeatCheck silent s).power = s.power ∧
    (heartbeatCheck silent s).host = s.host ∧
    (heartbeatCheck silent s).lat = s.lat ∧
    (heartbeatCheck silent s).win = s.win ∧
    (heartbeatCheck silent s).cfg = s.cfg ∧
    (heartbeatCheck silent s).boot = s.boot ∧
    (heartbeatCheck silent s).otp = s.otp ∧
    (heartbeatCheck silent s).src = s.src ∧
    (heartbeatCheck silent s).paceFrac = s.paceFrac ∧
    (heartbeatCheck silent s).mains = s.mains ∧
    (heartbeatCheck silent s).stitch = s.stitch ∧
    (heartbeatCheck silent s).chan = s.chan ∧
    (heartbeatCheck silent s).supply = s.supply ∧
    (heartbeatCheck silent s).sto = s.sto ∧
    (heartbeatCheck silent s).spread = s.spread ∧
    (heartbeatCheck silent s).pin = s.pin ∧
    (heartbeatCheck silent s).seam = s.seam ∧
    (heartbeatCheck silent s).bak = s.bak ∧
    (heartbeatCheck silent s).proof = s.proof := by
  unfold heartbeatCheck; (try dsimp only); repeat' split
  all_goals (refine ⟨?_, ?_, ?_, ?_, ?_, ?_, ?_, ?_, ?_, ?_, ?_, ?_, ?_, ?_, ?_, ?_, ?_, ?_, ?_, ?_, ?_, ?_⟩ <;> simp)

@[simp] theorem afterRecheck_frame (i : Nat) (pass : Bool) (s : State) :
    (afterRecheck i pass s).pending = s.pending := by
  unfold afterRecheck; (try dsimp only); repeat' split
  all_goals (try simp)

@[simp] theorem retrained_frame (i : Nat) (s : State) :
    (retrained i s).pending = s.pending ∧
    (retrained i s).now = s.now ∧
    (retrained i s).free = s.free ∧
    (retrained i s).power = s.power ∧
    (retrained i s).host = s.host ∧
    (retrained i s).lat = s.lat ∧
    (retrained i s).win = s.win ∧
    (retrained i s).cfg = s.cfg ∧
    (retrained i s).boot = s.boot ∧
    (retrained i s).otp = s.otp ∧
    (retrained i s).src = s.src ∧
    (retrained i s).paceFrac = s.paceFrac ∧
    (retrained i s).mains = s.mains ∧
    (retrained i s).stitch = s.stitch ∧
    (retrained i s).axes = s.axes ∧
    (retrained i s).chan = s.chan ∧
    (retrained i s).supply = s.supply ∧
    (retrained i s).sto = s.sto ∧
    (retrained i s).spread = s.spread ∧
    (retrained i s).supv = s.supv ∧
    (retrained i s).fb = s.fb ∧
    (retrained i s).cnv = s.cnv ∧
    (retrained i s).pin = s.pin ∧
    (retrained i s).flt = s.flt ∧
    (retrained i s).store = s.store ∧
    (retrained i s).bak = s.bak ∧
    (retrained i s).proof = s.proof := by
  unfold retrained; (try dsimp only); repeat' split
  all_goals (refine ⟨?_, ?_, ?_, ?_, ?_, ?_, ?_, ?_, ?_, ?_, ?_, ?_, ?_, ?_, ?_, ?_, ?_, ?_, ?_, ?_, ?_, ?_, ?_, ?_, ?_, ?_, ?_⟩ <;> simp)

@[simp] theorem powerRequest_frame (d : Word) (s : State) :
    (powerRequest d s).pending = s.pending ∧
    (powerRequest d s).now = s.now ∧
    (powerRequest d s).free = s.free ∧
    (powerRequest d s).host = s.host ∧
    (powerRequest d s).lat = s.lat ∧
    (powerRequest d s).win = s.win ∧
    (powerRequest d s).cfg = s.cfg ∧
    (powerRequest d s).boot = s.boot ∧
    (powerRequest d s).otp = s.otp ∧
    (powerRequest d s).src = s.src ∧
    (powerRequest d s).paceFrac = s.paceFrac ∧
    (powerRequest d s).mains = s.mains ∧
    (powerRequest d s).stitch = s.stitch ∧
    (powerRequest d s).axes = s.axes ∧
    (powerRequest d s).chan = s.chan ∧
    (powerRequest d s).supply = s.supply ∧
    (powerRequest d s).sto = s.sto ∧
    (powerRequest d s).spread = s.spread ∧
    (powerRequest d s).supv = s.supv ∧
    (powerRequest d s).fb = s.fb ∧
    (powerRequest d s).cnv = s.cnv ∧
    (powerRequest d s).pin = s.pin ∧
    (powerRequest d s).seam = s.seam ∧
    (powerRequest d s).flt = s.flt ∧
    (powerRequest d s).store = s.store ∧
    (powerRequest d s).bak = s.bak ∧
    (powerRequest d s).proof = s.proof := by
  unfold powerRequest; (try dsimp only); repeat' split
  all_goals (refine ⟨?_, ?_, ?_, ?_, ?_, ?_, ?_, ?_, ?_, ?_, ?_, ?_, ?_, ?_, ?_, ?_, ?_, ?_, ?_, ?_, ?_, ?_, ?_, ?_, ?_, ?_, ?_⟩ <;> simp)

@[simp] theorem failSelfTest_frame (t : SelfTest) (s : State) :
    (failSelfTest t s).pending = s.pending ∧
    (failSelfTest t s).now = s.now ∧
    (failSelfTest t s).free = s.free ∧
    (failSelfTest t s).power = s.power ∧
    (failSelfTest t s).host = s.host ∧
    (failSelfTest t s).lat = s.lat ∧
    (failSelfTest t s).win = s.win ∧
    (failSelfTest t s).cfg = s.cfg ∧
    (failSelfTest t s).boot = s.boot ∧
    (failSelfTest t s).src = s.src ∧
    (failSelfTest t s).paceFrac = s.paceFrac ∧
    (failSelfTest t s).mains = s.mains ∧
    (failSelfTest t s).stitch = s.stitch ∧
    (failSelfTest t s).chan = s.chan ∧
    (failSelfTest t s).supply = s.supply ∧
    (failSelfTest t s).sto = s.sto ∧
    (failSelfTest t s).spread = s.spread ∧
    (failSelfTest t s).supv = s.supv ∧
    (failSelfTest t s).fb = s.fb ∧
    (failSelfTest t s).cnv = s.cnv ∧
    (failSelfTest t s).pin = s.pin ∧
    (failSelfTest t s).seam = s.seam ∧
    (failSelfTest t s).bak = s.bak ∧
    (failSelfTest t s).proof = s.proof := by
  unfold failSelfTest; (try dsimp only); repeat' split
  all_goals (refine ⟨?_, ?_, ?_, ?_, ?_, ?_, ?_, ?_, ?_, ?_, ?_, ?_, ?_, ?_, ?_, ?_, ?_, ?_, ?_, ?_, ?_, ?_, ?_, ?_⟩ <;> simp)

@[simp] theorem runSelfTests_frame (tests : List SelfTest) (s : State) :
    (runSelfTests tests s).pending = s.pending ∧
    (runSelfTests tests s).now = s.now ∧
    (runSelfTests tests s).free = s.free ∧
    (runSelfTests tests s).power = s.power ∧
    (runSelfTests tests s).host = s.host ∧
    (runSelfTests tests s).lat = s.lat ∧
    (runSelfTests tests s).win = s.win ∧
    (runSelfTests tests s).cfg = s.cfg ∧
    (runSelfTests tests s).boot = s.boot ∧
    (runSelfTests tests s).src = s.src ∧
    (runSelfTests tests s).paceFrac = s.paceFrac ∧
    (runSelfTests tests s).mains = s.mains ∧
    (runSelfTests tests s).stitch = s.stitch ∧
    (runSelfTests tests s).chan = s.chan ∧
    (runSelfTests tests s).supply = s.supply ∧
    (runSelfTests tests s).sto = s.sto ∧
    (runSelfTests tests s).spread = s.spread ∧
    (runSelfTests tests s).supv = s.supv ∧
    (runSelfTests tests s).fb = s.fb ∧
    (runSelfTests tests s).cnv = s.cnv ∧
    (runSelfTests tests s).pin = s.pin ∧
    (runSelfTests tests s).seam = s.seam ∧
    (runSelfTests tests s).bak = s.bak ∧
    (runSelfTests tests s).proof = s.proof := by
  unfold runSelfTests; (try dsimp only); repeat' split
  all_goals (refine ⟨?_, ?_, ?_, ?_, ?_, ?_, ?_, ?_, ?_, ?_, ?_, ?_, ?_, ?_, ?_, ?_, ?_, ?_, ?_, ?_, ?_, ?_, ?_, ?_⟩ <;> simp)

theorem forEach_otp_of_mem {α : Type} (l : List α) (g : α → State → State) (s : State)
    (h : ∀ a ∈ l, ∀ t, (g a t).otp = t.otp) : (forEach l g s).otp = s.otp := by
  unfold forEach
  induction l generalizing s with
  | nil => rfl
  | cons a r ih =>
    rw [List.foldl_cons, ih _ fun b hb => h b (List.mem_cons_of_mem _ hb), h a List.mem_cons_self]

theorem failSelfTest_otp (x : SelfTest) (s : State) (h : x.unit.kind ≠ 11) : (failSelfTest x s).otp = s.otp := by
  have ho : ∀ t, (outOfService x.unit t).otp = t.otp := by
    intro t; unfold outOfService
    split
    · rfl
    · split
      · rename_i hu; simp [hu] at h
      · rfl
  unfold failSelfTest makeLasting
  dsimp only
  split
  · simp
  · simp [ho]

@[simp] theorem runSelfTests_otp (tests : List SelfTest) (s : State) : (runSelfTests tests s).otp = s.otp := by
  unfold runSelfTests
  refine forEach_otp_of_mem _ _ _ fun x hx t => failSelfTest_otp x t ?_
  simp only [failedSelfTests, List.mem_filterMap] at hx
  obtain ⟨u, hu, hx⟩ := hx
  have hk : x.unit = u := by have := List.find?_some hx; simp_all
  simp only [selfTestUnits, List.mem_append, List.mem_flatMap, List.mem_map] at hu
  rcases hu with ((⟨_, _, _, _, rfl⟩ | ⟨_, _, _, _, rfl⟩) | ⟨_, _, _, _, rfl⟩) | ⟨_, _, rfl⟩ <;> simp [hk]

@[simp] theorem leaveSleep_frame (tests : List SelfTest) (s : State) :
    (leaveSleep tests s).pending = s.pending ∧
    (leaveSleep tests s).now = s.now ∧
    (leaveSleep tests s).free = s.free ∧
    (leaveSleep tests s).power = s.power ∧
    (leaveSleep tests s).host = s.host ∧
    (leaveSleep tests s).lat = s.lat ∧
    (leaveSleep tests s).win = s.win ∧
    (leaveSleep tests s).boot = s.boot ∧
    (leaveSleep tests s).otp = s.otp ∧
    (leaveSleep tests s).src = s.src ∧
    (leaveSleep tests s).paceFrac = s.paceFrac ∧
    (leaveSleep tests s).mains = s.mains ∧
    (leaveSleep tests s).stitch = s.stitch ∧
    (leaveSleep tests s).chan = s.chan ∧
    (leaveSleep tests s).supply = s.supply ∧
    (leaveSleep tests s).sto = s.sto ∧
    (leaveSleep tests s).spread = s.spread ∧
    (leaveSleep tests s).supv = s.supv ∧
    (leaveSleep tests s).cnv = s.cnv ∧
    (leaveSleep tests s).pin = s.pin ∧
    (leaveSleep tests s).seam = s.seam ∧
    (leaveSleep tests s).bak = s.bak ∧
    (leaveSleep tests s).proof = s.proof := by
  unfold leaveSleep; (try dsimp only); repeat' split
  all_goals (refine ⟨?_, ?_, ?_, ?_, ?_, ?_, ?_, ?_, ?_, ?_, ?_, ?_, ?_, ?_, ?_, ?_, ?_, ?_, ?_, ?_, ?_, ?_, ?_⟩ <;> simp)

@[simp] theorem stopPorts_frame (s : State) :
    (stopPorts s).pending = s.pending ∧
    (stopPorts s).now = s.now ∧
    (stopPorts s).free = s.free ∧
    (stopPorts s).power = s.power ∧
    (stopPorts s).host = s.host ∧
    (stopPorts s).lat = s.lat ∧
    (stopPorts s).win = s.win ∧
    (stopPorts s).cfg = s.cfg ∧
    (stopPorts s).boot = s.boot ∧
    (stopPorts s).otp = s.otp ∧
    (stopPorts s).src = s.src ∧
    (stopPorts s).paceFrac = s.paceFrac ∧
    (stopPorts s).mains = s.mains ∧
    (stopPorts s).stitch = s.stitch ∧
    (stopPorts s).axes = s.axes ∧
    (stopPorts s).chan = s.chan ∧
    (stopPorts s).supply = s.supply ∧
    (stopPorts s).sto = s.sto ∧
    (stopPorts s).spread = s.spread ∧
    (stopPorts s).supv = s.supv ∧
    (stopPorts s).fb = s.fb ∧
    (stopPorts s).cnv = s.cnv ∧
    (stopPorts s).pin = s.pin ∧
    (stopPorts s).flt = s.flt ∧
    (stopPorts s).store = s.store ∧
    (stopPorts s).bak = s.bak ∧
    (stopPorts s).proof = s.proof := by
  unfold stopPorts; (try dsimp only); repeat' split
  all_goals (refine ⟨?_, ?_, ?_, ?_, ?_, ?_, ?_, ?_, ?_, ?_, ?_, ?_, ?_, ?_, ?_, ?_, ?_, ?_, ?_, ?_, ?_, ?_, ?_, ?_, ?_, ?_, ?_⟩ <;> simp)

@[simp] theorem stopSupplies_frame (s : State) :
    (stopSupplies s).pending = s.pending ∧
    (stopSupplies s).now = s.now ∧
    (stopSupplies s).free = s.free ∧
    (stopSupplies s).power = s.power ∧
    (stopSupplies s).host = s.host ∧
    (stopSupplies s).lat = s.lat ∧
    (stopSupplies s).win = s.win ∧
    (stopSupplies s).cfg = s.cfg ∧
    (stopSupplies s).boot = s.boot ∧
    (stopSupplies s).otp = s.otp ∧
    (stopSupplies s).src = s.src ∧
    (stopSupplies s).paceFrac = s.paceFrac ∧
    (stopSupplies s).mains = s.mains ∧
    (stopSupplies s).stitch = s.stitch ∧
    (stopSupplies s).axes = s.axes ∧
    (stopSupplies s).chan = s.chan ∧
    (stopSupplies s).sto = s.sto ∧
    (stopSupplies s).spread = s.spread ∧
    (stopSupplies s).supv = s.supv ∧
    (stopSupplies s).fb = s.fb ∧
    (stopSupplies s).cnv = s.cnv ∧
    (stopSupplies s).pin = s.pin ∧
    (stopSupplies s).seam = s.seam ∧
    (stopSupplies s).flt = s.flt ∧
    (stopSupplies s).store = s.store ∧
    (stopSupplies s).bak = s.bak ∧
    (stopSupplies s).proof = s.proof := by
  unfold stopSupplies; (try dsimp only); repeat' split
  all_goals (refine ⟨?_, ?_, ?_, ?_, ?_, ?_, ?_, ?_, ?_, ?_, ?_, ?_, ?_, ?_, ?_, ?_, ?_, ?_, ?_, ?_, ?_, ?_, ?_, ?_, ?_, ?_, ?_⟩ <;> simp)

@[simp] theorem powerTransitionDone_frame (tests : List SelfTest) (s : State) :
    (powerTransitionDone tests s).pending = s.pending ∧
    (powerTransitionDone tests s).now = s.now ∧
    (powerTransitionDone tests s).lat = s.lat ∧
    (powerTransitionDone tests s).win = s.win ∧
    (powerTransitionDone tests s).boot = s.boot ∧
    (powerTransitionDone tests s).otp = s.otp ∧
    (powerTransitionDone tests s).paceFrac = s.paceFrac ∧
    (powerTransitionDone tests s).mains = s.mains ∧
    (powerTransitionDone tests s).stitch = s.stitch ∧
    (powerTransitionDone tests s).chan = s.chan ∧
    (powerTransitionDone tests s).sto = s.sto ∧
    (powerTransitionDone tests s).spread = s.spread ∧
    (powerTransitionDone tests s).supv = s.supv ∧
    (powerTransitionDone tests s).proof = s.proof := by
  unfold powerTransitionDone; (try dsimp only); repeat' split
  all_goals (refine ⟨?_, ?_, ?_, ?_, ?_, ?_, ?_, ?_, ?_, ?_, ?_, ?_, ?_, ?_⟩ <;> simp)

@[simp] theorem rtcWake_frame (s : State) :
    (rtcWake s).pending = s.pending ∧
    (rtcWake s).now = s.now ∧
    (rtcWake s).free = s.free ∧
    (rtcWake s).host = s.host ∧
    (rtcWake s).lat = s.lat ∧
    (rtcWake s).win = s.win ∧
    (rtcWake s).cfg = s.cfg ∧
    (rtcWake s).boot = s.boot ∧
    (rtcWake s).otp = s.otp ∧
    (rtcWake s).src = s.src ∧
    (rtcWake s).paceFrac = s.paceFrac ∧
    (rtcWake s).mains = s.mains ∧
    (rtcWake s).stitch = s.stitch ∧
    (rtcWake s).axes = s.axes ∧
    (rtcWake s).chan = s.chan ∧
    (rtcWake s).supply = s.supply ∧
    (rtcWake s).sto = s.sto ∧
    (rtcWake s).spread = s.spread ∧
    (rtcWake s).supv = s.supv ∧
    (rtcWake s).fb = s.fb ∧
    (rtcWake s).cnv = s.cnv ∧
    (rtcWake s).pin = s.pin ∧
    (rtcWake s).seam = s.seam ∧
    (rtcWake s).flt = s.flt ∧
    (rtcWake s).store = s.store ∧
    (rtcWake s).proof = s.proof := by
  unfold rtcWake; (try dsimp only); repeat' split
  all_goals (refine ⟨?_, ?_, ?_, ?_, ?_, ?_, ?_, ?_, ?_, ?_, ?_, ?_, ?_, ?_, ?_, ?_, ?_, ?_, ?_, ?_, ?_, ?_, ?_, ?_, ?_, ?_⟩ <;> simp)

@[simp] theorem wakePin_frame (p : Fin 16) (s : State) :
    (wakePin p s).pending = s.pending ∧
    (wakePin p s).now = s.now ∧
    (wakePin p s).host = s.host ∧
    (wakePin p s).lat = s.lat ∧
    (wakePin p s).win = s.win ∧
    (wakePin p s).cfg = s.cfg ∧
    (wakePin p s).boot = s.boot ∧
    (wakePin p s).otp = s.otp ∧
    (wakePin p s).src = s.src ∧
    (wakePin p s).paceFrac = s.paceFrac ∧
    (wakePin p s).mains = s.mains ∧
    (wakePin p s).stitch = s.stitch ∧
    (wakePin p s).axes = s.axes ∧
    (wakePin p s).chan = s.chan ∧
    (wakePin p s).supply = s.supply ∧
    (wakePin p s).sto = s.sto ∧
    (wakePin p s).spread = s.spread ∧
    (wakePin p s).supv = s.supv ∧
    (wakePin p s).fb = s.fb ∧
    (wakePin p s).cnv = s.cnv ∧
    (wakePin p s).pin = s.pin ∧
    (wakePin p s).seam = s.seam ∧
    (wakePin p s).flt = s.flt ∧
    (wakePin p s).store = s.store ∧
    (wakePin p s).proof = s.proof := by
  unfold wakePin; (try dsimp only); repeat' split
  all_goals (refine ⟨?_, ?_, ?_, ?_, ?_, ?_, ?_, ?_, ?_, ?_, ?_, ?_, ?_, ?_, ?_, ?_, ?_, ?_, ?_, ?_, ?_, ?_, ?_, ?_, ?_⟩ <;> simp)

/-! ### Boot -/

@[simp] theorem setBootStat_frame (i : Nat) (s : State) :
    (setBootStat i s).pending = s.pending ∧
    (setBootStat i s).now = s.now ∧
    (setBootStat i s).free = s.free ∧
    (setBootStat i s).power = s.power ∧
    (setBootStat i s).host = s.host ∧
    (setBootStat i s).lat = s.lat ∧
    (setBootStat i s).win = s.win ∧
    (setBootStat i s).cfg = s.cfg ∧
    (setBootStat i s).otp = s.otp ∧
    (setBootStat i s).src = s.src ∧
    (setBootStat i s).paceFrac = s.paceFrac ∧
    (setBootStat i s).mains = s.mains ∧
    (setBootStat i s).stitch = s.stitch ∧
    (setBootStat i s).axes = s.axes ∧
    (setBootStat i s).chan = s.chan ∧
    (setBootStat i s).supply = s.supply ∧
    (setBootStat i s).sto = s.sto ∧
    (setBootStat i s).spread = s.spread ∧
    (setBootStat i s).supv = s.supv ∧
    (setBootStat i s).fb = s.fb ∧
    (setBootStat i s).cnv = s.cnv ∧
    (setBootStat i s).pin = s.pin ∧
    (setBootStat i s).seam = s.seam ∧
    (setBootStat i s).flt = s.flt ∧
    (setBootStat i s).store = s.store ∧
    (setBootStat i s).bak = s.bak ∧
    (setBootStat i s).proof = s.proof := by
  unfold setBootStat; (try dsimp only); repeat' split
  all_goals (refine ⟨?_, ?_, ?_, ?_, ?_, ?_, ?_, ?_, ?_, ?_, ?_, ?_, ?_, ?_, ?_, ?_, ?_, ?_, ?_, ?_, ?_, ?_, ?_, ?_, ?_, ?_, ?_⟩ <;> simp)

@[simp] theorem bootStatIf_frame (c : Bool) (i : Nat) (s : State) :
    (bootStatIf c i s).pending = s.pending ∧
    (bootStatIf c i s).now = s.now ∧
    (bootStatIf c i s).free = s.free ∧
    (bootStatIf c i s).power = s.power ∧
    (bootStatIf c i s).host = s.host ∧
    (bootStatIf c i s).lat = s.lat ∧
    (bootStatIf c i s).win = s.win ∧
    (bootStatIf c i s).cfg = s.cfg ∧
    (bootStatIf c i s).otp = s.otp ∧
    (bootStatIf c i s).src = s.src ∧
    (bootStatIf c i s).paceFrac = s.paceFrac ∧
    (bootStatIf c i s).mains = s.mains ∧
    (bootStatIf c i s).stitch = s.stitch ∧
    (bootStatIf c i s).axes = s.axes ∧
    (bootStatIf c i s).chan = s.chan ∧
    (bootStatIf c i s).supply = s.supply ∧
    (bootStatIf c i s).sto = s.sto ∧
    (bootStatIf c i s).spread = s.spread ∧
    (bootStatIf c i s).supv = s.supv ∧
    (bootStatIf c i s).fb = s.fb ∧
    (bootStatIf c i s).cnv = s.cnv ∧
    (bootStatIf c i s).pin = s.pin ∧
    (bootStatIf c i s).seam = s.seam ∧
    (bootStatIf c i s).flt = s.flt ∧
    (bootStatIf c i s).store = s.store ∧
    (bootStatIf c i s).bak = s.bak ∧
    (bootStatIf c i s).proof = s.proof := by
  unfold bootStatIf; (try dsimp only); repeat' split
  all_goals (refine ⟨?_, ?_, ?_, ?_, ?_, ?_, ?_, ?_, ?_, ?_, ?_, ?_, ?_, ?_, ?_, ?_, ?_, ?_, ?_, ?_, ?_, ?_, ?_, ?_, ?_, ?_, ?_⟩ <;> simp)

@[simp] theorem bootOtp_frame (env : BootEnv) (s : State) :
    (bootOtp env s).pending = s.pending ∧
    (bootOtp env s).now = s.now ∧
    (bootOtp env s).free = s.free ∧
    (bootOtp env s).power = s.power ∧
    (bootOtp env s).host = s.host ∧
    (bootOtp env s).lat = s.lat ∧
    (bootOtp env s).win = s.win ∧
    (bootOtp env s).cfg = s.cfg ∧
    (bootOtp env s).otp = s.otp ∧
    (bootOtp env s).src = s.src ∧
    (bootOtp env s).paceFrac = s.paceFrac ∧
    (bootOtp env s).mains = s.mains ∧
    (bootOtp env s).stitch = s.stitch ∧
    (bootOtp env s).axes = s.axes ∧
    (bootOtp env s).chan = s.chan ∧
    (bootOtp env s).supply = s.supply ∧
    (bootOtp env s).sto = s.sto ∧
    (bootOtp env s).spread = s.spread ∧
    (bootOtp env s).supv = s.supv ∧
    (bootOtp env s).pin = s.pin ∧
    (bootOtp env s).seam = s.seam ∧
    (bootOtp env s).store = s.store ∧
    (bootOtp env s).bak = s.bak ∧
    (bootOtp env s).proof = s.proof := by
  unfold bootOtp; (try dsimp only); repeat' split
  all_goals (refine ⟨?_, ?_, ?_, ?_, ?_, ?_, ?_, ?_, ?_, ?_, ?_, ?_, ?_, ?_, ?_, ?_, ?_, ?_, ?_, ?_, ?_, ?_, ?_, ?_⟩ <;> simp)

@[simp] theorem bootPatches_frame (s : State) :
    (bootPatches s).pending = s.pending ∧
    (bootPatches s).now = s.now ∧
    (bootPatches s).free = s.free ∧
    (bootPatches s).power = s.power ∧
    (bootPatches s).host = s.host ∧
    (bootPatches s).lat = s.lat ∧
    (bootPatches s).win = s.win ∧
    (bootPatches s).cfg = s.cfg ∧
    (bootPatches s).otp = s.otp ∧
    (bootPatches s).src = s.src ∧
    (bootPatches s).paceFrac = s.paceFrac ∧
    (bootPatches s).mains = s.mains ∧
    (bootPatches s).stitch = s.stitch ∧
    (bootPatches s).axes = s.axes ∧
    (bootPatches s).chan = s.chan ∧
    (bootPatches s).supply = s.supply ∧
    (bootPatches s).sto = s.sto ∧
    (bootPatches s).spread = s.spread ∧
    (bootPatches s).supv = s.supv ∧
    (bootPatches s).pin = s.pin ∧
    (bootPatches s).seam = s.seam ∧
    (bootPatches s).store = s.store ∧
    (bootPatches s).bak = s.bak ∧
    (bootPatches s).proof = s.proof := by
  unfold bootPatches; (try dsimp only); repeat' split
  all_goals (refine ⟨?_, ?_, ?_, ?_, ?_, ?_, ?_, ?_, ?_, ?_, ?_, ?_, ?_, ?_, ?_, ?_, ?_, ?_, ?_, ?_, ?_, ?_, ?_, ?_⟩ <;> simp)

@[simp] theorem bootSetup_frame (s : State) :
    (bootSetup s).pending = s.pending ∧
    (bootSetup s).now = s.now ∧
    (bootSetup s).free = s.free ∧
    (bootSetup s).power = s.power ∧
    (bootSetup s).host = s.host ∧
    (bootSetup s).lat = s.lat ∧
    (bootSetup s).win = s.win ∧
    (bootSetup s).cfg = s.cfg ∧
    (bootSetup s).otp = s.otp ∧
    (bootSetup s).src = s.src ∧
    (bootSetup s).paceFrac = s.paceFrac ∧
    (bootSetup s).mains = s.mains ∧
    (bootSetup s).stitch = s.stitch ∧
    (bootSetup s).axes = s.axes ∧
    (bootSetup s).chan = s.chan ∧
    (bootSetup s).supply = s.supply ∧
    (bootSetup s).sto = s.sto ∧
    (bootSetup s).spread = s.spread ∧
    (bootSetup s).supv = s.supv ∧
    (bootSetup s).pin = s.pin ∧
    (bootSetup s).seam = s.seam ∧
    (bootSetup s).store = s.store ∧
    (bootSetup s).bak = s.bak ∧
    (bootSetup s).proof = s.proof := by
  unfold bootSetup; (try dsimp only); repeat' split
  all_goals (refine ⟨?_, ?_, ?_, ?_, ?_, ?_, ?_, ?_, ?_, ?_, ?_, ?_, ?_, ?_, ?_, ?_, ?_, ?_, ?_, ?_, ?_, ?_, ?_, ?_⟩ <;> simp)

@[simp] theorem judgeDalug_frame (n : Fin 8) (s : State) :
    (judgeDalug n s).pending = s.pending ∧
    (judgeDalug n s).now = s.now ∧
    (judgeDalug n s).free = s.free ∧
    (judgeDalug n s).power = s.power ∧
    (judgeDalug n s).host = s.host ∧
    (judgeDalug n s).lat = s.lat ∧
    (judgeDalug n s).win = s.win ∧
    (judgeDalug n s).cfg = s.cfg ∧
    (judgeDalug n s).otp = s.otp ∧
    (judgeDalug n s).src = s.src ∧
    (judgeDalug n s).paceFrac = s.paceFrac ∧
    (judgeDalug n s).mains = s.mains ∧
    (judgeDalug n s).stitch = s.stitch ∧
    (judgeDalug n s).chan = s.chan ∧
    (judgeDalug n s).supply = s.supply ∧
    (judgeDalug n s).sto = s.sto ∧
    (judgeDalug n s).spread = s.spread ∧
    (judgeDalug n s).supv = s.supv ∧
    (judgeDalug n s).fb = s.fb ∧
    (judgeDalug n s).cnv = s.cnv ∧
    (judgeDalug n s).pin = s.pin ∧
    (judgeDalug n s).seam = s.seam ∧
    (judgeDalug n s).store = s.store ∧
    (judgeDalug n s).bak = s.bak ∧
    (judgeDalug n s).proof = s.proof := by
  unfold judgeDalug; (try dsimp only); repeat' split
  all_goals (refine ⟨?_, ?_, ?_, ?_, ?_, ?_, ?_, ?_, ?_, ?_, ?_, ?_, ?_, ?_, ?_, ?_, ?_, ?_, ?_, ?_, ?_, ?_, ?_, ?_, ?_⟩ <;> simp)

@[simp] theorem bootBridges_frame (s : State) :
    (bootBridges s).pending = s.pending ∧
    (bootBridges s).now = s.now ∧
    (bootBridges s).free = s.free ∧
    (bootBridges s).power = s.power ∧
    (bootBridges s).host = s.host ∧
    (bootBridges s).lat = s.lat ∧
    (bootBridges s).win = s.win ∧
    (bootBridges s).cfg = s.cfg ∧
    (bootBridges s).otp = s.otp ∧
    (bootBridges s).src = s.src ∧
    (bootBridges s).paceFrac = s.paceFrac ∧
    (bootBridges s).mains = s.mains ∧
    (bootBridges s).stitch = s.stitch ∧
    (bootBridges s).chan = s.chan ∧
    (bootBridges s).supply = s.supply ∧
    (bootBridges s).sto = s.sto ∧
    (bootBridges s).spread = s.spread ∧
    (bootBridges s).supv = s.supv ∧
    (bootBridges s).fb = s.fb ∧
    (bootBridges s).cnv = s.cnv ∧
    (bootBridges s).pin = s.pin ∧
    (bootBridges s).seam = s.seam ∧
    (bootBridges s).store = s.store ∧
    (bootBridges s).bak = s.bak ∧
    (bootBridges s).proof = s.proof := by
  unfold bootBridges; (try dsimp only); repeat' split
  all_goals (refine ⟨?_, ?_, ?_, ?_, ?_, ?_, ?_, ?_, ?_, ?_, ?_, ?_, ?_, ?_, ?_, ?_, ?_, ?_, ?_, ?_, ?_, ?_, ?_, ?_, ?_⟩ <;> simp)

@[simp] theorem bootSelfTests_frame (tests : List SelfTest) (s : State) :
    (bootSelfTests tests s).pending = s.pending ∧
    (bootSelfTests tests s).now = s.now ∧
    (bootSelfTests tests s).free = s.free ∧
    (bootSelfTests tests s).power = s.power ∧
    (bootSelfTests tests s).host = s.host ∧
    (bootSelfTests tests s).lat = s.lat ∧
    (bootSelfTests tests s).win = s.win ∧
    (bootSelfTests tests s).cfg = s.cfg ∧
    (bootSelfTests tests s).otp = s.otp ∧
    (bootSelfTests tests s).src = s.src ∧
    (bootSelfTests tests s).paceFrac = s.paceFrac ∧
    (bootSelfTests tests s).mains = s.mains ∧
    (bootSelfTests tests s).stitch = s.stitch ∧
    (bootSelfTests tests s).chan = s.chan ∧
    (bootSelfTests tests s).supply = s.supply ∧
    (bootSelfTests tests s).sto = s.sto ∧
    (bootSelfTests tests s).spread = s.spread ∧
    (bootSelfTests tests s).supv = s.supv ∧
    (bootSelfTests tests s).fb = s.fb ∧
    (bootSelfTests tests s).cnv = s.cnv ∧
    (bootSelfTests tests s).pin = s.pin ∧
    (bootSelfTests tests s).seam = s.seam ∧
    (bootSelfTests tests s).bak = s.bak ∧
    (bootSelfTests tests s).proof = s.proof := by
  unfold bootSelfTests; (try dsimp only); repeat' split
  all_goals (refine ⟨?_, ?_, ?_, ?_, ?_, ?_, ?_, ?_, ?_, ?_, ?_, ?_, ?_, ?_, ?_, ?_, ?_, ?_, ?_, ?_, ?_, ?_, ?_, ?_⟩ <;> simp)

@[simp] theorem checkFail_frame (area : Nat) (s : State) :
    (checkFail area s).pending = s.pending ∧
    (checkFail area s).now = s.now ∧
    (checkFail area s).free = s.free ∧
    (checkFail area s).power = s.power ∧
    (checkFail area s).host = s.host ∧
    (checkFail area s).lat = s.lat ∧
    (checkFail area s).win = s.win ∧
    (checkFail area s).cfg = s.cfg ∧
    (checkFail area s).boot = s.boot ∧
    (checkFail area s).otp = s.otp ∧
    (checkFail area s).src = s.src ∧
    (checkFail area s).paceFrac = s.paceFrac ∧
    (checkFail area s).mains = s.mains ∧
    (checkFail area s).stitch = s.stitch ∧
    (checkFail area s).axes = s.axes ∧
    (checkFail area s).chan = s.chan ∧
    (checkFail area s).supply = s.supply ∧
    (checkFail area s).sto = s.sto ∧
    (checkFail area s).spread = s.spread ∧
    (checkFail area s).supv = s.supv ∧
    (checkFail area s).pin = s.pin ∧
    (checkFail area s).seam = s.seam ∧
    (checkFail area s).bak = s.bak ∧
    (checkFail area s).proof = s.proof := by
  unfold checkFail; (try dsimp only); repeat' split
  all_goals (refine ⟨?_, ?_, ?_, ?_, ?_, ?_, ?_, ?_, ?_, ?_, ?_, ?_, ?_, ?_, ?_, ?_, ?_, ?_, ?_, ?_, ?_, ?_, ?_, ?_⟩ <;> simp)

@[simp] theorem bootBanks_frame (s : State) :
    (bootBanks s).pending = s.pending ∧
    (bootBanks s).now = s.now ∧
    (bootBanks s).free = s.free ∧
    (bootBanks s).power = s.power ∧
    (bootBanks s).host = s.host ∧
    (bootBanks s).lat = s.lat ∧
    (bootBanks s).win = s.win ∧
    (bootBanks s).cfg = s.cfg ∧
    (bootBanks s).boot = s.boot ∧
    (bootBanks s).otp = s.otp ∧
    (bootBanks s).src = s.src ∧
    (bootBanks s).paceFrac = s.paceFrac ∧
    (bootBanks s).mains = s.mains ∧
    (bootBanks s).stitch = s.stitch ∧
    (bootBanks s).axes = s.axes ∧
    (bootBanks s).chan = s.chan ∧
    (bootBanks s).supply = s.supply ∧
    (bootBanks s).sto = s.sto ∧
    (bootBanks s).spread = s.spread ∧
    (bootBanks s).supv = s.supv ∧
    (bootBanks s).pin = s.pin ∧
    (bootBanks s).seam = s.seam ∧
    (bootBanks s).bak = s.bak ∧
    (bootBanks s).proof = s.proof := by
  unfold bootBanks; (try dsimp only); repeat' split
  all_goals (refine ⟨?_, ?_, ?_, ?_, ?_, ?_, ?_, ?_, ?_, ?_, ?_, ?_, ?_, ?_, ?_, ?_, ?_, ?_, ?_, ?_, ?_, ?_, ?_, ?_⟩ <;> simp)

@[simp] theorem bootRecord_frame (s : State) :
    (bootRecord s).pending = s.pending ∧
    (bootRecord s).now = s.now ∧
    (bootRecord s).free = s.free ∧
    (bootRecord s).power = s.power ∧
    (bootRecord s).host = s.host ∧
    (bootRecord s).lat = s.lat ∧
    (bootRecord s).win = s.win ∧
    (bootRecord s).boot = s.boot ∧
    (bootRecord s).otp = s.otp ∧
    (bootRecord s).src = s.src ∧
    (bootRecord s).paceFrac = s.paceFrac ∧
    (bootRecord s).mains = s.mains ∧
    (bootRecord s).stitch = s.stitch ∧
    (bootRecord s).axes = s.axes ∧
    (bootRecord s).chan = s.chan ∧
    (bootRecord s).supply = s.supply ∧
    (bootRecord s).sto = s.sto ∧
    (bootRecord s).spread = s.spread ∧
    (bootRecord s).supv = s.supv ∧
    (bootRecord s).fb = s.fb ∧
    (bootRecord s).pin = s.pin ∧
    (bootRecord s).seam = s.seam ∧
    (bootRecord s).flt = s.flt ∧
    (bootRecord s).store = s.store ∧
    (bootRecord s).bak = s.bak ∧
    (bootRecord s).proof = s.proof := by
  unfold bootRecord; (try dsimp only); repeat' split
  all_goals (refine ⟨?_, ?_, ?_, ?_, ?_, ?_, ?_, ?_, ?_, ?_, ?_, ?_, ?_, ?_, ?_, ?_, ?_, ?_, ?_, ?_, ?_, ?_, ?_, ?_, ?_, ?_⟩ <;> simp)

@[simp] theorem bootCounters_frame (env : StoreEnv) (s : State) :
    (bootCounters env s).pending = s.pending ∧
    (bootCounters env s).now = s.now ∧
    (bootCounters env s).power = s.power ∧
    (bootCounters env s).host = s.host ∧
    (bootCounters env s).lat = s.lat ∧
    (bootCounters env s).win = s.win ∧
    (bootCounters env s).cfg = s.cfg ∧
    (bootCounters env s).otp = s.otp ∧
    (bootCounters env s).src = s.src ∧
    (bootCounters env s).paceFrac = s.paceFrac ∧
    (bootCounters env s).mains = s.mains ∧
    (bootCounters env s).stitch = s.stitch ∧
    (bootCounters env s).axes = s.axes ∧
    (bootCounters env s).chan = s.chan ∧
    (bootCounters env s).supply = s.supply ∧
    (bootCounters env s).sto = s.sto ∧
    (bootCounters env s).spread = s.spread ∧
    (bootCounters env s).supv = s.supv ∧
    (bootCounters env s).pin = s.pin ∧
    (bootCounters env s).seam = s.seam ∧
    (bootCounters env s).bak = s.bak ∧
    (bootCounters env s).proof = s.proof := by
  unfold bootCounters; (try dsimp only); repeat' split
  all_goals (refine ⟨?_, ?_, ?_, ?_, ?_, ?_, ?_, ?_, ?_, ?_, ?_, ?_, ?_, ?_, ?_, ?_, ?_, ?_, ?_, ?_, ?_, ?_⟩ <;> simp)

@[simp] theorem findTop_frame (s : State) :
    (findTop s).pending = s.pending ∧
    (findTop s).now = s.now ∧
    (findTop s).free = s.free ∧
    (findTop s).power = s.power ∧
    (findTop s).host = s.host ∧
    (findTop s).lat = s.lat ∧
    (findTop s).win = s.win ∧
    (findTop s).cfg = s.cfg ∧
    (findTop s).boot = s.boot ∧
    (findTop s).otp = s.otp ∧
    (findTop s).src = s.src ∧
    (findTop s).paceFrac = s.paceFrac ∧
    (findTop s).mains = s.mains ∧
    (findTop s).stitch = s.stitch ∧
    (findTop s).axes = s.axes ∧
    (findTop s).chan = s.chan ∧
    (findTop s).supply = s.supply ∧
    (findTop s).sto = s.sto ∧
    (findTop s).spread = s.spread ∧
    (findTop s).supv = s.supv ∧
    (findTop s).fb = s.fb ∧
    (findTop s).cnv = s.cnv ∧
    (findTop s).pin = s.pin ∧
    (findTop s).seam = s.seam ∧
    (findTop s).store = s.store ∧
    (findTop s).bak = s.bak ∧
    (findTop s).proof = s.proof := by
  unfold findTop; (try dsimp only); repeat' split
  all_goals (refine ⟨?_, ?_, ?_, ?_, ?_, ?_, ?_, ?_, ?_, ?_, ?_, ?_, ?_, ?_, ?_, ?_, ?_, ?_, ?_, ?_, ?_, ?_, ?_, ?_, ?_, ?_, ?_⟩ <;> simp)

@[simp] theorem bootLog_frame (s : State) :
    (bootLog s).pending = s.pending ∧
    (bootLog s).now = s.now ∧
    (bootLog s).free = s.free ∧
    (bootLog s).power = s.power ∧
    (bootLog s).host = s.host ∧
    (bootLog s).lat = s.lat ∧
    (bootLog s).win = s.win ∧
    (bootLog s).cfg = s.cfg ∧
    (bootLog s).boot = s.boot ∧
    (bootLog s).otp = s.otp ∧
    (bootLog s).src = s.src ∧
    (bootLog s).paceFrac = s.paceFrac ∧
    (bootLog s).mains = s.mains ∧
    (bootLog s).stitch = s.stitch ∧
    (bootLog s).axes = s.axes ∧
    (bootLog s).chan = s.chan ∧
    (bootLog s).supply = s.supply ∧
    (bootLog s).sto = s.sto ∧
    (bootLog s).spread = s.spread ∧
    (bootLog s).supv = s.supv ∧
    (bootLog s).pin = s.pin ∧
    (bootLog s).seam = s.seam ∧
    (bootLog s).bak = s.bak ∧
    (bootLog s).proof = s.proof := by
  unfold bootLog; (try dsimp only); repeat' split
  all_goals (refine ⟨?_, ?_, ?_, ?_, ?_, ?_, ?_, ?_, ?_, ?_, ?_, ?_, ?_, ?_, ?_, ?_, ?_, ?_, ?_, ?_, ?_, ?_, ?_, ?_⟩ <;> simp)

@[simp] theorem clearBlock_frame (b : Nat) (s : State) :
    (clearBlock b s).pending = s.pending ∧
    (clearBlock b s).now = s.now ∧
    (clearBlock b s).free = s.free ∧
    (clearBlock b s).power = s.power ∧
    (clearBlock b s).host = s.host ∧
    (clearBlock b s).lat = s.lat ∧
    (clearBlock b s).win = s.win ∧
    (clearBlock b s).cfg = s.cfg ∧
    (clearBlock b s).boot = s.boot ∧
    (clearBlock b s).otp = s.otp ∧
    (clearBlock b s).src = s.src ∧
    (clearBlock b s).paceFrac = s.paceFrac ∧
    (clearBlock b s).mains = s.mains ∧
    (clearBlock b s).stitch = s.stitch ∧
    (clearBlock b s).axes = s.axes ∧
    (clearBlock b s).chan = s.chan ∧
    (clearBlock b s).supply = s.supply ∧
    (clearBlock b s).sto = s.sto ∧
    (clearBlock b s).spread = s.spread ∧
    (clearBlock b s).supv = s.supv ∧
    (clearBlock b s).fb = s.fb ∧
    (clearBlock b s).cnv = s.cnv ∧
    (clearBlock b s).pin = s.pin ∧
    (clearBlock b s).seam = s.seam ∧
    (clearBlock b s).flt = s.flt ∧
    (clearBlock b s).bak = s.bak ∧
    (clearBlock b s).proof = s.proof := by
  unfold clearBlock; (try dsimp only); repeat' split
  all_goals (refine ⟨?_, ?_, ?_, ?_, ?_, ?_, ?_, ?_, ?_, ?_, ?_, ?_, ?_, ?_, ?_, ?_, ?_, ?_, ?_, ?_, ?_, ?_, ?_, ?_, ?_, ?_, ?_⟩ <;> simp)

@[simp] theorem spoilBlock_frame (b : Nat) (s : State) :
    (spoilBlock b s).pending = s.pending ∧
    (spoilBlock b s).now = s.now ∧
    (spoilBlock b s).power = s.power ∧
    (spoilBlock b s).host = s.host ∧
    (spoilBlock b s).lat = s.lat ∧
    (spoilBlock b s).win = s.win ∧
    (spoilBlock b s).cfg = s.cfg ∧
    (spoilBlock b s).boot = s.boot ∧
    (spoilBlock b s).otp = s.otp ∧
    (spoilBlock b s).src = s.src ∧
    (spoilBlock b s).paceFrac = s.paceFrac ∧
    (spoilBlock b s).mains = s.mains ∧
    (spoilBlock b s).stitch = s.stitch ∧
    (spoilBlock b s).axes = s.axes ∧
    (spoilBlock b s).chan = s.chan ∧
    (spoilBlock b s).supply = s.supply ∧
    (spoilBlock b s).sto = s.sto ∧
    (spoilBlock b s).spread = s.spread ∧
    (spoilBlock b s).supv = s.supv ∧
    (spoilBlock b s).pin = s.pin ∧
    (spoilBlock b s).seam = s.seam ∧
    (spoilBlock b s).bak = s.bak ∧
    (spoilBlock b s).proof = s.proof := by
  unfold spoilBlock; (try dsimp only); repeat' split
  all_goals (refine ⟨?_, ?_, ?_, ?_, ?_, ?_, ?_, ?_, ?_, ?_, ?_, ?_, ?_, ?_, ?_, ?_, ?_, ?_, ?_, ?_, ?_, ?_, ?_⟩ <;> simp)

@[simp] theorem eraseBlocks_frame (env : StoreEnv) (s : State) :
    (eraseBlocks env s).pending = s.pending ∧
    (eraseBlocks env s).now = s.now ∧
    (eraseBlocks env s).power = s.power ∧
    (eraseBlocks env s).host = s.host ∧
    (eraseBlocks env s).lat = s.lat ∧
    (eraseBlocks env s).win = s.win ∧
    (eraseBlocks env s).cfg = s.cfg ∧
    (eraseBlocks env s).boot = s.boot ∧
    (eraseBlocks env s).otp = s.otp ∧
    (eraseBlocks env s).src = s.src ∧
    (eraseBlocks env s).paceFrac = s.paceFrac ∧
    (eraseBlocks env s).mains = s.mains ∧
    (eraseBlocks env s).stitch = s.stitch ∧
    (eraseBlocks env s).axes = s.axes ∧
    (eraseBlocks env s).chan = s.chan ∧
    (eraseBlocks env s).supply = s.supply ∧
    (eraseBlocks env s).sto = s.sto ∧
    (eraseBlocks env s).spread = s.spread ∧
    (eraseBlocks env s).supv = s.supv ∧
    (eraseBlocks env s).pin = s.pin ∧
    (eraseBlocks env s).seam = s.seam ∧
    (eraseBlocks env s).bak = s.bak ∧
    (eraseBlocks env s).proof = s.proof := by
  unfold eraseBlocks; (try dsimp only); repeat' split
  all_goals (refine ⟨?_, ?_, ?_, ?_, ?_, ?_, ?_, ?_, ?_, ?_, ?_, ?_, ?_, ?_, ?_, ?_, ?_, ?_, ?_, ?_, ?_, ?_, ?_⟩ <;> simp)

@[simp] theorem bootErase_frame (env : StoreEnv) (s : State) :
    (bootErase env s).pending = s.pending ∧
    (bootErase env s).now = s.now ∧
    (bootErase env s).power = s.power ∧
    (bootErase env s).host = s.host ∧
    (bootErase env s).lat = s.lat ∧
    (bootErase env s).win = s.win ∧
    (bootErase env s).cfg = s.cfg ∧
    (bootErase env s).boot = s.boot ∧
    (bootErase env s).otp = s.otp ∧
    (bootErase env s).src = s.src ∧
    (bootErase env s).paceFrac = s.paceFrac ∧
    (bootErase env s).mains = s.mains ∧
    (bootErase env s).stitch = s.stitch ∧
    (bootErase env s).axes = s.axes ∧
    (bootErase env s).chan = s.chan ∧
    (bootErase env s).supply = s.supply ∧
    (bootErase env s).sto = s.sto ∧
    (bootErase env s).spread = s.spread ∧
    (bootErase env s).supv = s.supv ∧
    (bootErase env s).pin = s.pin ∧
    (bootErase env s).seam = s.seam ∧
    (bootErase env s).bak = s.bak ∧
    (bootErase env s).proof = s.proof := by
  unfold bootErase; (try dsimp only); repeat' split
  all_goals (refine ⟨?_, ?_, ?_, ?_, ?_, ?_, ?_, ?_, ?_, ?_, ?_, ?_, ?_, ?_, ?_, ?_, ?_, ?_, ?_, ?_, ?_, ?_, ?_⟩ <;> simp)

@[simp] theorem bootAlarms_frame (s : State) :
    (bootAlarms s).pending = s.pending ∧
    (bootAlarms s).now = s.now ∧
    (bootAlarms s).free = s.free ∧
    (bootAlarms s).power = s.power ∧
    (bootAlarms s).host = s.host ∧
    (bootAlarms s).lat = s.lat ∧
    (bootAlarms s).win = s.win ∧
    (bootAlarms s).cfg = s.cfg ∧
    (bootAlarms s).boot = s.boot ∧
    (bootAlarms s).otp = s.otp ∧
    (bootAlarms s).src = s.src ∧
    (bootAlarms s).paceFrac = s.paceFrac ∧
    (bootAlarms s).mains = s.mains ∧
    (bootAlarms s).stitch = s.stitch ∧
    (bootAlarms s).axes = s.axes ∧
    (bootAlarms s).chan = s.chan ∧
    (bootAlarms s).supply = s.supply ∧
    (bootAlarms s).sto = s.sto ∧
    (bootAlarms s).spread = s.spread ∧
    (bootAlarms s).supv = s.supv ∧
    (bootAlarms s).fb = s.fb ∧
    (bootAlarms s).cnv = s.cnv ∧
    (bootAlarms s).pin = s.pin ∧
    (bootAlarms s).seam = s.seam ∧
    (bootAlarms s).store = s.store ∧
    (bootAlarms s).proof = s.proof := by
  unfold bootAlarms; (try dsimp only); repeat' split
  all_goals (refine ⟨?_, ?_, ?_, ?_, ?_, ?_, ?_, ?_, ?_, ?_, ?_, ?_, ?_, ?_, ?_, ?_, ?_, ?_, ?_, ?_, ?_, ?_, ?_, ?_, ?_, ?_⟩ <;> simp)

@[simp] theorem drainLog_frame (env : StoreEnv) (n k : Nat) (s : State) :
    (drainLog env n k s).pending = s.pending ∧
    (drainLog env n k s).now = s.now ∧
    (drainLog env n k s).power = s.power ∧
    (drainLog env n k s).host = s.host ∧
    (drainLog env n k s).lat = s.lat ∧
    (drainLog env n k s).win = s.win ∧
    (drainLog env n k s).cfg = s.cfg ∧
    (drainLog env n k s).boot = s.boot ∧
    (drainLog env n k s).otp = s.otp ∧
    (drainLog env n k s).src = s.src ∧
    (drainLog env n k s).paceFrac = s.paceFrac ∧
    (drainLog env n k s).mains = s.mains ∧
    (drainLog env n k s).stitch = s.stitch ∧
    (drainLog env n k s).axes = s.axes ∧
    (drainLog env n k s).chan = s.chan ∧
    (drainLog env n k s).supply = s.supply ∧
    (drainLog env n k s).sto = s.sto ∧
    (drainLog env n k s).spread = s.spread ∧
    (drainLog env n k s).supv = s.supv ∧
    (drainLog env n k s).pin = s.pin ∧
    (drainLog env n k s).seam = s.seam ∧
    (drainLog env n k s).bak = s.bak := by
  induction n generalizing k s with
  | zero => simp [drainLog]
  | succ n ih => simp [drainLog, ih]

@[simp] theorem bootStore_frame (env : StoreEnv) (s : State) :
    (bootStore env s).pending = s.pending ∧
    (bootStore env s).now = s.now ∧
    (bootStore env s).power = s.power ∧
    (bootStore env s).host = s.host ∧
    (bootStore env s).lat = s.lat ∧
    (bootStore env s).win = s.win ∧
    (bootStore env s).otp = s.otp ∧
    (bootStore env s).src = s.src ∧
    (bootStore env s).paceFrac = s.paceFrac ∧
    (bootStore env s).mains = s.mains ∧
    (bootStore env s).stitch = s.stitch ∧
    (bootStore env s).axes = s.axes ∧
    (bootStore env s).chan = s.chan ∧
    (bootStore env s).supply = s.supply ∧
    (bootStore env s).sto = s.sto ∧
    (bootStore env s).spread = s.spread ∧
    (bootStore env s).supv = s.supv ∧
    (bootStore env s).pin = s.pin ∧
    (bootStore env s).seam = s.seam := by
  unfold bootStore; (try dsimp only); repeat' split
  all_goals (refine ⟨?_, ?_, ?_, ?_, ?_, ?_, ?_, ?_, ?_, ?_, ?_, ?_, ?_, ?_, ?_, ?_, ?_, ?_, ?_⟩ <;> simp)

@[simp] theorem bootReason_frame (s : State) :
    (bootReason s).pending = s.pending ∧
    (bootReason s).now = s.now ∧
    (bootReason s).free = s.free ∧
    (bootReason s).host = s.host ∧
    (bootReason s).lat = s.lat ∧
    (bootReason s).win = s.win ∧
    (bootReason s).cfg = s.cfg ∧
    (bootReason s).boot = s.boot ∧
    (bootReason s).otp = s.otp ∧
    (bootReason s).src = s.src ∧
    (bootReason s).paceFrac = s.paceFrac ∧
    (bootReason s).mains = s.mains ∧
    (bootReason s).stitch = s.stitch ∧
    (bootReason s).axes = s.axes ∧
    (bootReason s).chan = s.chan ∧
    (bootReason s).supply = s.supply ∧
    (bootReason s).sto = s.sto ∧
    (bootReason s).spread = s.spread ∧
    (bootReason s).fb = s.fb ∧
    (bootReason s).cnv = s.cnv ∧
    (bootReason s).pin = s.pin ∧
    (bootReason s).seam = s.seam ∧
    (bootReason s).store = s.store ∧
    (bootReason s).bak = s.bak ∧
    (bootReason s).proof = s.proof := by
  unfold bootReason; (try dsimp only); repeat' split
  all_goals (refine ⟨?_, ?_, ?_, ?_, ?_, ?_, ?_, ?_, ?_, ?_, ?_, ?_, ?_, ?_, ?_, ?_, ?_, ?_, ?_, ?_, ?_, ?_, ?_, ?_, ?_⟩ <;> simp)

@[simp] theorem closeGate_frame (s : State) :
    (closeGate s).pending = s.pending ∧
    (closeGate s).now = s.now ∧
    (closeGate s).free = s.free ∧
    (closeGate s).lat = s.lat ∧
    (closeGate s).win = s.win ∧
    (closeGate s).otp = s.otp ∧
    (closeGate s).paceFrac = s.paceFrac ∧
    (closeGate s).mains = s.mains ∧
    (closeGate s).stitch = s.stitch ∧
    (closeGate s).chan = s.chan ∧
    (closeGate s).supply = s.supply ∧
    (closeGate s).sto = s.sto ∧
    (closeGate s).spread = s.spread ∧
    (closeGate s).supv = s.supv ∧
    (closeGate s).pin = s.pin ∧
    (closeGate s).seam = s.seam ∧
    (closeGate s).proof = s.proof := by
  unfold closeGate; (try dsimp only); repeat' split
  all_goals (refine ⟨?_, ?_, ?_, ?_, ?_, ?_, ?_, ?_, ?_, ?_, ?_, ?_, ?_, ?_, ?_, ?_, ?_⟩ <;> simp)

@[simp] theorem bootBegin_frame (s : State) :
    (bootBegin s).pending = s.pending ∧
    (bootBegin s).now = s.now ∧
    (bootBegin s).free = s.free ∧
    (bootBegin s).host = s.host ∧
    (bootBegin s).lat = s.lat ∧
    (bootBegin s).win = s.win ∧
    (bootBegin s).cfg = s.cfg ∧
    (bootBegin s).otp = s.otp ∧
    (bootBegin s).src = s.src ∧
    (bootBegin s).paceFrac = s.paceFrac ∧
    (bootBegin s).mains = s.mains ∧
    (bootBegin s).stitch = s.stitch ∧
    (bootBegin s).axes = s.axes ∧
    (bootBegin s).chan = s.chan ∧
    (bootBegin s).supply = s.supply ∧
    (bootBegin s).sto = s.sto ∧
    (bootBegin s).spread = s.spread ∧
    (bootBegin s).fb = s.fb ∧
    (bootBegin s).cnv = s.cnv ∧
    (bootBegin s).pin = s.pin ∧
    (bootBegin s).seam = s.seam ∧
    (bootBegin s).store = s.store ∧
    (bootBegin s).bak = s.bak ∧
    (bootBegin s).proof = s.proof := by
  unfold bootBegin; (try dsimp only); repeat' split
  all_goals (refine ⟨?_, ?_, ?_, ?_, ?_, ?_, ?_, ?_, ?_, ?_, ?_, ?_, ?_, ?_, ?_, ?_, ?_, ?_, ?_, ?_, ?_, ?_, ?_, ?_⟩ <;> simp)

/-! ### Inspection -/

@[simp] theorem modProof_frame (f : Proof → Proof) (s : State) :
    (modProof f s).pending = s.pending ∧
    (modProof f s).now = s.now ∧
    (modProof f s).free = s.free ∧
    (modProof f s).power = s.power ∧
    (modProof f s).host = s.host ∧
    (modProof f s).lat = s.lat ∧
    (modProof f s).win = s.win ∧
    (modProof f s).cfg = s.cfg ∧
    (modProof f s).boot = s.boot ∧
    (modProof f s).otp = s.otp ∧
    (modProof f s).src = s.src ∧
    (modProof f s).paceFrac = s.paceFrac ∧
    (modProof f s).mains = s.mains ∧
    (modProof f s).stitch = s.stitch ∧
    (modProof f s).axes = s.axes ∧
    (modProof f s).chan = s.chan ∧
    (modProof f s).supply = s.supply ∧
    (modProof f s).sto = s.sto ∧
    (modProof f s).spread = s.spread ∧
    (modProof f s).supv = s.supv ∧
    (modProof f s).fb = s.fb ∧
    (modProof f s).cnv = s.cnv ∧
    (modProof f s).pin = s.pin ∧
    (modProof f s).seam = s.seam ∧
    (modProof f s).flt = s.flt ∧
    (modProof f s).store = s.store ∧
    (modProof f s).bak = s.bak := by
  unfold modProof; (try dsimp only); repeat' split
  all_goals (refine ⟨?_, ?_, ?_, ?_, ?_, ?_, ?_, ?_, ?_, ?_, ?_, ?_, ?_, ?_, ?_, ?_, ?_, ?_, ?_, ?_, ?_, ?_, ?_, ?_, ?_, ?_, ?_⟩ <;> simp)

@[simp] theorem proofRequest_frame (d : Word) (s : State) :
    (proofRequest d s).pending = s.pending ∧
    (proofRequest d s).now = s.now ∧
    (proofRequest d s).free = s.free ∧
    (proofRequest d s).power = s.power ∧
    (proofRequest d s).host = s.host ∧
    (proofRequest d s).lat = s.lat ∧
    (proofRequest d s).win = s.win ∧
    (proofRequest d s).cfg = s.cfg ∧
    (proofRequest d s).boot = s.boot ∧
    (proofRequest d s).otp = s.otp ∧
    (proofRequest d s).src = s.src ∧
    (proofRequest d s).paceFrac = s.paceFrac ∧
    (proofRequest d s).mains = s.mains ∧
    (proofRequest d s).stitch = s.stitch ∧
    (proofRequest d s).chan = s.chan ∧
    (proofRequest d s).supply = s.supply ∧
    (proofRequest d s).sto = s.sto ∧
    (proofRequest d s).spread = s.spread ∧
    (proofRequest d s).supv = s.supv ∧
    (proofRequest d s).pin = s.pin ∧
    (proofRequest d s).seam = s.seam ∧
    (proofRequest d s).bak = s.bak := by
  unfold proofRequest; (try dsimp only); repeat' split
  all_goals (refine ⟨?_, ?_, ?_, ?_, ?_, ?_, ?_, ?_, ?_, ?_, ?_, ?_, ?_, ?_, ?_, ?_, ?_, ?_, ?_, ?_, ?_, ?_⟩ <;> simp)

@[simp] theorem proofEnd_frame (outcome : BitVec 2) (s : State) :
    (proofEnd outcome s).pending = s.pending ∧
    (proofEnd outcome s).now = s.now ∧
    (proofEnd outcome s).free = s.free ∧
    (proofEnd outcome s).power = s.power ∧
    (proofEnd outcome s).host = s.host ∧
    (proofEnd outcome s).lat = s.lat ∧
    (proofEnd outcome s).win = s.win ∧
    (proofEnd outcome s).cfg = s.cfg ∧
    (proofEnd outcome s).boot = s.boot ∧
    (proofEnd outcome s).otp = s.otp ∧
    (proofEnd outcome s).src = s.src ∧
    (proofEnd outcome s).paceFrac = s.paceFrac ∧
    (proofEnd outcome s).mains = s.mains ∧
    (proofEnd outcome s).stitch = s.stitch ∧
    (proofEnd outcome s).axes = s.axes ∧
    (proofEnd outcome s).chan = s.chan ∧
    (proofEnd outcome s).supply = s.supply ∧
    (proofEnd outcome s).sto = s.sto ∧
    (proofEnd outcome s).spread = s.spread ∧
    (proofEnd outcome s).supv = s.supv ∧
    (proofEnd outcome s).fb = s.fb ∧
    (proofEnd outcome s).cnv = s.cnv ∧
    (proofEnd outcome s).pin = s.pin ∧
    (proofEnd outcome s).seam = s.seam ∧
    (proofEnd outcome s).store = s.store ∧
    (proofEnd outcome s).bak = s.bak := by
  unfold proofEnd; (try dsimp only); repeat' split
  all_goals (refine ⟨?_, ?_, ?_, ?_, ?_, ?_, ?_, ?_, ?_, ?_, ?_, ?_, ?_, ?_, ?_, ?_, ?_, ?_, ?_, ?_, ?_, ?_, ?_, ?_, ?_, ?_⟩ <;> simp)

@[simp] theorem proofUnitPhaseEnd_frame (s : State) :
    (proofUnitPhaseEnd s).pending = s.pending ∧
    (proofUnitPhaseEnd s).now = s.now ∧
    (proofUnitPhaseEnd s).free = s.free ∧
    (proofUnitPhaseEnd s).power = s.power ∧
    (proofUnitPhaseEnd s).host = s.host ∧
    (proofUnitPhaseEnd s).lat = s.lat ∧
    (proofUnitPhaseEnd s).win = s.win ∧
    (proofUnitPhaseEnd s).cfg = s.cfg ∧
    (proofUnitPhaseEnd s).boot = s.boot ∧
    (proofUnitPhaseEnd s).otp = s.otp ∧
    (proofUnitPhaseEnd s).src = s.src ∧
    (proofUnitPhaseEnd s).paceFrac = s.paceFrac ∧
    (proofUnitPhaseEnd s).mains = s.mains ∧
    (proofUnitPhaseEnd s).stitch = s.stitch ∧
    (proofUnitPhaseEnd s).axes = s.axes ∧
    (proofUnitPhaseEnd s).chan = s.chan ∧
    (proofUnitPhaseEnd s).supply = s.supply ∧
    (proofUnitPhaseEnd s).sto = s.sto ∧
    (proofUnitPhaseEnd s).spread = s.spread ∧
    (proofUnitPhaseEnd s).supv = s.supv ∧
    (proofUnitPhaseEnd s).fb = s.fb ∧
    (proofUnitPhaseEnd s).cnv = s.cnv ∧
    (proofUnitPhaseEnd s).pin = s.pin ∧
    (proofUnitPhaseEnd s).seam = s.seam ∧
    (proofUnitPhaseEnd s).store = s.store ∧
    (proofUnitPhaseEnd s).bak = s.bak := by
  unfold proofUnitPhaseEnd; (try dsimp only); repeat' split
  all_goals (refine ⟨?_, ?_, ?_, ?_, ?_, ?_, ?_, ?_, ?_, ?_, ?_, ?_, ?_, ?_, ?_, ?_, ?_, ?_, ?_, ?_, ?_, ?_, ?_, ?_, ?_, ?_⟩ <;> simp)

@[simp] theorem proofStoSample_frame (s : State) :
    (proofStoSample s).pending = s.pending ∧
    (proofStoSample s).now = s.now ∧
    (proofStoSample s).free = s.free ∧
    (proofStoSample s).power = s.power ∧
    (proofStoSample s).host = s.host ∧
    (proofStoSample s).lat = s.lat ∧
    (proofStoSample s).win = s.win ∧
    (proofStoSample s).cfg = s.cfg ∧
    (proofStoSample s).boot = s.boot ∧
    (proofStoSample s).otp = s.otp ∧
    (proofStoSample s).src = s.src ∧
    (proofStoSample s).paceFrac = s.paceFrac ∧
    (proofStoSample s).mains = s.mains ∧
    (proofStoSample s).stitch = s.stitch ∧
    (proofStoSample s).axes = s.axes ∧
    (proofStoSample s).chan = s.chan ∧
    (proofStoSample s).supply = s.supply ∧
    (proofStoSample s).sto = s.sto ∧
    (proofStoSample s).spread = s.spread ∧
    (proofStoSample s).supv = s.supv ∧
    (proofStoSample s).fb = s.fb ∧
    (proofStoSample s).cnv = s.cnv ∧
    (proofStoSample s).pin = s.pin ∧
    (proofStoSample s).seam = s.seam ∧
    (proofStoSample s).store = s.store ∧
    (proofStoSample s).bak = s.bak := by
  unfold proofStoSample; (try dsimp only); repeat' split
  all_goals (refine ⟨?_, ?_, ?_, ?_, ?_, ?_, ?_, ?_, ?_, ?_, ?_, ?_, ?_, ?_, ?_, ?_, ?_, ?_, ?_, ?_, ?_, ?_, ?_, ?_, ?_, ?_⟩ <;> simp)

@[simp] theorem proofStoTimeout_frame (s : State) :
    (proofStoTimeout s).pending = s.pending ∧
    (proofStoTimeout s).now = s.now ∧
    (proofStoTimeout s).free = s.free ∧
    (proofStoTimeout s).power = s.power ∧
    (proofStoTimeout s).host = s.host ∧
    (proofStoTimeout s).lat = s.lat ∧
    (proofStoTimeout s).win = s.win ∧
    (proofStoTimeout s).cfg = s.cfg ∧
    (proofStoTimeout s).boot = s.boot ∧
    (proofStoTimeout s).otp = s.otp ∧
    (proofStoTimeout s).src = s.src ∧
    (proofStoTimeout s).paceFrac = s.paceFrac ∧
    (proofStoTimeout s).mains = s.mains ∧
    (proofStoTimeout s).stitch = s.stitch ∧
    (proofStoTimeout s).axes = s.axes ∧
    (proofStoTimeout s).chan = s.chan ∧
    (proofStoTimeout s).supply = s.supply ∧
    (proofStoTimeout s).sto = s.sto ∧
    (proofStoTimeout s).spread = s.spread ∧
    (proofStoTimeout s).supv = s.supv ∧
    (proofStoTimeout s).fb = s.fb ∧
    (proofStoTimeout s).cnv = s.cnv ∧
    (proofStoTimeout s).pin = s.pin ∧
    (proofStoTimeout s).seam = s.seam ∧
    (proofStoTimeout s).store = s.store ∧
    (proofStoTimeout s).bak = s.bak := by
  unfold proofStoTimeout; (try dsimp only); repeat' split
  all_goals (refine ⟨?_, ?_, ?_, ?_, ?_, ?_, ?_, ?_, ?_, ?_, ?_, ?_, ?_, ?_, ?_, ?_, ?_, ?_, ?_, ?_, ?_, ?_, ?_, ?_, ?_, ?_⟩ <;> simp)

@[simp] theorem inspectionMark_frame (tag : Word) (s : State) :
    (inspectionMark tag s).pending = s.pending ∧
    (inspectionMark tag s).now = s.now ∧
    (inspectionMark tag s).free = s.free ∧
    (inspectionMark tag s).power = s.power ∧
    (inspectionMark tag s).host = s.host ∧
    (inspectionMark tag s).lat = s.lat ∧
    (inspectionMark tag s).win = s.win ∧
    (inspectionMark tag s).cfg = s.cfg ∧
    (inspectionMark tag s).boot = s.boot ∧
    (inspectionMark tag s).otp = s.otp ∧
    (inspectionMark tag s).src = s.src ∧
    (inspectionMark tag s).paceFrac = s.paceFrac ∧
    (inspectionMark tag s).mains = s.mains ∧
    (inspectionMark tag s).stitch = s.stitch ∧
    (inspectionMark tag s).axes = s.axes ∧
    (inspectionMark tag s).chan = s.chan ∧
    (inspectionMark tag s).supply = s.supply ∧
    (inspectionMark tag s).sto = s.sto ∧
    (inspectionMark tag s).spread = s.spread ∧
    (inspectionMark tag s).supv = s.supv ∧
    (inspectionMark tag s).fb = s.fb ∧
    (inspectionMark tag s).cnv = s.cnv ∧
    (inspectionMark tag s).pin = s.pin ∧
    (inspectionMark tag s).seam = s.seam ∧
    (inspectionMark tag s).store = s.store ∧
    (inspectionMark tag s).bak = s.bak ∧
    (inspectionMark tag s).proof = s.proof := by
  unfold inspectionMark; (try dsimp only); repeat' split
  all_goals (refine ⟨?_, ?_, ?_, ?_, ?_, ?_, ?_, ?_, ?_, ?_, ?_, ?_, ?_, ?_, ?_, ?_, ?_, ?_, ?_, ?_, ?_, ?_, ?_, ?_, ?_, ?_, ?_⟩ <;> simp)

/-! ### SeamTree -/

@[simp] theorem freeTime_frame (s : State) :
    (freeTime s).pending = s.pending ∧
    (freeTime s).now = s.now ∧
    (freeTime s).free = s.free ∧
    (freeTime s).power = s.power ∧
    (freeTime s).host = s.host ∧
    (freeTime s).lat = s.lat ∧
    (freeTime s).win = s.win ∧
    (freeTime s).cfg = s.cfg ∧
    (freeTime s).boot = s.boot ∧
    (freeTime s).otp = s.otp ∧
    (freeTime s).src = s.src ∧
    (freeTime s).paceFrac = s.paceFrac ∧
    (freeTime s).mains = s.mains ∧
    (freeTime s).stitch = s.stitch ∧
    (freeTime s).axes = s.axes ∧
    (freeTime s).chan = s.chan ∧
    (freeTime s).supply = s.supply ∧
    (freeTime s).sto = s.sto ∧
    (freeTime s).spread = s.spread ∧
    (freeTime s).supv = s.supv ∧
    (freeTime s).fb = s.fb ∧
    (freeTime s).cnv = s.cnv ∧
    (freeTime s).pin = s.pin ∧
    (freeTime s).flt = s.flt ∧
    (freeTime s).store = s.store ∧
    (freeTime s).bak = s.bak ∧
    (freeTime s).proof = s.proof := by
  unfold freeTime; (try dsimp only); repeat' split
  all_goals (refine ⟨?_, ?_, ?_, ?_, ?_, ?_, ?_, ?_, ?_, ?_, ?_, ?_, ?_, ?_, ?_, ?_, ?_, ?_, ?_, ?_, ?_, ?_, ?_, ?_, ?_, ?_, ?_⟩ <;> simp)

@[simp] theorem becomeRoot_frame (s : State) :
    (becomeRoot s).pending = s.pending ∧
    (becomeRoot s).now = s.now ∧
    (becomeRoot s).free = s.free ∧
    (becomeRoot s).power = s.power ∧
    (becomeRoot s).host = s.host ∧
    (becomeRoot s).lat = s.lat ∧
    (becomeRoot s).win = s.win ∧
    (becomeRoot s).cfg = s.cfg ∧
    (becomeRoot s).boot = s.boot ∧
    (becomeRoot s).otp = s.otp ∧
    (becomeRoot s).src = s.src ∧
    (becomeRoot s).paceFrac = s.paceFrac ∧
    (becomeRoot s).mains = s.mains ∧
    (becomeRoot s).stitch = s.stitch ∧
    (becomeRoot s).axes = s.axes ∧
    (becomeRoot s).chan = s.chan ∧
    (becomeRoot s).supply = s.supply ∧
    (becomeRoot s).sto = s.sto ∧
    (becomeRoot s).spread = s.spread ∧
    (becomeRoot s).supv = s.supv ∧
    (becomeRoot s).fb = s.fb ∧
    (becomeRoot s).cnv = s.cnv ∧
    (becomeRoot s).pin = s.pin ∧
    (becomeRoot s).flt = s.flt ∧
    (becomeRoot s).store = s.store ∧
    (becomeRoot s).bak = s.bak ∧
    (becomeRoot s).proof = s.proof := by
  unfold becomeRoot; (try dsimp only); repeat' split
  all_goals (refine ⟨?_, ?_, ?_, ?_, ?_, ?_, ?_, ?_, ?_, ?_, ?_, ?_, ?_, ?_, ?_, ?_, ?_, ?_, ?_, ?_, ?_, ?_, ?_, ?_, ?_, ?_, ?_⟩ <;> simp)

@[simp] theorem takeParent_frame (p : Fin 4) (s : State) :
    (takeParent p s).pending = s.pending ∧
    (takeParent p s).now = s.now ∧
    (takeParent p s).free = s.free ∧
    (takeParent p s).power = s.power ∧
    (takeParent p s).host = s.host ∧
    (takeParent p s).lat = s.lat ∧
    (takeParent p s).win = s.win ∧
    (takeParent p s).cfg = s.cfg ∧
    (takeParent p s).boot = s.boot ∧
    (takeParent p s).otp = s.otp ∧
    (takeParent p s).src = s.src ∧
    (takeParent p s).paceFrac = s.paceFrac ∧
    (takeParent p s).mains = s.mains ∧
    (takeParent p s).stitch = s.stitch ∧
    (takeParent p s).axes = s.axes ∧
    (takeParent p s).chan = s.chan ∧
    (takeParent p s).supply = s.supply ∧
    (takeParent p s).sto = s.sto ∧
    (takeParent p s).spread = s.spread ∧
    (takeParent p s).supv = s.supv ∧
    (takeParent p s).fb = s.fb ∧
    (takeParent p s).cnv = s.cnv ∧
    (takeParent p s).pin = s.pin ∧
    (takeParent p s).flt = s.flt ∧
    (takeParent p s).store = s.store ∧
    (takeParent p s).bak = s.bak ∧
    (takeParent p s).proof = s.proof := by
  unfold takeParent; (try dsimp only); repeat' split
  all_goals (refine ⟨?_, ?_, ?_, ?_, ?_, ?_, ?_, ?_, ?_, ?_, ?_, ?_, ?_, ?_, ?_, ?_, ?_, ?_, ?_, ?_, ?_, ?_, ?_, ?_, ?_, ?_, ?_⟩ <;> simp)

@[simp] theorem loseRoot_frame (s : State) :
    (loseRoot s).pending = s.pending ∧
    (loseRoot s).now = s.now ∧
    (loseRoot s).free = s.free ∧
    (loseRoot s).power = s.power ∧
    (loseRoot s).host = s.host ∧
    (loseRoot s).lat = s.lat ∧
    (loseRoot s).win = s.win ∧
    (loseRoot s).cfg = s.cfg ∧
    (loseRoot s).boot = s.boot ∧
    (loseRoot s).otp = s.otp ∧
    (loseRoot s).src = s.src ∧
    (loseRoot s).paceFrac = s.paceFrac ∧
    (loseRoot s).mains = s.mains ∧
    (loseRoot s).stitch = s.stitch ∧
    (loseRoot s).axes = s.axes ∧
    (loseRoot s).chan = s.chan ∧
    (loseRoot s).supply = s.supply ∧
    (loseRoot s).sto = s.sto ∧
    (loseRoot s).spread = s.spread ∧
    (loseRoot s).supv = s.supv ∧
    (loseRoot s).fb = s.fb ∧
    (loseRoot s).cnv = s.cnv ∧
    (loseRoot s).pin = s.pin ∧
    (loseRoot s).flt = s.flt ∧
    (loseRoot s).store = s.store ∧
    (loseRoot s).bak = s.bak ∧
    (loseRoot s).proof = s.proof := by
  unfold loseRoot; (try dsimp only); repeat' split
  all_goals (refine ⟨?_, ?_, ?_, ?_, ?_, ?_, ?_, ?_, ?_, ?_, ?_, ?_, ?_, ?_, ?_, ?_, ?_, ?_, ?_, ?_, ?_, ?_, ?_, ?_, ?_, ?_, ?_⟩ <;> simp)

@[simp] theorem stepTime_frame (o : Int) (s : State) :
    (stepTime o s).pending = s.pending ∧
    (stepTime o s).now = s.now ∧
    (stepTime o s).free = s.free ∧
    (stepTime o s).power = s.power ∧
    (stepTime o s).host = s.host ∧
    (stepTime o s).lat = s.lat ∧
    (stepTime o s).win = s.win ∧
    (stepTime o s).cfg = s.cfg ∧
    (stepTime o s).boot = s.boot ∧
    (stepTime o s).otp = s.otp ∧
    (stepTime o s).src = s.src ∧
    (stepTime o s).paceFrac = s.paceFrac ∧
    (stepTime o s).mains = s.mains ∧
    (stepTime o s).stitch = s.stitch ∧
    (stepTime o s).axes = s.axes ∧
    (stepTime o s).chan = s.chan ∧
    (stepTime o s).supply = s.supply ∧
    (stepTime o s).sto = s.sto ∧
    (stepTime o s).spread = s.spread ∧
    (stepTime o s).supv = s.supv ∧
    (stepTime o s).fb = s.fb ∧
    (stepTime o s).cnv = s.cnv ∧
    (stepTime o s).pin = s.pin ∧
    (stepTime o s).flt = s.flt ∧
    (stepTime o s).store = s.store ∧
    (stepTime o s).bak = s.bak ∧
    (stepTime o s).proof = s.proof := by
  unfold stepTime; (try dsimp only); repeat' split
  all_goals (refine ⟨?_, ?_, ?_, ?_, ?_, ?_, ?_, ?_, ?_, ?_, ?_, ?_, ?_, ?_, ?_, ?_, ?_, ?_, ?_, ?_, ?_, ?_, ?_, ?_, ?_, ?_, ?_⟩ <;> simp)

@[simp] theorem tryAcquire_frame (o : Int) (s : State) :
    (tryAcquire o s).pending = s.pending ∧
    (tryAcquire o s).now = s.now ∧
    (tryAcquire o s).free = s.free ∧
    (tryAcquire o s).power = s.power ∧
    (tryAcquire o s).host = s.host ∧
    (tryAcquire o s).lat = s.lat ∧
    (tryAcquire o s).win = s.win ∧
    (tryAcquire o s).cfg = s.cfg ∧
    (tryAcquire o s).boot = s.boot ∧
    (tryAcquire o s).otp = s.otp ∧
    (tryAcquire o s).src = s.src ∧
    (tryAcquire o s).paceFrac = s.paceFrac ∧
    (tryAcquire o s).mains = s.mains ∧
    (tryAcquire o s).stitch = s.stitch ∧
    (tryAcquire o s).axes = s.axes ∧
    (tryAcquire o s).chan = s.chan ∧
    (tryAcquire o s).supply = s.supply ∧
    (tryAcquire o s).sto = s.sto ∧
    (tryAcquire o s).spread = s.spread ∧
    (tryAcquire o s).supv = s.supv ∧
    (tryAcquire o s).fb = s.fb ∧
    (tryAcquire o s).cnv = s.cnv ∧
    (tryAcquire o s).pin = s.pin ∧
    (tryAcquire o s).flt = s.flt ∧
    (tryAcquire o s).store = s.store ∧
    (tryAcquire o s).bak = s.bak ∧
    (tryAcquire o s).proof = s.proof := by
  unfold tryAcquire; (try dsimp only); repeat' split
  all_goals (refine ⟨?_, ?_, ?_, ?_, ?_, ?_, ?_, ?_, ?_, ?_, ?_, ?_, ?_, ?_, ?_, ?_, ?_, ?_, ?_, ?_, ?_, ?_, ?_, ?_, ?_, ?_, ?_⟩ <;> simp)

@[simp] theorem slewTime_frame (o : Int) (s : State) :
    (slewTime o s).pending = s.pending ∧
    (slewTime o s).now = s.now ∧
    (slewTime o s).free = s.free ∧
    (slewTime o s).power = s.power ∧
    (slewTime o s).host = s.host ∧
    (slewTime o s).lat = s.lat ∧
    (slewTime o s).win = s.win ∧
    (slewTime o s).cfg = s.cfg ∧
    (slewTime o s).boot = s.boot ∧
    (slewTime o s).otp = s.otp ∧
    (slewTime o s).src = s.src ∧
    (slewTime o s).paceFrac = s.paceFrac ∧
    (slewTime o s).mains = s.mains ∧
    (slewTime o s).stitch = s.stitch ∧
    (slewTime o s).axes = s.axes ∧
    (slewTime o s).chan = s.chan ∧
    (slewTime o s).supply = s.supply ∧
    (slewTime o s).sto = s.sto ∧
    (slewTime o s).spread = s.spread ∧
    (slewTime o s).supv = s.supv ∧
    (slewTime o s).fb = s.fb ∧
    (slewTime o s).cnv = s.cnv ∧
    (slewTime o s).pin = s.pin ∧
    (slewTime o s).flt = s.flt ∧
    (slewTime o s).store = s.store ∧
    (slewTime o s).bak = s.bak ∧
    (slewTime o s).proof = s.proof := by
  unfold slewTime; (try dsimp only); repeat' split
  all_goals (refine ⟨?_, ?_, ?_, ?_, ?_, ?_, ?_, ?_, ?_, ?_, ?_, ?_, ?_, ?_, ?_, ?_, ?_, ?_, ?_, ?_, ?_, ?_, ?_, ?_, ?_, ?_, ?_⟩ <;> simp)

@[simp] theorem takeOffset_frame (o : Int) (s : State) :
    (takeOffset o s).pending = s.pending ∧
    (takeOffset o s).now = s.now ∧
    (takeOffset o s).free = s.free ∧
    (takeOffset o s).power = s.power ∧
    (takeOffset o s).host = s.host ∧
    (takeOffset o s).lat = s.lat ∧
    (takeOffset o s).win = s.win ∧
    (takeOffset o s).cfg = s.cfg ∧
    (takeOffset o s).boot = s.boot ∧
    (takeOffset o s).otp = s.otp ∧
    (takeOffset o s).src = s.src ∧
    (takeOffset o s).paceFrac = s.paceFrac ∧
    (takeOffset o s).mains = s.mains ∧
    (takeOffset o s).stitch = s.stitch ∧
    (takeOffset o s).axes = s.axes ∧
    (takeOffset o s).chan = s.chan ∧
    (takeOffset o s).supply = s.supply ∧
    (takeOffset o s).sto = s.sto ∧
    (takeOffset o s).spread = s.spread ∧
    (takeOffset o s).supv = s.supv ∧
    (takeOffset o s).fb = s.fb ∧
    (takeOffset o s).cnv = s.cnv ∧
    (takeOffset o s).pin = s.pin ∧
    (takeOffset o s).flt = s.flt ∧
    (takeOffset o s).store = s.store ∧
    (takeOffset o s).bak = s.bak ∧
    (takeOffset o s).proof = s.proof := by
  unfold takeOffset; (try dsimp only); repeat' split
  all_goals (refine ⟨?_, ?_, ?_, ?_, ?_, ?_, ?_, ?_, ?_, ?_, ?_, ?_, ?_, ?_, ?_, ?_, ?_, ?_, ?_, ?_, ?_, ?_, ?_, ?_, ?_, ?_, ?_⟩ <;> simp)

@[simp] theorem takeTimeBlock_frame (p : Fin 4) (t : TimeBlock) (arrival : BitVec 64) (s : State) :
    (takeTimeBlock p t arrival s).pending = s.pending ∧
    (takeTimeBlock p t arrival s).now = s.now ∧
    (takeTimeBlock p t arrival s).free = s.free ∧
    (takeTimeBlock p t arrival s).power = s.power ∧
    (takeTimeBlock p t arrival s).host = s.host ∧
    (takeTimeBlock p t arrival s).lat = s.lat ∧
    (takeTimeBlock p t arrival s).win = s.win ∧
    (takeTimeBlock p t arrival s).cfg = s.cfg ∧
    (takeTimeBlock p t arrival s).boot = s.boot ∧
    (takeTimeBlock p t arrival s).otp = s.otp ∧
    (takeTimeBlock p t arrival s).src = s.src ∧
    (takeTimeBlock p t arrival s).paceFrac = s.paceFrac ∧
    (takeTimeBlock p t arrival s).mains = s.mains ∧
    (takeTimeBlock p t arrival s).stitch = s.stitch ∧
    (takeTimeBlock p t arrival s).axes = s.axes ∧
    (takeTimeBlock p t arrival s).chan = s.chan ∧
    (takeTimeBlock p t arrival s).supply = s.supply ∧
    (takeTimeBlock p t arrival s).sto = s.sto ∧
    (takeTimeBlock p t arrival s).spread = s.spread ∧
    (takeTimeBlock p t arrival s).supv = s.supv ∧
    (takeTimeBlock p t arrival s).fb = s.fb ∧
    (takeTimeBlock p t arrival s).cnv = s.cnv ∧
    (takeTimeBlock p t arrival s).pin = s.pin ∧
    (takeTimeBlock p t arrival s).flt = s.flt ∧
    (takeTimeBlock p t arrival s).store = s.store ∧
    (takeTimeBlock p t arrival s).bak = s.bak ∧
    (takeTimeBlock p t arrival s).proof = s.proof := by
  unfold takeTimeBlock; (try dsimp only); repeat' split
  all_goals (refine ⟨?_, ?_, ?_, ?_, ?_, ?_, ?_, ?_, ?_, ?_, ?_, ?_, ?_, ?_, ?_, ?_, ?_, ?_, ?_, ?_, ?_, ?_, ?_, ?_, ?_, ?_, ?_⟩ <;> simp)

@[simp] theorem chooseAgain_frame (s : State) :
    (chooseAgain s).pending = s.pending ∧
    (chooseAgain s).now = s.now ∧
    (chooseAgain s).free = s.free ∧
    (chooseAgain s).power = s.power ∧
    (chooseAgain s).host = s.host ∧
    (chooseAgain s).lat = s.lat ∧
    (chooseAgain s).win = s.win ∧
    (chooseAgain s).cfg = s.cfg ∧
    (chooseAgain s).boot = s.boot ∧
    (chooseAgain s).otp = s.otp ∧
    (chooseAgain s).src = s.src ∧
    (chooseAgain s).paceFrac = s.paceFrac ∧
    (chooseAgain s).mains = s.mains ∧
    (chooseAgain s).stitch = s.stitch ∧
    (chooseAgain s).axes = s.axes ∧
    (chooseAgain s).chan = s.chan ∧
    (chooseAgain s).supply = s.supply ∧
    (chooseAgain s).sto = s.sto ∧
    (chooseAgain s).spread = s.spread ∧
    (chooseAgain s).supv = s.supv ∧
    (chooseAgain s).fb = s.fb ∧
    (chooseAgain s).cnv = s.cnv ∧
    (chooseAgain s).pin = s.pin ∧
    (chooseAgain s).flt = s.flt ∧
    (chooseAgain s).store = s.store ∧
    (chooseAgain s).bak = s.bak ∧
    (chooseAgain s).proof = s.proof := by
  unfold chooseAgain; (try dsimp only); repeat' split
  all_goals (refine ⟨?_, ?_, ?_, ?_, ?_, ?_, ?_, ?_, ?_, ?_, ?_, ?_, ?_, ?_, ?_, ?_, ?_, ?_, ?_, ?_, ?_, ?_, ?_, ?_, ?_, ?_, ?_⟩ <;> simp)

@[simp] theorem elect_frame (s : State) :
    (elect s).pending = s.pending ∧
    (elect s).now = s.now ∧
    (elect s).free = s.free ∧
    (elect s).power = s.power ∧
    (elect s).host = s.host ∧
    (elect s).lat = s.lat ∧
    (elect s).win = s.win ∧
    (elect s).cfg = s.cfg ∧
    (elect s).boot = s.boot ∧
    (elect s).otp = s.otp ∧
    (elect s).src = s.src ∧
    (elect s).paceFrac = s.paceFrac ∧
    (elect s).mains = s.mains ∧
    (elect s).stitch = s.stitch ∧
    (elect s).axes = s.axes ∧
    (elect s).chan = s.chan ∧
    (elect s).supply = s.supply ∧
    (elect s).sto = s.sto ∧
    (elect s).spread = s.spread ∧
    (elect s).supv = s.supv ∧
    (elect s).pin = s.pin ∧
    (elect s).store = s.store ∧
    (elect s).bak = s.bak ∧
    (elect s).proof = s.proof := by
  unfold elect; (try dsimp only); repeat' split
  all_goals (refine ⟨?_, ?_, ?_, ?_, ?_, ?_, ?_, ?_, ?_, ?_, ?_, ?_, ?_, ?_, ?_, ?_, ?_, ?_, ?_, ?_, ?_, ?_, ?_, ?_⟩ <;> simp)

@[simp] theorem setPortRoles_frame (s : State) :
    (setPortRoles s).pending = s.pending ∧
    (setPortRoles s).now = s.now ∧
    (setPortRoles s).free = s.free ∧
    (setPortRoles s).power = s.power ∧
    (setPortRoles s).host = s.host ∧
    (setPortRoles s).lat = s.lat ∧
    (setPortRoles s).win = s.win ∧
    (setPortRoles s).cfg = s.cfg ∧
    (setPortRoles s).boot = s.boot ∧
    (setPortRoles s).otp = s.otp ∧
    (setPortRoles s).src = s.src ∧
    (setPortRoles s).paceFrac = s.paceFrac ∧
    (setPortRoles s).mains = s.mains ∧
    (setPortRoles s).stitch = s.stitch ∧
    (setPortRoles s).axes = s.axes ∧
    (setPortRoles s).chan = s.chan ∧
    (setPortRoles s).supply = s.supply ∧
    (setPortRoles s).sto = s.sto ∧
    (setPortRoles s).spread = s.spread ∧
    (setPortRoles s).supv = s.supv ∧
    (setPortRoles s).fb = s.fb ∧
    (setPortRoles s).cnv = s.cnv ∧
    (setPortRoles s).pin = s.pin ∧
    (setPortRoles s).flt = s.flt ∧
    (setPortRoles s).store = s.store ∧
    (setPortRoles s).bak = s.bak ∧
    (setPortRoles s).proof = s.proof := by
  unfold setPortRoles; (try dsimp only); repeat' split
  all_goals (refine ⟨?_, ?_, ?_, ?_, ?_, ?_, ?_, ?_, ?_, ?_, ?_, ?_, ?_, ?_, ?_, ?_, ?_, ?_, ?_, ?_, ?_, ?_, ?_, ?_, ?_, ?_, ?_⟩ <;> simp)

@[simp] theorem followRoot_frame (s : State) :
    (followRoot s).pending = s.pending ∧
    (followRoot s).now = s.now ∧
    (followRoot s).free = s.free ∧
    (followRoot s).power = s.power ∧
    (followRoot s).host = s.host ∧
    (followRoot s).lat = s.lat ∧
    (followRoot s).win = s.win ∧
    (followRoot s).cfg = s.cfg ∧
    (followRoot s).boot = s.boot ∧
    (followRoot s).otp = s.otp ∧
    (followRoot s).src = s.src ∧
    (followRoot s).paceFrac = s.paceFrac ∧
    (followRoot s).mains = s.mains ∧
    (followRoot s).stitch = s.stitch ∧
    (followRoot s).axes = s.axes ∧
    (followRoot s).chan = s.chan ∧
    (followRoot s).supply = s.supply ∧
    (followRoot s).sto = s.sto ∧
    (followRoot s).spread = s.spread ∧
    (followRoot s).supv = s.supv ∧
    (followRoot s).fb = s.fb ∧
    (followRoot s).cnv = s.cnv ∧
    (followRoot s).pin = s.pin ∧
    (followRoot s).flt = s.flt ∧
    (followRoot s).store = s.store ∧
    (followRoot s).bak = s.bak ∧
    (followRoot s).proof = s.proof := by
  unfold followRoot; (try dsimp only); repeat' split
  all_goals (refine ⟨?_, ?_, ?_, ?_, ?_, ?_, ?_, ?_, ?_, ?_, ?_, ?_, ?_, ?_, ?_, ?_, ?_, ?_, ?_, ?_, ?_, ?_, ?_, ?_, ?_, ?_, ?_⟩ <;> simp)

@[simp] theorem stepTree_frame (s : State) :
    (stepTree s).pending = s.pending ∧
    (stepTree s).now = s.now ∧
    (stepTree s).free = s.free ∧
    (stepTree s).power = s.power ∧
    (stepTree s).host = s.host ∧
    (stepTree s).lat = s.lat ∧
    (stepTree s).win = s.win ∧
    (stepTree s).cfg = s.cfg ∧
    (stepTree s).boot = s.boot ∧
    (stepTree s).otp = s.otp ∧
    (stepTree s).src = s.src ∧
    (stepTree s).paceFrac = s.paceFrac ∧
    (stepTree s).mains = s.mains ∧
    (stepTree s).stitch = s.stitch ∧
    (stepTree s).axes = s.axes ∧
    (stepTree s).chan = s.chan ∧
    (stepTree s).supply = s.supply ∧
    (stepTree s).sto = s.sto ∧
    (stepTree s).spread = s.spread ∧
    (stepTree s).supv = s.supv ∧
    (stepTree s).pin = s.pin ∧
    (stepTree s).store = s.store ∧
    (stepTree s).bak = s.bak ∧
    (stepTree s).proof = s.proof := by
  unfold stepTree; (try dsimp only); repeat' split
  all_goals (refine ⟨?_, ?_, ?_, ?_, ?_, ?_, ?_, ?_, ?_, ?_, ?_, ?_, ?_, ?_, ?_, ?_, ?_, ?_, ?_, ?_, ?_, ?_, ?_, ?_⟩ <;> simp)

@[simp] theorem takeTreeBlock_frame (p : Fin 4) (f : SeamFrame) (arrival : BitVec 64) (s : State) :
    (takeTreeBlock p f arrival s).pending = s.pending ∧
    (takeTreeBlock p f arrival s).now = s.now ∧
    (takeTreeBlock p f arrival s).free = s.free ∧
    (takeTreeBlock p f arrival s).power = s.power ∧
    (takeTreeBlock p f arrival s).host = s.host ∧
    (takeTreeBlock p f arrival s).lat = s.lat ∧
    (takeTreeBlock p f arrival s).win = s.win ∧
    (takeTreeBlock p f arrival s).cfg = s.cfg ∧
    (takeTreeBlock p f arrival s).boot = s.boot ∧
    (takeTreeBlock p f arrival s).otp = s.otp ∧
    (takeTreeBlock p f arrival s).src = s.src ∧
    (takeTreeBlock p f arrival s).paceFrac = s.paceFrac ∧
    (takeTreeBlock p f arrival s).mains = s.mains ∧
    (takeTreeBlock p f arrival s).stitch = s.stitch ∧
    (takeTreeBlock p f arrival s).axes = s.axes ∧
    (takeTreeBlock p f arrival s).chan = s.chan ∧
    (takeTreeBlock p f arrival s).supply = s.supply ∧
    (takeTreeBlock p f arrival s).sto = s.sto ∧
    (takeTreeBlock p f arrival s).spread = s.spread ∧
    (takeTreeBlock p f arrival s).supv = s.supv ∧
    (takeTreeBlock p f arrival s).fb = s.fb ∧
    (takeTreeBlock p f arrival s).cnv = s.cnv ∧
    (takeTreeBlock p f arrival s).pin = s.pin ∧
    (takeTreeBlock p f arrival s).flt = s.flt ∧
    (takeTreeBlock p f arrival s).store = s.store ∧
    (takeTreeBlock p f arrival s).bak = s.bak ∧
    (takeTreeBlock p f arrival s).proof = s.proof := by
  unfold takeTreeBlock; (try dsimp only); repeat' split
  all_goals (refine ⟨?_, ?_, ?_, ?_, ?_, ?_, ?_, ?_, ?_, ?_, ?_, ?_, ?_, ?_, ?_, ?_, ?_, ?_, ?_, ?_, ?_, ?_, ?_, ?_, ?_, ?_, ?_⟩ <;> simp)

@[simp] theorem linkUp_frame (p : Fin 4) (s : State) :
    (linkUp p s).pending = s.pending ∧
    (linkUp p s).now = s.now ∧
    (linkUp p s).free = s.free ∧
    (linkUp p s).power = s.power ∧
    (linkUp p s).host = s.host ∧
    (linkUp p s).lat = s.lat ∧
    (linkUp p s).win = s.win ∧
    (linkUp p s).cfg = s.cfg ∧
    (linkUp p s).boot = s.boot ∧
    (linkUp p s).otp = s.otp ∧
    (linkUp p s).src = s.src ∧
    (linkUp p s).paceFrac = s.paceFrac ∧
    (linkUp p s).mains = s.mains ∧
    (linkUp p s).stitch = s.stitch ∧
    (linkUp p s).axes = s.axes ∧
    (linkUp p s).chan = s.chan ∧
    (linkUp p s).supply = s.supply ∧
    (linkUp p s).sto = s.sto ∧
    (linkUp p s).spread = s.spread ∧
    (linkUp p s).supv = s.supv ∧
    (linkUp p s).fb = s.fb ∧
    (linkUp p s).cnv = s.cnv ∧
    (linkUp p s).pin = s.pin ∧
    (linkUp p s).flt = s.flt ∧
    (linkUp p s).store = s.store ∧
    (linkUp p s).bak = s.bak ∧
    (linkUp p s).proof = s.proof := by
  unfold linkUp; (try dsimp only); repeat' split
  all_goals (refine ⟨?_, ?_, ?_, ?_, ?_, ?_, ?_, ?_, ?_, ?_, ?_, ?_, ?_, ?_, ?_, ?_, ?_, ?_, ?_, ?_, ?_, ?_, ?_, ?_, ?_, ?_, ?_⟩ <;> simp)

@[simp] theorem portError_frame (p : Fin 4) (detail : Nat) (s : State) :
    (portError p detail s).pending = s.pending ∧
    (portError p detail s).now = s.now ∧
    (portError p detail s).free = s.free ∧
    (portError p detail s).power = s.power ∧
    (portError p detail s).host = s.host ∧
    (portError p detail s).lat = s.lat ∧
    (portError p detail s).win = s.win ∧
    (portError p detail s).cfg = s.cfg ∧
    (portError p detail s).boot = s.boot ∧
    (portError p detail s).otp = s.otp ∧
    (portError p detail s).src = s.src ∧
    (portError p detail s).paceFrac = s.paceFrac ∧
    (portError p detail s).mains = s.mains ∧
    (portError p detail s).stitch = s.stitch ∧
    (portError p detail s).axes = s.axes ∧
    (portError p detail s).chan = s.chan ∧
    (portError p detail s).supply = s.supply ∧
    (portError p detail s).sto = s.sto ∧
    (portError p detail s).spread = s.spread ∧
    (portError p detail s).supv = s.supv ∧
    (portError p detail s).pin = s.pin ∧
    (portError p detail s).store = s.store ∧
    (portError p detail s).bak = s.bak ∧
    (portError p detail s).proof = s.proof := by
  unfold portError; (try dsimp only); repeat' split
  all_goals (refine ⟨?_, ?_, ?_, ?_, ?_, ?_, ?_, ?_, ?_, ?_, ?_, ?_, ?_, ?_, ?_, ?_, ?_, ?_, ?_, ?_, ?_, ?_, ?_, ?_⟩ <;> simp)

@[simp] theorem reelect_frame (s : State) :
    (reelect s).pending = s.pending ∧
    (reelect s).now = s.now ∧
    (reelect s).free = s.free ∧
    (reelect s).power = s.power ∧
    (reelect s).host = s.host ∧
    (reelect s).lat = s.lat ∧
    (reelect s).win = s.win ∧
    (reelect s).cfg = s.cfg ∧
    (reelect s).boot = s.boot ∧
    (reelect s).otp = s.otp ∧
    (reelect s).src = s.src ∧
    (reelect s).paceFrac = s.paceFrac ∧
    (reelect s).mains = s.mains ∧
    (reelect s).stitch = s.stitch ∧
    (reelect s).axes = s.axes ∧
    (reelect s).chan = s.chan ∧
    (reelect s).supply = s.supply ∧
    (reelect s).sto = s.sto ∧
    (reelect s).spread = s.spread ∧
    (reelect s).supv = s.supv ∧
    (reelect s).pin = s.pin ∧
    (reelect s).store = s.store ∧
    (reelect s).bak = s.bak ∧
    (reelect s).proof = s.proof := by
  unfold reelect; (try dsimp only); repeat' split
  all_goals (refine ⟨?_, ?_, ?_, ?_, ?_, ?_, ?_, ?_, ?_, ?_, ?_, ?_, ?_, ?_, ?_, ?_, ?_, ?_, ?_, ?_, ?_, ?_, ?_, ?_⟩ <;> simp)

@[simp] theorem linkDown_frame (p : Fin 4) (s : State) :
    (linkDown p s).pending = s.pending ∧
    (linkDown p s).now = s.now ∧
    (linkDown p s).free = s.free ∧
    (linkDown p s).power = s.power ∧
    (linkDown p s).host = s.host ∧
    (linkDown p s).lat = s.lat ∧
    (linkDown p s).win = s.win ∧
    (linkDown p s).cfg = s.cfg ∧
    (linkDown p s).boot = s.boot ∧
    (linkDown p s).otp = s.otp ∧
    (linkDown p s).src = s.src ∧
    (linkDown p s).paceFrac = s.paceFrac ∧
    (linkDown p s).mains = s.mains ∧
    (linkDown p s).stitch = s.stitch ∧
    (linkDown p s).axes = s.axes ∧
    (linkDown p s).chan = s.chan ∧
    (linkDown p s).supply = s.supply ∧
    (linkDown p s).sto = s.sto ∧
    (linkDown p s).spread = s.spread ∧
    (linkDown p s).supv = s.supv ∧
    (linkDown p s).pin = s.pin ∧
    (linkDown p s).store = s.store ∧
    (linkDown p s).bak = s.bak ∧
    (linkDown p s).proof = s.proof := by
  unfold linkDown; (try dsimp only); repeat' split
  all_goals (refine ⟨?_, ?_, ?_, ?_, ?_, ?_, ?_, ?_, ?_, ?_, ?_, ?_, ?_, ?_, ?_, ?_, ?_, ?_, ?_, ?_, ?_, ?_, ?_, ?_⟩ <;> simp)

@[simp] theorem badFrame_frame (p : Fin 4) (s : State) :
    (badFrame p s).pending = s.pending ∧
    (badFrame p s).now = s.now ∧
    (badFrame p s).free = s.free ∧
    (badFrame p s).power = s.power ∧
    (badFrame p s).host = s.host ∧
    (badFrame p s).lat = s.lat ∧
    (badFrame p s).win = s.win ∧
    (badFrame p s).cfg = s.cfg ∧
    (badFrame p s).boot = s.boot ∧
    (badFrame p s).otp = s.otp ∧
    (badFrame p s).src = s.src ∧
    (badFrame p s).paceFrac = s.paceFrac ∧
    (badFrame p s).mains = s.mains ∧
    (badFrame p s).stitch = s.stitch ∧
    (badFrame p s).axes = s.axes ∧
    (badFrame p s).chan = s.chan ∧
    (badFrame p s).supply = s.supply ∧
    (badFrame p s).sto = s.sto ∧
    (badFrame p s).spread = s.spread ∧
    (badFrame p s).supv = s.supv ∧
    (badFrame p s).pin = s.pin ∧
    (badFrame p s).store = s.store ∧
    (badFrame p s).bak = s.bak ∧
    (badFrame p s).proof = s.proof := by
  unfold badFrame; (try dsimp only); repeat' split
  all_goals (refine ⟨?_, ?_, ?_, ?_, ?_, ?_, ?_, ?_, ?_, ?_, ?_, ?_, ?_, ?_, ?_, ?_, ?_, ?_, ?_, ?_, ?_, ?_, ?_, ?_⟩ <;> simp)

/-! ### SeamGang -/

@[simp] theorem commandAxes_frame (k : Fin 4) (aux : Word) (s : State) :
    (commandAxes k aux s).pending = s.pending ∧
    (commandAxes k aux s).now = s.now ∧
    (commandAxes k aux s).free = s.free ∧
    (commandAxes k aux s).power = s.power ∧
    (commandAxes k aux s).host = s.host ∧
    (commandAxes k aux s).lat = s.lat ∧
    (commandAxes k aux s).win = s.win ∧
    (commandAxes k aux s).cfg = s.cfg ∧
    (commandAxes k aux s).boot = s.boot ∧
    (commandAxes k aux s).otp = s.otp ∧
    (commandAxes k aux s).src = s.src ∧
    (commandAxes k aux s).paceFrac = s.paceFrac ∧
    (commandAxes k aux s).mains = s.mains ∧
    (commandAxes k aux s).stitch = s.stitch ∧
    (commandAxes k aux s).chan = s.chan ∧
    (commandAxes k aux s).supply = s.supply ∧
    (commandAxes k aux s).sto = s.sto ∧
    (commandAxes k aux s).spread = s.spread ∧
    (commandAxes k aux s).supv = s.supv ∧
    (commandAxes k aux s).fb = s.fb ∧
    (commandAxes k aux s).cnv = s.cnv ∧
    (commandAxes k aux s).pin = s.pin ∧
    (commandAxes k aux s).seam = s.seam ∧
    (commandAxes k aux s).flt = s.flt ∧
    (commandAxes k aux s).store = s.store ∧
    (commandAxes k aux s).bak = s.bak ∧
    (commandAxes k aux s).proof = s.proof := by
  unfold commandAxes; (try dsimp only); repeat' split
  all_goals simp [ite_pending, ite_now, ite_free, ite_power, ite_host, ite_lat, ite_win, ite_cfg, ite_boot, ite_otp, ite_src, ite_paceFrac, ite_mains, ite_stitch, ite_axes, ite_chan, ite_supply, ite_sto, ite_spread, ite_supv, ite_fb, ite_cnv, ite_pin, ite_seam, ite_flt, ite_store, ite_bak, ite_proof]

@[simp] theorem wrongSource_frame (k : Fin 4) (ch : Nat) (s : State) :
    (wrongSource k ch s).pending = s.pending ∧
    (wrongSource k ch s).now = s.now ∧
    (wrongSource k ch s).free = s.free ∧
    (wrongSource k ch s).power = s.power ∧
    (wrongSource k ch s).host = s.host ∧
    (wrongSource k ch s).lat = s.lat ∧
    (wrongSource k ch s).win = s.win ∧
    (wrongSource k ch s).cfg = s.cfg ∧
    (wrongSource k ch s).boot = s.boot ∧
    (wrongSource k ch s).otp = s.otp ∧
    (wrongSource k ch s).src = s.src ∧
    (wrongSource k ch s).paceFrac = s.paceFrac ∧
    (wrongSource k ch s).mains = s.mains ∧
    (wrongSource k ch s).stitch = s.stitch ∧
    (wrongSource k ch s).axes = s.axes ∧
    (wrongSource k ch s).chan = s.chan ∧
    (wrongSource k ch s).supply = s.supply ∧
    (wrongSource k ch s).sto = s.sto ∧
    (wrongSource k ch s).spread = s.spread ∧
    (wrongSource k ch s).supv = s.supv ∧
    (wrongSource k ch s).pin = s.pin ∧
    (wrongSource k ch s).store = s.store ∧
    (wrongSource k ch s).bak = s.bak ∧
    (wrongSource k ch s).proof = s.proof := by
  unfold wrongSource; (try dsimp only); repeat' split
  all_goals (refine ⟨?_, ?_, ?_, ?_, ?_, ?_, ?_, ?_, ?_, ?_, ?_, ?_, ?_, ?_, ?_, ?_, ?_, ?_, ?_, ?_, ?_, ?_, ?_, ?_⟩ <;> simp)

@[simp] theorem subSample_frame (x : AngleSlot) (k : Fin 4) (s : State) :
    (subSample x k s).pending = s.pending ∧
    (subSample x k s).now = s.now ∧
    (subSample x k s).free = s.free ∧
    (subSample x k s).power = s.power ∧
    (subSample x k s).host = s.host ∧
    (subSample x k s).lat = s.lat ∧
    (subSample x k s).win = s.win ∧
    (subSample x k s).cfg = s.cfg ∧
    (subSample x k s).boot = s.boot ∧
    (subSample x k s).otp = s.otp ∧
    (subSample x k s).src = s.src ∧
    (subSample x k s).paceFrac = s.paceFrac ∧
    (subSample x k s).mains = s.mains ∧
    (subSample x k s).stitch = s.stitch ∧
    (subSample x k s).chan = s.chan ∧
    (subSample x k s).supply = s.supply ∧
    (subSample x k s).sto = s.sto ∧
    (subSample x k s).spread = s.spread ∧
    (subSample x k s).supv = s.supv ∧
    (subSample x k s).pin = s.pin ∧
    (subSample x k s).store = s.store ∧
    (subSample x k s).bak = s.bak ∧
    (subSample x k s).proof = s.proof := by
  unfold subSample; (try dsimp only); repeat' split
  all_goals (refine ⟨?_, ?_, ?_, ?_, ?_, ?_, ?_, ?_, ?_, ?_, ?_, ?_, ?_, ?_, ?_, ?_, ?_, ?_, ?_, ?_, ?_, ?_, ?_⟩ <;> simp)

@[simp] theorem memSample_frame (x : AngleSlot) (m : Fin 8) (s : State) :
    (memSample x m s).pending = s.pending ∧
    (memSample x m s).now = s.now ∧
    (memSample x m s).free = s.free ∧
    (memSample x m s).power = s.power ∧
    (memSample x m s).host = s.host ∧
    (memSample x m s).lat = s.lat ∧
    (memSample x m s).win = s.win ∧
    (memSample x m s).cfg = s.cfg ∧
    (memSample x m s).boot = s.boot ∧
    (memSample x m s).otp = s.otp ∧
    (memSample x m s).src = s.src ∧
    (memSample x m s).paceFrac = s.paceFrac ∧
    (memSample x m s).mains = s.mains ∧
    (memSample x m s).stitch = s.stitch ∧
    (memSample x m s).axes = s.axes ∧
    (memSample x m s).chan = s.chan ∧
    (memSample x m s).supply = s.supply ∧
    (memSample x m s).sto = s.sto ∧
    (memSample x m s).spread = s.spread ∧
    (memSample x m s).supv = s.supv ∧
    (memSample x m s).fb = s.fb ∧
    (memSample x m s).cnv = s.cnv ∧
    (memSample x m s).pin = s.pin ∧
    (memSample x m s).flt = s.flt ∧
    (memSample x m s).store = s.store ∧
    (memSample x m s).bak = s.bak ∧
    (memSample x m s).proof = s.proof := by
  unfold memSample; (try dsimp only); repeat' split
  all_goals (refine ⟨?_, ?_, ?_, ?_, ?_, ?_, ?_, ?_, ?_, ?_, ?_, ?_, ?_, ?_, ?_, ?_, ?_, ?_, ?_, ?_, ?_, ?_, ?_, ?_, ?_, ?_, ?_⟩ <;> simp)

@[simp] theorem takeSlot_frame (p : Fin 4) (s : State) (x : AngleSlot) :
    (takeSlot p s x).pending = s.pending ∧
    (takeSlot p s x).now = s.now ∧
    (takeSlot p s x).free = s.free ∧
    (takeSlot p s x).power = s.power ∧
    (takeSlot p s x).host = s.host ∧
    (takeSlot p s x).lat = s.lat ∧
    (takeSlot p s x).win = s.win ∧
    (takeSlot p s x).cfg = s.cfg ∧
    (takeSlot p s x).boot = s.boot ∧
    (takeSlot p s x).otp = s.otp ∧
    (takeSlot p s x).src = s.src ∧
    (takeSlot p s x).paceFrac = s.paceFrac ∧
    (takeSlot p s x).mains = s.mains ∧
    (takeSlot p s x).stitch = s.stitch ∧
    (takeSlot p s x).chan = s.chan ∧
    (takeSlot p s x).supply = s.supply ∧
    (takeSlot p s x).sto = s.sto ∧
    (takeSlot p s x).spread = s.spread ∧
    (takeSlot p s x).supv = s.supv ∧
    (takeSlot p s x).pin = s.pin ∧
    (takeSlot p s x).store = s.store ∧
    (takeSlot p s x).bak = s.bak ∧
    (takeSlot p s x).proof = s.proof := by
  unfold takeSlot; (try dsimp only); repeat' split
  all_goals (refine ⟨?_, ?_, ?_, ?_, ?_, ?_, ?_, ?_, ?_, ?_, ?_, ?_, ?_, ?_, ?_, ?_, ?_, ?_, ?_, ?_, ?_, ?_, ?_⟩ <;> simp)

@[simp] theorem losePeer_frame (d : DevId) (s : State) :
    (losePeer d s).pending = s.pending ∧
    (losePeer d s).now = s.now ∧
    (losePeer d s).free = s.free ∧
    (losePeer d s).power = s.power ∧
    (losePeer d s).host = s.host ∧
    (losePeer d s).lat = s.lat ∧
    (losePeer d s).win = s.win ∧
    (losePeer d s).cfg = s.cfg ∧
    (losePeer d s).otp = s.otp ∧
    (losePeer d s).src = s.src ∧
    (losePeer d s).paceFrac = s.paceFrac ∧
    (losePeer d s).mains = s.mains ∧
    (losePeer d s).stitch = s.stitch ∧
    (losePeer d s).chan = s.chan ∧
    (losePeer d s).supply = s.supply ∧
    (losePeer d s).sto = s.sto ∧
    (losePeer d s).spread = s.spread ∧
    (losePeer d s).supv = s.supv ∧
    (losePeer d s).pin = s.pin ∧
    (losePeer d s).store = s.store ∧
    (losePeer d s).bak = s.bak ∧
    (losePeer d s).proof = s.proof := by
  unfold losePeer; (try dsimp only); repeat' split
  all_goals (refine ⟨?_, ?_, ?_, ?_, ?_, ?_, ?_, ?_, ?_, ?_, ?_, ?_, ?_, ?_, ?_, ?_, ?_, ?_, ?_, ?_, ?_, ?_⟩ <;> simp)

@[simp] theorem noteEpoch_frame (d : DevId) (e : Word) (s : State) :
    (noteEpoch d e s).pending = s.pending ∧
    (noteEpoch d e s).now = s.now ∧
    (noteEpoch d e s).free = s.free ∧
    (noteEpoch d e s).power = s.power ∧
    (noteEpoch d e s).host = s.host ∧
    (noteEpoch d e s).lat = s.lat ∧
    (noteEpoch d e s).win = s.win ∧
    (noteEpoch d e s).cfg = s.cfg ∧
    (noteEpoch d e s).otp = s.otp ∧
    (noteEpoch d e s).src = s.src ∧
    (noteEpoch d e s).paceFrac = s.paceFrac ∧
    (noteEpoch d e s).mains = s.mains ∧
    (noteEpoch d e s).stitch = s.stitch ∧
    (noteEpoch d e s).chan = s.chan ∧
    (noteEpoch d e s).supply = s.supply ∧
    (noteEpoch d e s).sto = s.sto ∧
    (noteEpoch d e s).spread = s.spread ∧
    (noteEpoch d e s).supv = s.supv ∧
    (noteEpoch d e s).pin = s.pin ∧
    (noteEpoch d e s).store = s.store ∧
    (noteEpoch d e s).bak = s.bak ∧
    (noteEpoch d e s).proof = s.proof := by
  unfold noteEpoch; (try dsimp only); repeat' split
  all_goals (refine ⟨?_, ?_, ?_, ?_, ?_, ?_, ?_, ?_, ?_, ?_, ?_, ?_, ?_, ?_, ?_, ?_, ?_, ?_, ?_, ?_, ?_, ?_⟩ <;> simp)

@[simp] theorem takeRoll_frame (p : Fin 4) (e : RollEntry) (s : State) :
    (takeRoll p e s).pending = s.pending ∧
    (takeRoll p e s).now = s.now ∧
    (takeRoll p e s).free = s.free ∧
    (takeRoll p e s).power = s.power ∧
    (takeRoll p e s).host = s.host ∧
    (takeRoll p e s).lat = s.lat ∧
    (takeRoll p e s).win = s.win ∧
    (takeRoll p e s).cfg = s.cfg ∧
    (takeRoll p e s).otp = s.otp ∧
    (takeRoll p e s).src = s.src ∧
    (takeRoll p e s).paceFrac = s.paceFrac ∧
    (takeRoll p e s).mains = s.mains ∧
    (takeRoll p e s).stitch = s.stitch ∧
    (takeRoll p e s).chan = s.chan ∧
    (takeRoll p e s).supply = s.supply ∧
    (takeRoll p e s).sto = s.sto ∧
    (takeRoll p e s).spread = s.spread ∧
    (takeRoll p e s).supv = s.supv ∧
    (takeRoll p e s).pin = s.pin ∧
    (takeRoll p e s).store = s.store ∧
    (takeRoll p e s).bak = s.bak ∧
    (takeRoll p e s).proof = s.proof := by
  unfold takeRoll; (try dsimp only); repeat' split
  all_goals (refine ⟨?_, ?_, ?_, ?_, ?_, ?_, ?_, ?_, ?_, ?_, ?_, ?_, ?_, ?_, ?_, ?_, ?_, ?_, ?_, ?_, ?_, ?_⟩ <;> simp)

@[simp] theorem ageRoll_frame (s : State) :
    (ageRoll s).pending = s.pending ∧
    (ageRoll s).now = s.now ∧
    (ageRoll s).free = s.free ∧
    (ageRoll s).power = s.power ∧
    (ageRoll s).host = s.host ∧
    (ageRoll s).lat = s.lat ∧
    (ageRoll s).win = s.win ∧
    (ageRoll s).cfg = s.cfg ∧
    (ageRoll s).boot = s.boot ∧
    (ageRoll s).otp = s.otp ∧
    (ageRoll s).src = s.src ∧
    (ageRoll s).paceFrac = s.paceFrac ∧
    (ageRoll s).mains = s.mains ∧
    (ageRoll s).stitch = s.stitch ∧
    (ageRoll s).axes = s.axes ∧
    (ageRoll s).chan = s.chan ∧
    (ageRoll s).supply = s.supply ∧
    (ageRoll s).sto = s.sto ∧
    (ageRoll s).spread = s.spread ∧
    (ageRoll s).supv = s.supv ∧
    (ageRoll s).fb = s.fb ∧
    (ageRoll s).cnv = s.cnv ∧
    (ageRoll s).pin = s.pin ∧
    (ageRoll s).flt = s.flt ∧
    (ageRoll s).store = s.store ∧
    (ageRoll s).bak = s.bak ∧
    (ageRoll s).proof = s.proof := by
  unfold ageRoll; (try dsimp only); repeat' split
  all_goals (refine ⟨?_, ?_, ?_, ?_, ?_, ?_, ?_, ?_, ?_, ?_, ?_, ?_, ?_, ?_, ?_, ?_, ?_, ?_, ?_, ?_, ?_, ?_, ?_, ?_, ?_, ?_, ?_⟩ <;> simp)

@[simp] theorem gangStop_frame (n : Fin 8) (s : State) :
    (gangStop n s).pending = s.pending ∧
    (gangStop n s).now = s.now ∧
    (gangStop n s).free = s.free ∧
    (gangStop n s).power = s.power ∧
    (gangStop n s).host = s.host ∧
    (gangStop n s).lat = s.lat ∧
    (gangStop n s).win = s.win ∧
    (gangStop n s).cfg = s.cfg ∧
    (gangStop n s).boot = s.boot ∧
    (gangStop n s).otp = s.otp ∧
    (gangStop n s).src = s.src ∧
    (gangStop n s).paceFrac = s.paceFrac ∧
    (gangStop n s).mains = s.mains ∧
    (gangStop n s).stitch = s.stitch ∧
    (gangStop n s).chan = s.chan ∧
    (gangStop n s).supply = s.supply ∧
    (gangStop n s).sto = s.sto ∧
    (gangStop n s).spread = s.spread ∧
    (gangStop n s).supv = s.supv ∧
    (gangStop n s).fb = s.fb ∧
    (gangStop n s).cnv = s.cnv ∧
    (gangStop n s).pin = s.pin ∧
    (gangStop n s).seam = s.seam ∧
    (gangStop n s).flt = s.flt ∧
    (gangStop n s).store = s.store ∧
    (gangStop n s).bak = s.bak ∧
    (gangStop n s).proof = s.proof := by
  unfold gangStop; (try dsimp only); repeat' split
  all_goals (refine ⟨?_, ?_, ?_, ?_, ?_, ?_, ?_, ?_, ?_, ?_, ?_, ?_, ?_, ?_, ?_, ?_, ?_, ?_, ?_, ?_, ?_, ?_, ?_, ?_, ?_, ?_, ?_⟩ <;> simp)

@[simp] theorem stopUnformed_frame (s : State) :
    (stopUnformed s).pending = s.pending ∧
    (stopUnformed s).now = s.now ∧
    (stopUnformed s).free = s.free ∧
    (stopUnformed s).power = s.power ∧
    (stopUnformed s).host = s.host ∧
    (stopUnformed s).lat = s.lat ∧
    (stopUnformed s).win = s.win ∧
    (stopUnformed s).cfg = s.cfg ∧
    (stopUnformed s).boot = s.boot ∧
    (stopUnformed s).otp = s.otp ∧
    (stopUnformed s).src = s.src ∧
    (stopUnformed s).paceFrac = s.paceFrac ∧
    (stopUnformed s).mains = s.mains ∧
    (stopUnformed s).stitch = s.stitch ∧
    (stopUnformed s).chan = s.chan ∧
    (stopUnformed s).supply = s.supply ∧
    (stopUnformed s).sto = s.sto ∧
    (stopUnformed s).spread = s.spread ∧
    (stopUnformed s).supv = s.supv ∧
    (stopUnformed s).fb = s.fb ∧
    (stopUnformed s).cnv = s.cnv ∧
    (stopUnformed s).pin = s.pin ∧
    (stopUnformed s).seam = s.seam ∧
    (stopUnformed s).flt = s.flt ∧
    (stopUnformed s).store = s.store ∧
    (stopUnformed s).bak = s.bak ∧
    (stopUnformed s).proof = s.proof := by
  unfold stopUnformed; (try dsimp only); repeat' split
  all_goals (refine ⟨?_, ?_, ?_, ?_, ?_, ?_, ?_, ?_, ?_, ?_, ?_, ?_, ?_, ?_, ?_, ?_, ?_, ?_, ?_, ?_, ?_, ?_, ?_, ?_, ?_, ?_, ?_⟩ <;> simp)

@[simp] theorem breakGang_frame (kind3 : Bool) (s : State) :
    (breakGang kind3 s).pending = s.pending ∧
    (breakGang kind3 s).now = s.now ∧
    (breakGang kind3 s).free = s.free ∧
    (breakGang kind3 s).power = s.power ∧
    (breakGang kind3 s).host = s.host ∧
    (breakGang kind3 s).lat = s.lat ∧
    (breakGang kind3 s).win = s.win ∧
    (breakGang kind3 s).cfg = s.cfg ∧
    (breakGang kind3 s).boot = s.boot ∧
    (breakGang kind3 s).otp = s.otp ∧
    (breakGang kind3 s).src = s.src ∧
    (breakGang kind3 s).paceFrac = s.paceFrac ∧
    (breakGang kind3 s).mains = s.mains ∧
    (breakGang kind3 s).stitch = s.stitch ∧
    (breakGang kind3 s).chan = s.chan ∧
    (breakGang kind3 s).supply = s.supply ∧
    (breakGang kind3 s).sto = s.sto ∧
    (breakGang kind3 s).spread = s.spread ∧
    (breakGang kind3 s).supv = s.supv ∧
    (breakGang kind3 s).fb = s.fb ∧
    (breakGang kind3 s).cnv = s.cnv ∧
    (breakGang kind3 s).pin = s.pin ∧
    (breakGang kind3 s).flt = s.flt ∧
    (breakGang kind3 s).store = s.store ∧
    (breakGang kind3 s).bak = s.bak ∧
    (breakGang kind3 s).proof = s.proof := by
  unfold breakGang; (try dsimp only); repeat' split
  all_goals (refine ⟨?_, ?_, ?_, ?_, ?_, ?_, ?_, ?_, ?_, ?_, ?_, ?_, ?_, ?_, ?_, ?_, ?_, ?_, ?_, ?_, ?_, ?_, ?_, ?_, ?_, ?_⟩ <;> simp)

@[simp] theorem stepGang_frame (s : State) :
    (stepGang s).pending = s.pending ∧
    (stepGang s).now = s.now ∧
    (stepGang s).free = s.free ∧
    (stepGang s).power = s.power ∧
    (stepGang s).host = s.host ∧
    (stepGang s).lat = s.lat ∧
    (stepGang s).win = s.win ∧
    (stepGang s).cfg = s.cfg ∧
    (stepGang s).boot = s.boot ∧
    (stepGang s).otp = s.otp ∧
    (stepGang s).src = s.src ∧
    (stepGang s).paceFrac = s.paceFrac ∧
    (stepGang s).mains = s.mains ∧
    (stepGang s).stitch = s.stitch ∧
    (stepGang s).chan = s.chan ∧
    (stepGang s).supply = s.supply ∧
    (stepGang s).sto = s.sto ∧
    (stepGang s).spread = s.spread ∧
    (stepGang s).supv = s.supv ∧
    (stepGang s).fb = s.fb ∧
    (stepGang s).cnv = s.cnv ∧
    (stepGang s).pin = s.pin ∧
    (stepGang s).flt = s.flt ∧
    (stepGang s).store = s.store ∧
    (stepGang s).bak = s.bak ∧
    (stepGang s).proof = s.proof := by
  unfold stepGang; (try dsimp only); repeat' split
  all_goals (refine ⟨?_, ?_, ?_, ?_, ?_, ?_, ?_, ?_, ?_, ?_, ?_, ?_, ?_, ?_, ?_, ?_, ?_, ?_, ?_, ?_, ?_, ?_, ?_, ?_, ?_, ?_⟩ <;> simp)

@[simp] theorem gangStale_frame (s : State) :
    (gangStale s).pending = s.pending ∧
    (gangStale s).now = s.now ∧
    (gangStale s).free = s.free ∧
    (gangStale s).power = s.power ∧
    (gangStale s).host = s.host ∧
    (gangStale s).lat = s.lat ∧
    (gangStale s).win = s.win ∧
    (gangStale s).cfg = s.cfg ∧
    (gangStale s).boot = s.boot ∧
    (gangStale s).otp = s.otp ∧
    (gangStale s).src = s.src ∧
    (gangStale s).paceFrac = s.paceFrac ∧
    (gangStale s).mains = s.mains ∧
    (gangStale s).stitch = s.stitch ∧
    (gangStale s).chan = s.chan ∧
    (gangStale s).supply = s.supply ∧
    (gangStale s).sto = s.sto ∧
    (gangStale s).spread = s.spread ∧
    (gangStale s).supv = s.supv ∧
    (gangStale s).fb = s.fb ∧
    (gangStale s).cnv = s.cnv ∧
    (gangStale s).pin = s.pin ∧
    (gangStale s).flt = s.flt ∧
    (gangStale s).store = s.store ∧
    (gangStale s).bak = s.bak ∧
    (gangStale s).proof = s.proof := by
  unfold gangStale; (try dsimp only); repeat' split
  all_goals (refine ⟨?_, ?_, ?_, ?_, ?_, ?_, ?_, ?_, ?_, ?_, ?_, ?_, ?_, ?_, ?_, ?_, ?_, ?_, ?_, ?_, ?_, ?_, ?_, ?_, ?_, ?_⟩ <;> simp)

@[simp] theorem sendAlert_frame (a : BitVec 8 × AlertKind) (skip : Option (Fin 4)) (s : State) :
    (sendAlert a skip s).pending = s.pending ∧
    (sendAlert a skip s).now = s.now ∧
    (sendAlert a skip s).free = s.free ∧
    (sendAlert a skip s).power = s.power ∧
    (sendAlert a skip s).host = s.host ∧
    (sendAlert a skip s).lat = s.lat ∧
    (sendAlert a skip s).win = s.win ∧
    (sendAlert a skip s).cfg = s.cfg ∧
    (sendAlert a skip s).boot = s.boot ∧
    (sendAlert a skip s).otp = s.otp ∧
    (sendAlert a skip s).src = s.src ∧
    (sendAlert a skip s).paceFrac = s.paceFrac ∧
    (sendAlert a skip s).mains = s.mains ∧
    (sendAlert a skip s).stitch = s.stitch ∧
    (sendAlert a skip s).axes = s.axes ∧
    (sendAlert a skip s).chan = s.chan ∧
    (sendAlert a skip s).supply = s.supply ∧
    (sendAlert a skip s).sto = s.sto ∧
    (sendAlert a skip s).spread = s.spread ∧
    (sendAlert a skip s).supv = s.supv ∧
    (sendAlert a skip s).fb = s.fb ∧
    (sendAlert a skip s).cnv = s.cnv ∧
    (sendAlert a skip s).pin = s.pin ∧
    (sendAlert a skip s).flt = s.flt ∧
    (sendAlert a skip s).store = s.store ∧
    (sendAlert a skip s).bak = s.bak ∧
    (sendAlert a skip s).proof = s.proof := by
  unfold sendAlert; (try dsimp only); repeat' split
  all_goals (refine ⟨?_, ?_, ?_, ?_, ?_, ?_, ?_, ?_, ?_, ?_, ?_, ?_, ?_, ?_, ?_, ?_, ?_, ?_, ?_, ?_, ?_, ?_, ?_, ?_, ?_, ?_, ?_⟩ <;> simp)

@[simp] theorem alertTrip_frame (s : State) :
    (alertTrip s).pending = s.pending ∧
    (alertTrip s).now = s.now ∧
    (alertTrip s).free = s.free ∧
    (alertTrip s).power = s.power ∧
    (alertTrip s).host = s.host ∧
    (alertTrip s).lat = s.lat ∧
    (alertTrip s).win = s.win ∧
    (alertTrip s).cfg = s.cfg ∧
    (alertTrip s).boot = s.boot ∧
    (alertTrip s).otp = s.otp ∧
    (alertTrip s).src = s.src ∧
    (alertTrip s).paceFrac = s.paceFrac ∧
    (alertTrip s).mains = s.mains ∧
    (alertTrip s).stitch = s.stitch ∧
    (alertTrip s).axes = s.axes ∧
    (alertTrip s).chan = s.chan ∧
    (alertTrip s).supply = s.supply ∧
    (alertTrip s).sto = s.sto ∧
    (alertTrip s).spread = s.spread ∧
    (alertTrip s).supv = s.supv ∧
    (alertTrip s).fb = s.fb ∧
    (alertTrip s).cnv = s.cnv ∧
    (alertTrip s).pin = s.pin ∧
    (alertTrip s).flt = s.flt ∧
    (alertTrip s).store = s.store ∧
    (alertTrip s).bak = s.bak ∧
    (alertTrip s).proof = s.proof := by
  unfold alertTrip; (try dsimp only); repeat' split
  all_goals (refine ⟨?_, ?_, ?_, ?_, ?_, ?_, ?_, ?_, ?_, ?_, ?_, ?_, ?_, ?_, ?_, ?_, ?_, ?_, ?_, ?_, ?_, ?_, ?_, ?_, ?_, ?_, ?_⟩ <;> simp)

@[simp] theorem stepAlerts_frame (s : State) :
    (stepAlerts s).pending = s.pending ∧
    (stepAlerts s).now = s.now ∧
    (stepAlerts s).free = s.free ∧
    (stepAlerts s).power = s.power ∧
    (stepAlerts s).host = s.host ∧
    (stepAlerts s).lat = s.lat ∧
    (stepAlerts s).win = s.win ∧
    (stepAlerts s).cfg = s.cfg ∧
    (stepAlerts s).boot = s.boot ∧
    (stepAlerts s).otp = s.otp ∧
    (stepAlerts s).src = s.src ∧
    (stepAlerts s).paceFrac = s.paceFrac ∧
    (stepAlerts s).mains = s.mains ∧
    (stepAlerts s).stitch = s.stitch ∧
    (stepAlerts s).axes = s.axes ∧
    (stepAlerts s).chan = s.chan ∧
    (stepAlerts s).supply = s.supply ∧
    (stepAlerts s).sto = s.sto ∧
    (stepAlerts s).spread = s.spread ∧
    (stepAlerts s).supv = s.supv ∧
    (stepAlerts s).fb = s.fb ∧
    (stepAlerts s).cnv = s.cnv ∧
    (stepAlerts s).pin = s.pin ∧
    (stepAlerts s).flt = s.flt ∧
    (stepAlerts s).store = s.store ∧
    (stepAlerts s).bak = s.bak ∧
    (stepAlerts s).proof = s.proof := by
  unfold stepAlerts; (try dsimp only); repeat' split
  all_goals (refine ⟨?_, ?_, ?_, ?_, ?_, ?_, ?_, ?_, ?_, ?_, ?_, ?_, ?_, ?_, ?_, ?_, ?_, ?_, ?_, ?_, ?_, ?_, ?_, ?_, ?_, ?_, ?_⟩ <;> simp)

@[simp] theorem alertReceived_frame (p : Fin 4) (g : BitVec 8) (k : AlertKind) (s : State) :
    (alertReceived p g k s).pending = s.pending ∧
    (alertReceived p g k s).now = s.now ∧
    (alertReceived p g k s).free = s.free ∧
    (alertReceived p g k s).power = s.power ∧
    (alertReceived p g k s).host = s.host ∧
    (alertReceived p g k s).lat = s.lat ∧
    (alertReceived p g k s).win = s.win ∧
    (alertReceived p g k s).cfg = s.cfg ∧
    (alertReceived p g k s).boot = s.boot ∧
    (alertReceived p g k s).otp = s.otp ∧
    (alertReceived p g k s).src = s.src ∧
    (alertReceived p g k s).paceFrac = s.paceFrac ∧
    (alertReceived p g k s).mains = s.mains ∧
    (alertReceived p g k s).stitch = s.stitch ∧
    (alertReceived p g k s).chan = s.chan ∧
    (alertReceived p g k s).supply = s.supply ∧
    (alertReceived p g k s).sto = s.sto ∧
    (alertReceived p g k s).spread = s.spread ∧
    (alertReceived p g k s).supv = s.supv ∧
    (alertReceived p g k s).fb = s.fb ∧
    (alertReceived p g k s).cnv = s.cnv ∧
    (alertReceived p g k s).pin = s.pin ∧
    (alertReceived p g k s).flt = s.flt ∧
    (alertReceived p g k s).store = s.store ∧
    (alertReceived p g k s).bak = s.bak ∧
    (alertReceived p g k s).proof = s.proof := by
  unfold alertReceived; (try dsimp only); repeat' split
  all_goals (refine ⟨?_, ?_, ?_, ?_, ?_, ?_, ?_, ?_, ?_, ?_, ?_, ?_, ?_, ?_, ?_, ?_, ?_, ?_, ?_, ?_, ?_, ?_, ?_, ?_, ?_, ?_⟩ <;> simp)

@[simp] theorem stepSub_frame (k : Fin 4) (s : State) :
    (stepSub k s).pending = s.pending ∧
    (stepSub k s).now = s.now ∧
    (stepSub k s).free = s.free ∧
    (stepSub k s).power = s.power ∧
    (stepSub k s).host = s.host ∧
    (stepSub k s).lat = s.lat ∧
    (stepSub k s).win = s.win ∧
    (stepSub k s).cfg = s.cfg ∧
    (stepSub k s).boot = s.boot ∧
    (stepSub k s).otp = s.otp ∧
    (stepSub k s).src = s.src ∧
    (stepSub k s).paceFrac = s.paceFrac ∧
    (stepSub k s).mains = s.mains ∧
    (stepSub k s).stitch = s.stitch ∧
    (stepSub k s).axes = s.axes ∧
    (stepSub k s).chan = s.chan ∧
    (stepSub k s).supply = s.supply ∧
    (stepSub k s).sto = s.sto ∧
    (stepSub k s).spread = s.spread ∧
    (stepSub k s).supv = s.supv ∧
    (stepSub k s).fb = s.fb ∧
    (stepSub k s).cnv = s.cnv ∧
    (stepSub k s).pin = s.pin ∧
    (stepSub k s).flt = s.flt ∧
    (stepSub k s).store = s.store ∧
    (stepSub k s).bak = s.bak ∧
    (stepSub k s).proof = s.proof := by
  unfold stepSub; (try dsimp only); repeat' split
  all_goals (refine ⟨?_, ?_, ?_, ?_, ?_, ?_, ?_, ?_, ?_, ?_, ?_, ?_, ?_, ?_, ?_, ?_, ?_, ?_, ?_, ?_, ?_, ?_, ?_, ?_, ?_, ?_, ?_⟩ <;> simp)

@[simp] theorem stepPub_frame (q : Fin 2) (s : State) :
    (stepPub q s).pending = s.pending ∧
    (stepPub q s).now = s.now ∧
    (stepPub q s).free = s.free ∧
    (stepPub q s).power = s.power ∧
    (stepPub q s).host = s.host ∧
    (stepPub q s).lat = s.lat ∧
    (stepPub q s).win = s.win ∧
    (stepPub q s).cfg = s.cfg ∧
    (stepPub q s).boot = s.boot ∧
    (stepPub q s).otp = s.otp ∧
    (stepPub q s).src = s.src ∧
    (stepPub q s).paceFrac = s.paceFrac ∧
    (stepPub q s).mains = s.mains ∧
    (stepPub q s).stitch = s.stitch ∧
    (stepPub q s).axes = s.axes ∧
    (stepPub q s).chan = s.chan ∧
    (stepPub q s).supply = s.supply ∧
    (stepPub q s).sto = s.sto ∧
    (stepPub q s).spread = s.spread ∧
    (stepPub q s).supv = s.supv ∧
    (stepPub q s).fb = s.fb ∧
    (stepPub q s).cnv = s.cnv ∧
    (stepPub q s).pin = s.pin ∧
    (stepPub q s).flt = s.flt ∧
    (stepPub q s).store = s.store ∧
    (stepPub q s).bak = s.bak ∧
    (stepPub q s).proof = s.proof := by
  unfold stepPub; (try dsimp only); repeat' split
  all_goals (refine ⟨?_, ?_, ?_, ?_, ?_, ?_, ?_, ?_, ?_, ?_, ?_, ?_, ?_, ?_, ?_, ?_, ?_, ?_, ?_, ?_, ?_, ?_, ?_, ?_, ?_, ?_, ?_⟩ <;> simp)

@[simp] theorem turnSamples_frame (s : State) :
    (turnSamples s).pending = s.pending ∧
    (turnSamples s).now = s.now ∧
    (turnSamples s).free = s.free ∧
    (turnSamples s).power = s.power ∧
    (turnSamples s).host = s.host ∧
    (turnSamples s).lat = s.lat ∧
    (turnSamples s).win = s.win ∧
    (turnSamples s).cfg = s.cfg ∧
    (turnSamples s).boot = s.boot ∧
    (turnSamples s).otp = s.otp ∧
    (turnSamples s).src = s.src ∧
    (turnSamples s).paceFrac = s.paceFrac ∧
    (turnSamples s).mains = s.mains ∧
    (turnSamples s).stitch = s.stitch ∧
    (turnSamples s).axes = s.axes ∧
    (turnSamples s).chan = s.chan ∧
    (turnSamples s).supply = s.supply ∧
    (turnSamples s).sto = s.sto ∧
    (turnSamples s).spread = s.spread ∧
    (turnSamples s).supv = s.supv ∧
    (turnSamples s).fb = s.fb ∧
    (turnSamples s).cnv = s.cnv ∧
    (turnSamples s).pin = s.pin ∧
    (turnSamples s).flt = s.flt ∧
    (turnSamples s).store = s.store ∧
    (turnSamples s).bak = s.bak ∧
    (turnSamples s).proof = s.proof := by
  unfold turnSamples; (try dsimp only); repeat' split
  all_goals (refine ⟨?_, ?_, ?_, ?_, ?_, ?_, ?_, ?_, ?_, ?_, ?_, ?_, ?_, ?_, ?_, ?_, ?_, ?_, ?_, ?_, ?_, ?_, ?_, ?_, ?_, ?_, ?_⟩ <;> simp)

@[simp] theorem sentMessage_frame (m : Msg) (s : State) :
    (sentMessage m s).pending = s.pending ∧
    (sentMessage m s).now = s.now ∧
    (sentMessage m s).free = s.free ∧
    (sentMessage m s).power = s.power ∧
    (sentMessage m s).host = s.host ∧
    (sentMessage m s).lat = s.lat ∧
    (sentMessage m s).win = s.win ∧
    (sentMessage m s).cfg = s.cfg ∧
    (sentMessage m s).boot = s.boot ∧
    (sentMessage m s).otp = s.otp ∧
    (sentMessage m s).src = s.src ∧
    (sentMessage m s).paceFrac = s.paceFrac ∧
    (sentMessage m s).mains = s.mains ∧
    (sentMessage m s).stitch = s.stitch ∧
    (sentMessage m s).axes = s.axes ∧
    (sentMessage m s).chan = s.chan ∧
    (sentMessage m s).supply = s.supply ∧
    (sentMessage m s).sto = s.sto ∧
    (sentMessage m s).spread = s.spread ∧
    (sentMessage m s).supv = s.supv ∧
    (sentMessage m s).fb = s.fb ∧
    (sentMessage m s).cnv = s.cnv ∧
    (sentMessage m s).pin = s.pin ∧
    (sentMessage m s).flt = s.flt ∧
    (sentMessage m s).store = s.store ∧
    (sentMessage m s).bak = s.bak ∧
    (sentMessage m s).proof = s.proof := by
  unfold sentMessage; (try dsimp only); repeat' split
  all_goals (refine ⟨?_, ?_, ?_, ?_, ?_, ?_, ?_, ?_, ?_, ?_, ?_, ?_, ?_, ?_, ?_, ?_, ?_, ?_, ?_, ?_, ?_, ?_, ?_, ?_, ?_, ?_, ?_⟩ <;> simp)

@[simp] theorem sendFrame_frame (p : Fin 4) (s : State) :
    (sendFrame p s).pending = s.pending ∧
    (sendFrame p s).now = s.now ∧
    (sendFrame p s).free = s.free ∧
    (sendFrame p s).power = s.power ∧
    (sendFrame p s).host = s.host ∧
    (sendFrame p s).lat = s.lat ∧
    (sendFrame p s).win = s.win ∧
    (sendFrame p s).cfg = s.cfg ∧
    (sendFrame p s).boot = s.boot ∧
    (sendFrame p s).otp = s.otp ∧
    (sendFrame p s).src = s.src ∧
    (sendFrame p s).paceFrac = s.paceFrac ∧
    (sendFrame p s).mains = s.mains ∧
    (sendFrame p s).stitch = s.stitch ∧
    (sendFrame p s).axes = s.axes ∧
    (sendFrame p s).chan = s.chan ∧
    (sendFrame p s).supply = s.supply ∧
    (sendFrame p s).sto = s.sto ∧
    (sendFrame p s).spread = s.spread ∧
    (sendFrame p s).supv = s.supv ∧
    (sendFrame p s).fb = s.fb ∧
    (sendFrame p s).cnv = s.cnv ∧
    (sendFrame p s).pin = s.pin ∧
    (sendFrame p s).flt = s.flt ∧
    (sendFrame p s).store = s.store ∧
    (sendFrame p s).bak = s.bak ∧
    (sendFrame p s).proof = s.proof := by
  unfold sendFrame; (try dsimp only); repeat' split
  all_goals (refine ⟨?_, ?_, ?_, ?_, ?_, ?_, ?_, ?_, ?_, ?_, ?_, ?_, ?_, ?_, ?_, ?_, ?_, ?_, ?_, ?_, ?_, ?_, ?_, ?_, ?_, ?_, ?_⟩ <;> simp)

@[simp] theorem seamCycleStart_frame (s : State) :
    (seamCycleStart s).pending = s.pending ∧
    (seamCycleStart s).now = s.now ∧
    (seamCycleStart s).free = s.free ∧
    (seamCycleStart s).power = s.power ∧
    (seamCycleStart s).host = s.host ∧
    (seamCycleStart s).lat = s.lat ∧
    (seamCycleStart s).win = s.win ∧
    (seamCycleStart s).cfg = s.cfg ∧
    (seamCycleStart s).boot = s.boot ∧
    (seamCycleStart s).otp = s.otp ∧
    (seamCycleStart s).paceFrac = s.paceFrac ∧
    (seamCycleStart s).mains = s.mains ∧
    (seamCycleStart s).stitch = s.stitch ∧
    (seamCycleStart s).chan = s.chan ∧
    (seamCycleStart s).supply = s.supply ∧
    (seamCycleStart s).sto = s.sto ∧
    (seamCycleStart s).spread = s.spread ∧
    (seamCycleStart s).supv = s.supv ∧
    (seamCycleStart s).pin = s.pin ∧
    (seamCycleStart s).bak = s.bak ∧
    (seamCycleStart s).proof = s.proof := by
  unfold seamCycleStart; (try dsimp only); repeat' split
  all_goals (refine ⟨?_, ?_, ?_, ?_, ?_, ?_, ?_, ?_, ?_, ?_, ?_, ?_, ?_, ?_, ?_, ?_, ?_, ?_, ?_, ?_, ?_⟩ <;> simp)

@[simp] theorem seamSwapped_frame (old : State) (s : State) :
    (seamSwapped old s).pending = s.pending ∧
    (seamSwapped old s).now = s.now ∧
    (seamSwapped old s).free = s.free ∧
    (seamSwapped old s).power = s.power ∧
    (seamSwapped old s).host = s.host ∧
    (seamSwapped old s).lat = s.lat ∧
    (seamSwapped old s).win = s.win ∧
    (seamSwapped old s).cfg = s.cfg ∧
    (seamSwapped old s).boot = s.boot ∧
    (seamSwapped old s).otp = s.otp ∧
    (seamSwapped old s).src = s.src ∧
    (seamSwapped old s).paceFrac = s.paceFrac ∧
    (seamSwapped old s).mains = s.mains ∧
    (seamSwapped old s).stitch = s.stitch ∧
    (seamSwapped old s).chan = s.chan ∧
    (seamSwapped old s).supply = s.supply ∧
    (seamSwapped old s).sto = s.sto ∧
    (seamSwapped old s).spread = s.spread ∧
    (seamSwapped old s).supv = s.supv ∧
    (seamSwapped old s).fb = s.fb ∧
    (seamSwapped old s).cnv = s.cnv ∧
    (seamSwapped old s).pin = s.pin ∧
    (seamSwapped old s).flt = s.flt ∧
    (seamSwapped old s).store = s.store ∧
    (seamSwapped old s).bak = s.bak ∧
    (seamSwapped old s).proof = s.proof := by
  unfold seamSwapped; (try dsimp only); repeat' split
  all_goals simp [ite_pending, ite_now, ite_free, ite_power, ite_host, ite_lat, ite_win, ite_cfg, ite_boot, ite_otp, ite_src, ite_paceFrac, ite_mains, ite_stitch, ite_axes, ite_chan, ite_supply, ite_sto, ite_spread, ite_supv, ite_fb, ite_cnv, ite_pin, ite_seam, ite_flt, ite_store, ite_bak, ite_proof]

/-! ### Messages -/

@[simp] theorem enqueue_frame (p : Fin 4) (m : Msg) (s : State) :
    (enqueue p m s).pending = s.pending ∧
    (enqueue p m s).now = s.now ∧
    (enqueue p m s).free = s.free ∧
    (enqueue p m s).power = s.power ∧
    (enqueue p m s).host = s.host ∧
    (enqueue p m s).lat = s.lat ∧
    (enqueue p m s).win = s.win ∧
    (enqueue p m s).cfg = s.cfg ∧
    (enqueue p m s).boot = s.boot ∧
    (enqueue p m s).otp = s.otp ∧
    (enqueue p m s).src = s.src ∧
    (enqueue p m s).paceFrac = s.paceFrac ∧
    (enqueue p m s).mains = s.mains ∧
    (enqueue p m s).stitch = s.stitch ∧
    (enqueue p m s).axes = s.axes ∧
    (enqueue p m s).chan = s.chan ∧
    (enqueue p m s).supply = s.supply ∧
    (enqueue p m s).sto = s.sto ∧
    (enqueue p m s).spread = s.spread ∧
    (enqueue p m s).supv = s.supv ∧
    (enqueue p m s).fb = s.fb ∧
    (enqueue p m s).cnv = s.cnv ∧
    (enqueue p m s).pin = s.pin ∧
    (enqueue p m s).flt = s.flt ∧
    (enqueue p m s).store = s.store ∧
    (enqueue p m s).bak = s.bak ∧
    (enqueue p m s).proof = s.proof := by
  unfold enqueue; (try dsimp only); repeat' split
  all_goals (refine ⟨?_, ?_, ?_, ?_, ?_, ?_, ?_, ?_, ?_, ?_, ?_, ?_, ?_, ?_, ?_, ?_, ?_, ?_, ?_, ?_, ?_, ?_, ?_, ?_, ?_, ?_, ?_⟩ <;> simp)

@[simp] theorem sendOutbox_frame (s : State) :
    (sendOutbox s).pending = s.pending ∧
    (sendOutbox s).now = s.now ∧
    (sendOutbox s).free = s.free ∧
    (sendOutbox s).power = s.power ∧
    (sendOutbox s).host = s.host ∧
    (sendOutbox s).lat = s.lat ∧
    (sendOutbox s).win = s.win ∧
    (sendOutbox s).cfg = s.cfg ∧
    (sendOutbox s).boot = s.boot ∧
    (sendOutbox s).otp = s.otp ∧
    (sendOutbox s).src = s.src ∧
    (sendOutbox s).paceFrac = s.paceFrac ∧
    (sendOutbox s).mains = s.mains ∧
    (sendOutbox s).stitch = s.stitch ∧
    (sendOutbox s).axes = s.axes ∧
    (sendOutbox s).chan = s.chan ∧
    (sendOutbox s).supply = s.supply ∧
    (sendOutbox s).sto = s.sto ∧
    (sendOutbox s).spread = s.spread ∧
    (sendOutbox s).supv = s.supv ∧
    (sendOutbox s).fb = s.fb ∧
    (sendOutbox s).cnv = s.cnv ∧
    (sendOutbox s).pin = s.pin ∧
    (sendOutbox s).flt = s.flt ∧
    (sendOutbox s).store = s.store ∧
    (sendOutbox s).bak = s.bak ∧
    (sendOutbox s).proof = s.proof := by
  unfold sendOutbox; (try dsimp only); repeat' split
  all_goals (refine ⟨?_, ?_, ?_, ?_, ?_, ?_, ?_, ?_, ?_, ?_, ?_, ?_, ?_, ?_, ?_, ?_, ?_, ?_, ?_, ?_, ?_, ?_, ?_, ?_, ?_, ?_, ?_⟩ <;> simp)

@[simp] theorem fillInbox_frame (m : Msg) (s : State) :
    (fillInbox m s).pending = s.pending ∧
    (fillInbox m s).now = s.now ∧
    (fillInbox m s).free = s.free ∧
    (fillInbox m s).power = s.power ∧
    (fillInbox m s).host = s.host ∧
    (fillInbox m s).lat = s.lat ∧
    (fillInbox m s).win = s.win ∧
    (fillInbox m s).cfg = s.cfg ∧
    (fillInbox m s).boot = s.boot ∧
    (fillInbox m s).otp = s.otp ∧
    (fillInbox m s).src = s.src ∧
    (fillInbox m s).paceFrac = s.paceFrac ∧
    (fillInbox m s).mains = s.mains ∧
    (fillInbox m s).stitch = s.stitch ∧
    (fillInbox m s).axes = s.axes ∧
    (fillInbox m s).chan = s.chan ∧
    (fillInbox m s).supply = s.supply ∧
    (fillInbox m s).sto = s.sto ∧
    (fillInbox m s).spread = s.spread ∧
    (fillInbox m s).supv = s.supv ∧
    (fillInbox m s).fb = s.fb ∧
    (fillInbox m s).cnv = s.cnv ∧
    (fillInbox m s).pin = s.pin ∧
    (fillInbox m s).flt = s.flt ∧
    (fillInbox m s).store = s.store ∧
    (fillInbox m s).bak = s.bak ∧
    (fillInbox m s).proof = s.proof := by
  unfold fillInbox; (try dsimp only); repeat' split
  all_goals (refine ⟨?_, ?_, ?_, ?_, ?_, ?_, ?_, ?_, ?_, ?_, ?_, ?_, ?_, ?_, ?_, ?_, ?_, ?_, ?_, ?_, ?_, ?_, ?_, ?_, ?_, ?_, ?_⟩ <;> simp)

@[simp] theorem releaseInbox_frame (s : State) :
    (releaseInbox s).pending = s.pending ∧
    (releaseInbox s).now = s.now ∧
    (releaseInbox s).free = s.free ∧
    (releaseInbox s).power = s.power ∧
    (releaseInbox s).host = s.host ∧
    (releaseInbox s).lat = s.lat ∧
    (releaseInbox s).win = s.win ∧
    (releaseInbox s).cfg = s.cfg ∧
    (releaseInbox s).boot = s.boot ∧
    (releaseInbox s).otp = s.otp ∧
    (releaseInbox s).src = s.src ∧
    (releaseInbox s).paceFrac = s.paceFrac ∧
    (releaseInbox s).mains = s.mains ∧
    (releaseInbox s).stitch = s.stitch ∧
    (releaseInbox s).axes = s.axes ∧
    (releaseInbox s).chan = s.chan ∧
    (releaseInbox s).supply = s.supply ∧
    (releaseInbox s).sto = s.sto ∧
    (releaseInbox s).spread = s.spread ∧
    (releaseInbox s).supv = s.supv ∧
    (releaseInbox s).fb = s.fb ∧
    (releaseInbox s).cnv = s.cnv ∧
    (releaseInbox s).pin = s.pin ∧
    (releaseInbox s).flt = s.flt ∧
    (releaseInbox s).store = s.store ∧
    (releaseInbox s).bak = s.bak ∧
    (releaseInbox s).proof = s.proof := by
  unfold releaseInbox; (try dsimp only); repeat' split
  all_goals (refine ⟨?_, ?_, ?_, ?_, ?_, ?_, ?_, ?_, ?_, ?_, ?_, ?_, ?_, ?_, ?_, ?_, ?_, ?_, ?_, ?_, ?_, ?_, ?_, ?_, ?_, ?_, ?_⟩ <;> simp)

/-! ### Spaces -/

@[simp] theorem spaceReadEffect_frame (space a : Nat) (s : State) :
    (spaceReadEffect space a s).pending = s.pending ∧
    (spaceReadEffect space a s).now = s.now ∧
    (spaceReadEffect space a s).free = s.free ∧
    (spaceReadEffect space a s).power = s.power ∧
    (spaceReadEffect space a s).host = s.host ∧
    (spaceReadEffect space a s).lat = s.lat ∧
    (spaceReadEffect space a s).win = s.win ∧
    (spaceReadEffect space a s).cfg = s.cfg ∧
    (spaceReadEffect space a s).boot = s.boot ∧
    (spaceReadEffect space a s).otp = s.otp ∧
    (spaceReadEffect space a s).src = s.src ∧
    (spaceReadEffect space a s).paceFrac = s.paceFrac ∧
    (spaceReadEffect space a s).mains = s.mains ∧
    (spaceReadEffect space a s).axes = s.axes ∧
    (spaceReadEffect space a s).chan = s.chan ∧
    (spaceReadEffect space a s).supply = s.supply ∧
    (spaceReadEffect space a s).sto = s.sto ∧
    (spaceReadEffect space a s).spread = s.spread ∧
    (spaceReadEffect space a s).supv = s.supv ∧
    (spaceReadEffect space a s).pin = s.pin ∧
    (spaceReadEffect space a s).flt = s.flt ∧
    (spaceReadEffect space a s).store = s.store ∧
    (spaceReadEffect space a s).bak = s.bak ∧
    (spaceReadEffect space a s).proof = s.proof := by
  unfold spaceReadEffect; (try dsimp only); repeat' split
  all_goals (refine ⟨?_, ?_, ?_, ?_, ?_, ?_, ?_, ?_, ?_, ?_, ?_, ?_, ?_, ?_, ?_, ?_, ?_, ?_, ?_, ?_, ?_, ?_, ?_, ?_⟩ <;> simp)

@[simp] theorem putLive_frame (space a : Nat) (d : Word) (s : State) :
    (putLive space a d s).pending = s.pending ∧
    (putLive space a d s).now = s.now ∧
    (putLive space a d s).free = s.free ∧
    (putLive space a d s).power = s.power ∧
    (putLive space a d s).host = s.host ∧
    (putLive space a d s).lat = s.lat ∧
    (putLive space a d s).win = s.win ∧
    (putLive space a d s).boot = s.boot ∧
    (putLive space a d s).otp = s.otp ∧
    (putLive space a d s).src = s.src ∧
    (putLive space a d s).paceFrac = s.paceFrac ∧
    (putLive space a d s).mains = s.mains ∧
    (putLive space a d s).stitch = s.stitch ∧
    (putLive space a d s).axes = s.axes ∧
    (putLive space a d s).chan = s.chan ∧
    (putLive space a d s).supply = s.supply ∧
    (putLive space a d s).sto = s.sto ∧
    (putLive space a d s).spread = s.spread ∧
    (putLive space a d s).supv = s.supv ∧
    (putLive space a d s).fb = s.fb ∧
    (putLive space a d s).cnv = s.cnv ∧
    (putLive space a d s).pin = s.pin ∧
    (putLive space a d s).seam = s.seam ∧
    (putLive space a d s).flt = s.flt ∧
    (putLive space a d s).store = s.store ∧
    (putLive space a d s).bak = s.bak ∧
    (putLive space a d s).proof = s.proof := by
  unfold putLive; (try dsimp only); repeat' split
  all_goals (refine ⟨?_, ?_, ?_, ?_, ?_, ?_, ?_, ?_, ?_, ?_, ?_, ?_, ?_, ?_, ?_, ?_, ?_, ?_, ?_, ?_, ?_, ?_, ?_, ?_, ?_, ?_, ?_⟩ <;> simp)

@[simp] theorem putShadow_frame (space a : Nat) (d : Word) (s : State) :
    (putShadow space a d s).pending = s.pending ∧
    (putShadow space a d s).now = s.now ∧
    (putShadow space a d s).free = s.free ∧
    (putShadow space a d s).power = s.power ∧
    (putShadow space a d s).host = s.host ∧
    (putShadow space a d s).lat = s.lat ∧
    (putShadow space a d s).win = s.win ∧
    (putShadow space a d s).boot = s.boot ∧
    (putShadow space a d s).otp = s.otp ∧
    (putShadow space a d s).src = s.src ∧
    (putShadow space a d s).paceFrac = s.paceFrac ∧
    (putShadow space a d s).mains = s.mains ∧
    (putShadow space a d s).stitch = s.stitch ∧
    (putShadow space a d s).axes = s.axes ∧
    (putShadow space a d s).chan = s.chan ∧
    (putShadow space a d s).supply = s.supply ∧
    (putShadow space a d s).sto = s.sto ∧
    (putShadow space a d s).spread = s.spread ∧
    (putShadow space a d s).supv = s.supv ∧
    (putShadow space a d s).fb = s.fb ∧
    (putShadow space a d s).cnv = s.cnv ∧
    (putShadow space a d s).pin = s.pin ∧
    (putShadow space a d s).seam = s.seam ∧
    (putShadow space a d s).flt = s.flt ∧
    (putShadow space a d s).store = s.store ∧
    (putShadow space a d s).bak = s.bak ∧
    (putShadow space a d s).proof = s.proof := by
  unfold putShadow; (try dsimp only); repeat' split
  all_goals (refine ⟨?_, ?_, ?_, ?_, ?_, ?_, ?_, ?_, ?_, ?_, ?_, ?_, ?_, ?_, ?_, ?_, ?_, ?_, ?_, ?_, ?_, ?_, ?_, ?_, ?_, ?_, ?_⟩ <;> simp)

@[simp] theorem writeFine_frame (n : Fin 8) (d : Word) (s : State) :
    (writeFine n d s).pending = s.pending ∧
    (writeFine n d s).now = s.now ∧
    (writeFine n d s).free = s.free ∧
    (writeFine n d s).power = s.power ∧
    (writeFine n d s).host = s.host ∧
    (writeFine n d s).lat = s.lat ∧
    (writeFine n d s).win = s.win ∧
    (writeFine n d s).cfg = s.cfg ∧
    (writeFine n d s).boot = s.boot ∧
    (writeFine n d s).otp = s.otp ∧
    (writeFine n d s).src = s.src ∧
    (writeFine n d s).paceFrac = s.paceFrac ∧
    (writeFine n d s).mains = s.mains ∧
    (writeFine n d s).stitch = s.stitch ∧
    (writeFine n d s).chan = s.chan ∧
    (writeFine n d s).supply = s.supply ∧
    (writeFine n d s).sto = s.sto ∧
    (writeFine n d s).spread = s.spread ∧
    (writeFine n d s).supv = s.supv ∧
    (writeFine n d s).fb = s.fb ∧
    (writeFine n d s).cnv = s.cnv ∧
    (writeFine n d s).pin = s.pin ∧
    (writeFine n d s).seam = s.seam ∧
    (writeFine n d s).flt = s.flt ∧
    (writeFine n d s).store = s.store ∧
    (writeFine n d s).bak = s.bak ∧
    (writeFine n d s).proof = s.proof := by
  unfold writeFine; (try dsimp only); repeat' split
  all_goals (refine ⟨?_, ?_, ?_, ?_, ?_, ?_, ?_, ?_, ?_, ?_, ?_, ?_, ?_, ?_, ?_, ?_, ?_, ?_, ?_, ?_, ?_, ?_, ?_, ?_, ?_, ?_, ?_⟩ <;> simp)

@[simp] theorem writePinData_frame (i : Nat) (d : Word) (s : State) :
    (writePinData i d s).pending = s.pending ∧
    (writePinData i d s).now = s.now ∧
    (writePinData i d s).free = s.free ∧
    (writePinData i d s).power = s.power ∧
    (writePinData i d s).host = s.host ∧
    (writePinData i d s).lat = s.lat ∧
    (writePinData i d s).win = s.win ∧
    (writePinData i d s).cfg = s.cfg ∧
    (writePinData i d s).boot = s.boot ∧
    (writePinData i d s).otp = s.otp ∧
    (writePinData i d s).src = s.src ∧
    (writePinData i d s).paceFrac = s.paceFrac ∧
    (writePinData i d s).mains = s.mains ∧
    (writePinData i d s).stitch = s.stitch ∧
    (writePinData i d s).axes = s.axes ∧
    (writePinData i d s).chan = s.chan ∧
    (writePinData i d s).supply = s.supply ∧
    (writePinData i d s).sto = s.sto ∧
    (writePinData i d s).spread = s.spread ∧
    (writePinData i d s).supv = s.supv ∧
    (writePinData i d s).fb = s.fb ∧
    (writePinData i d s).cnv = s.cnv ∧
    (writePinData i d s).seam = s.seam ∧
    (writePinData i d s).flt = s.flt ∧
    (writePinData i d s).store = s.store ∧
    (writePinData i d s).bak = s.bak ∧
    (writePinData i d s).proof = s.proof := by
  unfold writePinData; (try dsimp only); repeat' split
  all_goals (refine ⟨?_, ?_, ?_, ?_, ?_, ?_, ?_, ?_, ?_, ?_, ?_, ?_, ?_, ?_, ?_, ?_, ?_, ?_, ?_, ?_, ?_, ?_, ?_, ?_, ?_, ?_, ?_⟩ <;> simp)

@[simp] theorem spaceWrite_frame (p : Party) (space a : Nat) (d : Word) (s : State) :
    (spaceWrite p space a d s).pending = s.pending ∧
    (spaceWrite p space a d s).now = s.now ∧
    (spaceWrite p space a d s).free = s.free ∧
    (spaceWrite p space a d s).power = s.power ∧
    (spaceWrite p space a d s).host = s.host ∧
    (spaceWrite p space a d s).lat = s.lat ∧
    (spaceWrite p space a d s).win = s.win ∧
    (spaceWrite p space a d s).boot = s.boot ∧
    (spaceWrite p space a d s).otp = s.otp ∧
    (spaceWrite p space a d s).src = s.src ∧
    (spaceWrite p space a d s).paceFrac = s.paceFrac ∧
    (spaceWrite p space a d s).mains = s.mains ∧
    (spaceWrite p space a d s).stitch = s.stitch ∧
    (spaceWrite p space a d s).chan = s.chan ∧
    (spaceWrite p space a d s).supply = s.supply ∧
    (spaceWrite p space a d s).sto = s.sto ∧
    (spaceWrite p space a d s).spread = s.spread ∧
    (spaceWrite p space a d s).supv = s.supv ∧
    (spaceWrite p space a d s).bak = s.bak := by
  unfold spaceWrite; (try dsimp only); repeat' split
  all_goals (refine ⟨?_, ?_, ?_, ?_, ?_, ?_, ?_, ?_, ?_, ?_, ?_, ?_, ?_, ?_, ?_, ?_, ?_, ?_, ?_⟩ <;> simp)

/-! ### Windows -/

@[simp] theorem modWindow_frame (sel : WinSel) (f : Window → Window) (s : State) :
    (modWindow sel f s).pending = s.pending ∧
    (modWindow sel f s).now = s.now ∧
    (modWindow sel f s).free = s.free ∧
    (modWindow sel f s).power = s.power ∧
    (modWindow sel f s).host = s.host ∧
    (modWindow sel f s).lat = s.lat ∧
    (modWindow sel f s).cfg = s.cfg ∧
    (modWindow sel f s).boot = s.boot ∧
    (modWindow sel f s).otp = s.otp ∧
    (modWindow sel f s).src = s.src ∧
    (modWindow sel f s).paceFrac = s.paceFrac ∧
    (modWindow sel f s).mains = s.mains ∧
    (modWindow sel f s).stitch = s.stitch ∧
    (modWindow sel f s).axes = s.axes ∧
    (modWindow sel f s).chan = s.chan ∧
    (modWindow sel f s).supply = s.supply ∧
    (modWindow sel f s).sto = s.sto ∧
    (modWindow sel f s).spread = s.spread ∧
    (modWindow sel f s).supv = s.supv ∧
    (modWindow sel f s).fb = s.fb ∧
    (modWindow sel f s).cnv = s.cnv ∧
    (modWindow sel f s).pin = s.pin ∧
    (modWindow sel f s).flt = s.flt ∧
    (modWindow sel f s).store = s.store ∧
    (modWindow sel f s).bak = s.bak ∧
    (modWindow sel f s).proof = s.proof := by
  unfold modWindow; (try dsimp only); repeat' split
  all_goals (refine ⟨?_, ?_, ?_, ?_, ?_, ?_, ?_, ?_, ?_, ?_, ?_, ?_, ?_, ?_, ?_, ?_, ?_, ?_, ?_, ?_, ?_, ?_, ?_, ?_, ?_, ?_⟩ <;> simp)

@[simp] theorem readData_frame (sel : WinSel) (s : State) :
    (readData sel s).pending = s.pending ∧
    (readData sel s).now = s.now ∧
    (readData sel s).free = s.free ∧
    (readData sel s).power = s.power ∧
    (readData sel s).host = s.host ∧
    (readData sel s).lat = s.lat ∧
    (readData sel s).cfg = s.cfg ∧
    (readData sel s).boot = s.boot ∧
    (readData sel s).otp = s.otp ∧
    (readData sel s).src = s.src ∧
    (readData sel s).paceFrac = s.paceFrac ∧
    (readData sel s).mains = s.mains ∧
    (readData sel s).axes = s.axes ∧
    (readData sel s).chan = s.chan ∧
    (readData sel s).supply = s.supply ∧
    (readData sel s).sto = s.sto ∧
    (readData sel s).spread = s.spread ∧
    (readData sel s).supv = s.supv ∧
    (readData sel s).pin = s.pin ∧
    (readData sel s).flt = s.flt ∧
    (readData sel s).store = s.store ∧
    (readData sel s).bak = s.bak ∧
    (readData sel s).proof = s.proof := by
  unfold readData; (try dsimp only); repeat' split
  all_goals (refine ⟨?_, ?_, ?_, ?_, ?_, ?_, ?_, ?_, ?_, ?_, ?_, ?_, ?_, ?_, ?_, ?_, ?_, ?_, ?_, ?_, ?_, ?_, ?_⟩ <;> simp)

@[simp] theorem writeData_frame (p : Party) (sel : WinSel) (d : Word) (s : State) :
    (writeData p sel d s).pending = s.pending ∧
    (writeData p sel d s).now = s.now ∧
    (writeData p sel d s).free = s.free ∧
    (writeData p sel d s).power = s.power ∧
    (writeData p sel d s).host = s.host ∧
    (writeData p sel d s).lat = s.lat ∧
    (writeData p sel d s).boot = s.boot ∧
    (writeData p sel d s).otp = s.otp ∧
    (writeData p sel d s).src = s.src ∧
    (writeData p sel d s).paceFrac = s.paceFrac ∧
    (writeData p sel d s).mains = s.mains ∧
    (writeData p sel d s).stitch = s.stitch ∧
    (writeData p sel d s).chan = s.chan ∧
    (writeData p sel d s).supply = s.supply ∧
    (writeData p sel d s).sto = s.sto ∧
    (writeData p sel d s).spread = s.spread ∧
    (writeData p sel d s).supv = s.supv ∧
    (writeData p sel d s).bak = s.bak := by
  unfold writeData; (try dsimp only); repeat' split
  all_goals (refine ⟨?_, ?_, ?_, ?_, ?_, ?_, ?_, ?_, ?_, ?_, ?_, ?_, ?_, ?_, ?_, ?_, ?_, ?_⟩ <;> simp)

@[simp] theorem fetchDone_frame (sel : WinSel) (s : State) :
    (fetchDone sel s).pending = s.pending ∧
    (fetchDone sel s).now = s.now ∧
    (fetchDone sel s).free = s.free ∧
    (fetchDone sel s).power = s.power ∧
    (fetchDone sel s).host = s.host ∧
    (fetchDone sel s).lat = s.lat ∧
    (fetchDone sel s).cfg = s.cfg ∧
    (fetchDone sel s).boot = s.boot ∧
    (fetchDone sel s).otp = s.otp ∧
    (fetchDone sel s).src = s.src ∧
    (fetchDone sel s).paceFrac = s.paceFrac ∧
    (fetchDone sel s).mains = s.mains ∧
    (fetchDone sel s).stitch = s.stitch ∧
    (fetchDone sel s).axes = s.axes ∧
    (fetchDone sel s).chan = s.chan ∧
    (fetchDone sel s).supply = s.supply ∧
    (fetchDone sel s).sto = s.sto ∧
    (fetchDone sel s).spread = s.spread ∧
    (fetchDone sel s).supv = s.supv ∧
    (fetchDone sel s).fb = s.fb ∧
    (fetchDone sel s).cnv = s.cnv ∧
    (fetchDone sel s).pin = s.pin ∧
    (fetchDone sel s).flt = s.flt ∧
    (fetchDone sel s).store = s.store ∧
    (fetchDone sel s).bak = s.bak ∧
    (fetchDone sel s).proof = s.proof := by
  unfold fetchDone; (try dsimp only); repeat' split
  all_goals (refine ⟨?_, ?_, ?_, ?_, ?_, ?_, ?_, ?_, ?_, ?_, ?_, ?_, ?_, ?_, ?_, ?_, ?_, ?_, ?_, ?_, ?_, ?_, ?_, ?_, ?_, ?_⟩ <;> simp)

@[simp] theorem writeDone_frame (sel : WinSel) (verified : Bool) (s : State) :
    (writeDone sel verified s).pending = s.pending ∧
    (writeDone sel verified s).now = s.now ∧
    (writeDone sel verified s).power = s.power ∧
    (writeDone sel verified s).host = s.host ∧
    (writeDone sel verified s).lat = s.lat ∧
    (writeDone sel verified s).cfg = s.cfg ∧
    (writeDone sel verified s).boot = s.boot ∧
    (writeDone sel verified s).otp = s.otp ∧
    (writeDone sel verified s).src = s.src ∧
    (writeDone sel verified s).paceFrac = s.paceFrac ∧
    (writeDone sel verified s).mains = s.mains ∧
    (writeDone sel verified s).stitch = s.stitch ∧
    (writeDone sel verified s).axes = s.axes ∧
    (writeDone sel verified s).chan = s.chan ∧
    (writeDone sel verified s).supply = s.supply ∧
    (writeDone sel verified s).sto = s.sto ∧
    (writeDone sel verified s).spread = s.spread ∧
    (writeDone sel verified s).supv = s.supv ∧
    (writeDone sel verified s).pin = s.pin ∧
    (writeDone sel verified s).proof = s.proof := by
  unfold writeDone; (try dsimp only); repeat' split
  all_goals (refine ⟨?_, ?_, ?_, ?_, ?_, ?_, ?_, ?_, ?_, ?_, ?_, ?_, ?_, ?_, ?_, ?_, ?_, ?_, ?_, ?_⟩ <;> simp)

/-! ### Registers -/

@[simp] theorem latchRead_frame (p : Party) (a : Nat) (s : State) :
    (latchRead p a s).pending = s.pending ∧
    (latchRead p a s).now = s.now ∧
    (latchRead p a s).free = s.free ∧
    (latchRead p a s).power = s.power ∧
    (latchRead p a s).win = s.win ∧
    (latchRead p a s).cfg = s.cfg ∧
    (latchRead p a s).boot = s.boot ∧
    (latchRead p a s).otp = s.otp ∧
    (latchRead p a s).src = s.src ∧
    (latchRead p a s).paceFrac = s.paceFrac ∧
    (latchRead p a s).mains = s.mains ∧
    (latchRead p a s).stitch = s.stitch ∧
    (latchRead p a s).axes = s.axes ∧
    (latchRead p a s).chan = s.chan ∧
    (latchRead p a s).supply = s.supply ∧
    (latchRead p a s).sto = s.sto ∧
    (latchRead p a s).spread = s.spread ∧
    (latchRead p a s).supv = s.supv ∧
    (latchRead p a s).fb = s.fb ∧
    (latchRead p a s).cnv = s.cnv ∧
    (latchRead p a s).pin = s.pin ∧
    (latchRead p a s).flt = s.flt ∧
    (latchRead p a s).store = s.store ∧
    (latchRead p a s).bak = s.bak ∧
    (latchRead p a s).proof = s.proof := by
  unfold latchRead; (try dsimp only); repeat' split
  all_goals (refine ⟨?_, ?_, ?_, ?_, ?_, ?_, ?_, ?_, ?_, ?_, ?_, ?_, ?_, ?_, ?_, ?_, ?_, ?_, ?_, ?_, ?_, ?_, ?_, ?_, ?_⟩ <;> simp)

@[simp] theorem clearRead_frame (a : Nat) (s : State) :
    (clearRead a s).pending = s.pending ∧
    (clearRead a s).now = s.now ∧
    (clearRead a s).free = s.free ∧
    (clearRead a s).power = s.power ∧
    (clearRead a s).lat = s.lat ∧
    (clearRead a s).win = s.win ∧
    (clearRead a s).cfg = s.cfg ∧
    (clearRead a s).otp = s.otp ∧
    (clearRead a s).src = s.src ∧
    (clearRead a s).paceFrac = s.paceFrac ∧
    (clearRead a s).mains = s.mains ∧
    (clearRead a s).stitch = s.stitch ∧
    (clearRead a s).chan = s.chan ∧
    (clearRead a s).supply = s.supply ∧
    (clearRead a s).sto = s.sto ∧
    (clearRead a s).spread = s.spread ∧
    (clearRead a s).supv = s.supv ∧
    (clearRead a s).store = s.store ∧
    (clearRead a s).proof = s.proof := by
  unfold clearRead; (try dsimp only); repeat' split
  all_goals (refine ⟨?_, ?_, ?_, ?_, ?_, ?_, ?_, ?_, ?_, ?_, ?_, ?_, ?_, ?_, ?_, ?_, ?_, ?_, ?_⟩ <;> simp)

@[simp] theorem regReadEffect_frame (p : Party) (a : Nat) (s : State) :
    (regReadEffect p a s).pending = s.pending ∧
    (regReadEffect p a s).now = s.now ∧
    (regReadEffect p a s).power = s.power ∧
    (regReadEffect p a s).cfg = s.cfg ∧
    (regReadEffect p a s).otp = s.otp ∧
    (regReadEffect p a s).src = s.src ∧
    (regReadEffect p a s).paceFrac = s.paceFrac ∧
    (regReadEffect p a s).mains = s.mains ∧
    (regReadEffect p a s).chan = s.chan ∧
    (regReadEffect p a s).supply = s.supply ∧
    (regReadEffect p a s).sto = s.sto ∧
    (regReadEffect p a s).spread = s.spread ∧
    (regReadEffect p a s).supv = s.supv ∧
    (regReadEffect p a s).store = s.store ∧
    (regReadEffect p a s).proof = s.proof := by
  unfold regReadEffect; (try dsimp only); repeat' split
  all_goals (refine ⟨?_, ?_, ?_, ?_, ?_, ?_, ?_, ?_, ?_, ?_, ?_, ?_, ?_, ?_, ?_⟩ <;> simp)

@[simp] theorem putLiveReg_frame (n : Fin 8) (f : LiveRegs → LiveRegs) (s : State) :
    (putLiveReg n f s).pending = s.pending ∧
    (putLiveReg n f s).now = s.now ∧
    (putLiveReg n f s).free = s.free ∧
    (putLiveReg n f s).power = s.power ∧
    (putLiveReg n f s).host = s.host ∧
    (putLiveReg n f s).lat = s.lat ∧
    (putLiveReg n f s).win = s.win ∧
    (putLiveReg n f s).cfg = s.cfg ∧
    (putLiveReg n f s).boot = s.boot ∧
    (putLiveReg n f s).otp = s.otp ∧
    (putLiveReg n f s).src = s.src ∧
    (putLiveReg n f s).paceFrac = s.paceFrac ∧
    (putLiveReg n f s).mains = s.mains ∧
    (putLiveReg n f s).stitch = s.stitch ∧
    (putLiveReg n f s).chan = s.chan ∧
    (putLiveReg n f s).supply = s.supply ∧
    (putLiveReg n f s).sto = s.sto ∧
    (putLiveReg n f s).spread = s.spread ∧
    (putLiveReg n f s).supv = s.supv ∧
    (putLiveReg n f s).fb = s.fb ∧
    (putLiveReg n f s).cnv = s.cnv ∧
    (putLiveReg n f s).pin = s.pin ∧
    (putLiveReg n f s).seam = s.seam ∧
    (putLiveReg n f s).flt = s.flt ∧
    (putLiveReg n f s).store = s.store ∧
    (putLiveReg n f s).bak = s.bak ∧
    (putLiveReg n f s).proof = s.proof := by
  unfold putLiveReg; (try dsimp only); repeat' split
  all_goals (refine ⟨?_, ?_, ?_, ?_, ?_, ?_, ?_, ?_, ?_, ?_, ?_, ?_, ?_, ?_, ?_, ?_, ?_, ?_, ?_, ?_, ?_, ?_, ?_, ?_, ?_, ?_, ?_⟩ <;> simp)

@[simp] theorem writeCmdSrc_frame (n : Fin 8) (v : BitVec 3) (s : State) :
    (writeCmdSrc n v s).pending = s.pending ∧
    (writeCmdSrc n v s).now = s.now ∧
    (writeCmdSrc n v s).free = s.free ∧
    (writeCmdSrc n v s).power = s.power ∧
    (writeCmdSrc n v s).host = s.host ∧
    (writeCmdSrc n v s).lat = s.lat ∧
    (writeCmdSrc n v s).win = s.win ∧
    (writeCmdSrc n v s).cfg = s.cfg ∧
    (writeCmdSrc n v s).boot = s.boot ∧
    (writeCmdSrc n v s).otp = s.otp ∧
    (writeCmdSrc n v s).src = s.src ∧
    (writeCmdSrc n v s).paceFrac = s.paceFrac ∧
    (writeCmdSrc n v s).mains = s.mains ∧
    (writeCmdSrc n v s).stitch = s.stitch ∧
    (writeCmdSrc n v s).chan = s.chan ∧
    (writeCmdSrc n v s).supply = s.supply ∧
    (writeCmdSrc n v s).sto = s.sto ∧
    (writeCmdSrc n v s).spread = s.spread ∧
    (writeCmdSrc n v s).supv = s.supv ∧
    (writeCmdSrc n v s).fb = s.fb ∧
    (writeCmdSrc n v s).cnv = s.cnv ∧
    (writeCmdSrc n v s).pin = s.pin ∧
    (writeCmdSrc n v s).seam = s.seam ∧
    (writeCmdSrc n v s).flt = s.flt ∧
    (writeCmdSrc n v s).store = s.store ∧
    (writeCmdSrc n v s).bak = s.bak ∧
    (writeCmdSrc n v s).proof = s.proof := by
  unfold writeCmdSrc; (try dsimp only); repeat' split
  all_goals (refine ⟨?_, ?_, ?_, ?_, ?_, ?_, ?_, ?_, ?_, ?_, ?_, ?_, ?_, ?_, ?_, ?_, ?_, ?_, ?_, ?_, ?_, ?_, ?_, ?_, ?_, ?_, ?_⟩ <;> simp)

@[simp] theorem writeCompare_frame (n : Fin 8) (leg : Fin 3) (d : Word) (s : State) :
    (writeCompare n leg d s).pending = s.pending ∧
    (writeCompare n leg d s).now = s.now ∧
    (writeCompare n leg d s).free = s.free ∧
    (writeCompare n leg d s).power = s.power ∧
    (writeCompare n leg d s).host = s.host ∧
    (writeCompare n leg d s).lat = s.lat ∧
    (writeCompare n leg d s).win = s.win ∧
    (writeCompare n leg d s).cfg = s.cfg ∧
    (writeCompare n leg d s).boot = s.boot ∧
    (writeCompare n leg d s).otp = s.otp ∧
    (writeCompare n leg d s).src = s.src ∧
    (writeCompare n leg d s).paceFrac = s.paceFrac ∧
    (writeCompare n leg d s).mains = s.mains ∧
    (writeCompare n leg d s).stitch = s.stitch ∧
    (writeCompare n leg d s).chan = s.chan ∧
    (writeCompare n leg d s).supply = s.supply ∧
    (writeCompare n leg d s).sto = s.sto ∧
    (writeCompare n leg d s).spread = s.spread ∧
    (writeCompare n leg d s).supv = s.supv ∧
    (writeCompare n leg d s).fb = s.fb ∧
    (writeCompare n leg d s).cnv = s.cnv ∧
    (writeCompare n leg d s).pin = s.pin ∧
    (writeCompare n leg d s).seam = s.seam ∧
    (writeCompare n leg d s).flt = s.flt ∧
    (writeCompare n leg d s).store = s.store ∧
    (writeCompare n leg d s).bak = s.bak ∧
    (writeCompare n leg d s).proof = s.proof := by
  unfold writeCompare; (try dsimp only); repeat' split
  all_goals (refine ⟨?_, ?_, ?_, ?_, ?_, ?_, ?_, ?_, ?_, ?_, ?_, ?_, ?_, ?_, ?_, ?_, ?_, ?_, ?_, ?_, ?_, ?_, ?_, ?_, ?_, ?_, ?_⟩ <;> simp)

@[simp] theorem writePeriod_frame (n : Fin 8) (d : Word) (s : State) :
    (writePeriod n d s).pending = s.pending ∧
    (writePeriod n d s).now = s.now ∧
    (writePeriod n d s).free = s.free ∧
    (writePeriod n d s).power = s.power ∧
    (writePeriod n d s).host = s.host ∧
    (writePeriod n d s).lat = s.lat ∧
    (writePeriod n d s).win = s.win ∧
    (writePeriod n d s).cfg = s.cfg ∧
    (writePeriod n d s).boot = s.boot ∧
    (writePeriod n d s).otp = s.otp ∧
    (writePeriod n d s).src = s.src ∧
    (writePeriod n d s).paceFrac = s.paceFrac ∧
    (writePeriod n d s).mains = s.mains ∧
    (writePeriod n d s).stitch = s.stitch ∧
    (writePeriod n d s).chan = s.chan ∧
    (writePeriod n d s).supply = s.supply ∧
    (writePeriod n d s).sto = s.sto ∧
    (writePeriod n d s).spread = s.spread ∧
    (writePeriod n d s).supv = s.supv ∧
    (writePeriod n d s).fb = s.fb ∧
    (writePeriod n d s).cnv = s.cnv ∧
    (writePeriod n d s).pin = s.pin ∧
    (writePeriod n d s).seam = s.seam ∧
    (writePeriod n d s).flt = s.flt ∧
    (writePeriod n d s).store = s.store ∧
    (writePeriod n d s).bak = s.bak ∧
    (writePeriod n d s).proof = s.proof := by
  unfold writePeriod; (try dsimp only); repeat' split
  all_goals (refine ⟨?_, ?_, ?_, ?_, ?_, ?_, ?_, ?_, ?_, ?_, ?_, ?_, ?_, ?_, ?_, ?_, ?_, ?_, ?_, ?_, ?_, ?_, ?_, ?_, ?_, ?_, ?_⟩ <;> simp)

@[simp] theorem axisWrite_frame (n : Fin 8) (o : Nat) (d : Word) (s : State) :
    (axisWrite n o d s).pending = s.pending ∧
    (axisWrite n o d s).now = s.now ∧
    (axisWrite n o d s).free = s.free ∧
    (axisWrite n o d s).power = s.power ∧
    (axisWrite n o d s).host = s.host ∧
    (axisWrite n o d s).lat = s.lat ∧
    (axisWrite n o d s).win = s.win ∧
    (axisWrite n o d s).cfg = s.cfg ∧
    (axisWrite n o d s).boot = s.boot ∧
    (axisWrite n o d s).otp = s.otp ∧
    (axisWrite n o d s).src = s.src ∧
    (axisWrite n o d s).paceFrac = s.paceFrac ∧
    (axisWrite n o d s).mains = s.mains ∧
    (axisWrite n o d s).stitch = s.stitch ∧
    (axisWrite n o d s).chan = s.chan ∧
    (axisWrite n o d s).supply = s.supply ∧
    (axisWrite n o d s).sto = s.sto ∧
    (axisWrite n o d s).spread = s.spread ∧
    (axisWrite n o d s).supv = s.supv ∧
    (axisWrite n o d s).pin = s.pin ∧
    (axisWrite n o d s).seam = s.seam ∧
    (axisWrite n o d s).bak = s.bak ∧
    (axisWrite n o d s).proof = s.proof := by
  unfold axisWrite; (try dsimp only); repeat' split
  all_goals (refine ⟨?_, ?_, ?_, ?_, ?_, ?_, ?_, ?_, ?_, ?_, ?_, ?_, ?_, ?_, ?_, ?_, ?_, ?_, ?_, ?_, ?_, ?_, ?_⟩ <;> simp)

@[simp] theorem commitRequest_frame (req : Nat) (s : State) :
    (commitRequest req s).pending = s.pending ∧
    (commitRequest req s).now = s.now ∧
    (commitRequest req s).free = s.free ∧
    (commitRequest req s).power = s.power ∧
    (commitRequest req s).host = s.host ∧
    (commitRequest req s).lat = s.lat ∧
    (commitRequest req s).win = s.win ∧
    (commitRequest req s).boot = s.boot ∧
    (commitRequest req s).otp = s.otp ∧
    (commitRequest req s).src = s.src ∧
    (commitRequest req s).paceFrac = s.paceFrac ∧
    (commitRequest req s).mains = s.mains ∧
    (commitRequest req s).stitch = s.stitch ∧
    (commitRequest req s).axes = s.axes ∧
    (commitRequest req s).chan = s.chan ∧
    (commitRequest req s).supply = s.supply ∧
    (commitRequest req s).sto = s.sto ∧
    (commitRequest req s).spread = s.spread ∧
    (commitRequest req s).supv = s.supv ∧
    (commitRequest req s).fb = s.fb ∧
    (commitRequest req s).cnv = s.cnv ∧
    (commitRequest req s).pin = s.pin ∧
    (commitRequest req s).seam = s.seam ∧
    (commitRequest req s).flt = s.flt ∧
    (commitRequest req s).store = s.store ∧
    (commitRequest req s).bak = s.bak ∧
    (commitRequest req s).proof = s.proof := by
  unfold commitRequest; (try dsimp only); repeat' split
  all_goals (refine ⟨?_, ?_, ?_, ?_, ?_, ?_, ?_, ?_, ?_, ?_, ?_, ?_, ?_, ?_, ?_, ?_, ?_, ?_, ?_, ?_, ?_, ?_, ?_, ?_, ?_, ?_, ?_⟩ <;> simp)

@[simp] theorem writeIrqEn_frame (b : Nat) (d : Word) (s : State) :
    (writeIrqEn b d s).pending = s.pending ∧
    (writeIrqEn b d s).now = s.now ∧
    (writeIrqEn b d s).free = s.free ∧
    (writeIrqEn b d s).power = s.power ∧
    (writeIrqEn b d s).host = s.host ∧
    (writeIrqEn b d s).lat = s.lat ∧
    (writeIrqEn b d s).win = s.win ∧
    (writeIrqEn b d s).cfg = s.cfg ∧
    (writeIrqEn b d s).boot = s.boot ∧
    (writeIrqEn b d s).otp = s.otp ∧
    (writeIrqEn b d s).src = s.src ∧
    (writeIrqEn b d s).paceFrac = s.paceFrac ∧
    (writeIrqEn b d s).mains = s.mains ∧
    (writeIrqEn b d s).stitch = s.stitch ∧
    (writeIrqEn b d s).axes = s.axes ∧
    (writeIrqEn b d s).chan = s.chan ∧
    (writeIrqEn b d s).supply = s.supply ∧
    (writeIrqEn b d s).sto = s.sto ∧
    (writeIrqEn b d s).spread = s.spread ∧
    (writeIrqEn b d s).supv = s.supv ∧
    (writeIrqEn b d s).fb = s.fb ∧
    (writeIrqEn b d s).cnv = s.cnv ∧
    (writeIrqEn b d s).seam = s.seam ∧
    (writeIrqEn b d s).flt = s.flt ∧
    (writeIrqEn b d s).store = s.store ∧
    (writeIrqEn b d s).bak = s.bak ∧
    (writeIrqEn b d s).proof = s.proof := by
  unfold writeIrqEn; (try dsimp only); repeat' split
  all_goals (refine ⟨?_, ?_, ?_, ?_, ?_, ?_, ?_, ?_, ?_, ?_, ?_, ?_, ?_, ?_, ?_, ?_, ?_, ?_, ?_, ?_, ?_, ?_, ?_, ?_, ?_, ?_, ?_⟩ <;> simp)

@[simp] theorem windowWrite_frame (p : Party) (n : Fin 4) (o : Nat) (d : Word) (s : State) :
    (windowWrite p n o d s).pending = s.pending ∧
    (windowWrite p n o d s).now = s.now ∧
    (windowWrite p n o d s).free = s.free ∧
    (windowWrite p n o d s).power = s.power ∧
    (windowWrite p n o d s).host = s.host ∧
    (windowWrite p n o d s).lat = s.lat ∧
    (windowWrite p n o d s).boot = s.boot ∧
    (windowWrite p n o d s).otp = s.otp ∧
    (windowWrite p n o d s).src = s.src ∧
    (windowWrite p n o d s).paceFrac = s.paceFrac ∧
    (windowWrite p n o d s).mains = s.mains ∧
    (windowWrite p n o d s).stitch = s.stitch ∧
    (windowWrite p n o d s).chan = s.chan ∧
    (windowWrite p n o d s).supply = s.supply ∧
    (windowWrite p n o d s).sto = s.sto ∧
    (windowWrite p n o d s).spread = s.spread ∧
    (windowWrite p n o d s).supv = s.supv ∧
    (windowWrite p n o d s).bak = s.bak := by
  unfold windowWrite; (try dsimp only); repeat' split
  all_goals (refine ⟨?_, ?_, ?_, ?_, ?_, ?_, ?_, ?_, ?_, ?_, ?_, ?_, ?_, ?_, ?_, ?_, ?_, ?_⟩ <;> simp)

@[simp] theorem regWrite_frame (p : Party) (a : Nat) (d : Word) (s : State) :
    (regWrite p a d s).pending = s.pending := by
  unfold regWrite; (try dsimp only); repeat' split
  all_goals (try simp)

@[simp] theorem guardEvent_frame (cause : Nat) (s : State) :
    (guardEvent cause s).pending = s.pending ∧
    (guardEvent cause s).now = s.now ∧
    (guardEvent cause s).free = s.free ∧
    (guardEvent cause s).power = s.power ∧
    (guardEvent cause s).lat = s.lat ∧
    (guardEvent cause s).win = s.win ∧
    (guardEvent cause s).cfg = s.cfg ∧
    (guardEvent cause s).boot = s.boot ∧
    (guardEvent cause s).otp = s.otp ∧
    (guardEvent cause s).src = s.src ∧
    (guardEvent cause s).paceFrac = s.paceFrac ∧
    (guardEvent cause s).mains = s.mains ∧
    (guardEvent cause s).stitch = s.stitch ∧
    (guardEvent cause s).axes = s.axes ∧
    (guardEvent cause s).chan = s.chan ∧
    (guardEvent cause s).supply = s.supply ∧
    (guardEvent cause s).sto = s.sto ∧
    (guardEvent cause s).spread = s.spread ∧
    (guardEvent cause s).supv = s.supv ∧
    (guardEvent cause s).fb = s.fb ∧
    (guardEvent cause s).cnv = s.cnv ∧
    (guardEvent cause s).pin = s.pin ∧
    (guardEvent cause s).seam = s.seam ∧
    (guardEvent cause s).flt = s.flt ∧
    (guardEvent cause s).store = s.store ∧
    (guardEvent cause s).bak = s.bak ∧
    (guardEvent cause s).proof = s.proof := by
  unfold guardEvent; (try dsimp only); repeat' split
  all_goals (refine ⟨?_, ?_, ?_, ?_, ?_, ?_, ?_, ?_, ?_, ?_, ?_, ?_, ?_, ?_, ?_, ?_, ?_, ?_, ?_, ?_, ?_, ?_, ?_, ?_, ?_, ?_, ?_⟩ <;> simp)

@[simp] theorem refusedWrite_frame (armed : Option KeyClass) (a : Nat) (r : Status × Nat) (s : State) :
    (refusedWrite armed a r s).pending = s.pending ∧
    (refusedWrite armed a r s).now = s.now ∧
    (refusedWrite armed a r s).free = s.free ∧
    (refusedWrite armed a r s).power = s.power ∧
    (refusedWrite armed a r s).lat = s.lat ∧
    (refusedWrite armed a r s).win = s.win ∧
    (refusedWrite armed a r s).cfg = s.cfg ∧
    (refusedWrite armed a r s).boot = s.boot ∧
    (refusedWrite armed a r s).src = s.src ∧
    (refusedWrite armed a r s).paceFrac = s.paceFrac ∧
    (refusedWrite armed a r s).mains = s.mains ∧
    (refusedWrite armed a r s).stitch = s.stitch ∧
    (refusedWrite armed a r s).axes = s.axes ∧
    (refusedWrite armed a r s).chan = s.chan ∧
    (refusedWrite armed a r s).supply = s.supply ∧
    (refusedWrite armed a r s).sto = s.sto ∧
    (refusedWrite armed a r s).spread = s.spread ∧
    (refusedWrite armed a r s).supv = s.supv ∧
    (refusedWrite armed a r s).fb = s.fb ∧
    (refusedWrite armed a r s).cnv = s.cnv ∧
    (refusedWrite armed a r s).pin = s.pin ∧
    (refusedWrite armed a r s).seam = s.seam ∧
    (refusedWrite armed a r s).flt = s.flt ∧
    (refusedWrite armed a r s).store = s.store ∧
    (refusedWrite armed a r s).bak = s.bak ∧
    (refusedWrite armed a r s).proof = s.proof := by
  unfold refusedWrite; (try dsimp only); repeat' split
  all_goals (refine ⟨?_, ?_, ?_, ?_, ?_, ?_, ?_, ?_, ?_, ?_, ?_, ?_, ?_, ?_, ?_, ?_, ?_, ?_, ?_, ?_, ?_, ?_, ?_, ?_, ?_, ?_⟩ <;> simp)

@[simp] theorem writeAccess_frame (p : Party) (armed : Option KeyClass) (a : Nat) (d : Word) (s : State) :
    (writeAccess p armed a d s).2.pending = s.pending := by
  unfold writeAccess; (try dsimp only); repeat' split
  all_goals (try simp)

@[simp] theorem readAccess_frame (p : Party) (a : Nat) (s : State) :
    (readAccess p a s).2.2.pending = s.pending ∧
    (readAccess p a s).2.2.now = s.now ∧
    (readAccess p a s).2.2.power = s.power ∧
    (readAccess p a s).2.2.cfg = s.cfg ∧
    (readAccess p a s).2.2.otp = s.otp ∧
    (readAccess p a s).2.2.src = s.src ∧
    (readAccess p a s).2.2.paceFrac = s.paceFrac ∧
    (readAccess p a s).2.2.mains = s.mains ∧
    (readAccess p a s).2.2.chan = s.chan ∧
    (readAccess p a s).2.2.supply = s.supply ∧
    (readAccess p a s).2.2.sto = s.sto ∧
    (readAccess p a s).2.2.spread = s.spread ∧
    (readAccess p a s).2.2.supv = s.supv ∧
    (readAccess p a s).2.2.store = s.store ∧
    (readAccess p a s).2.2.proof = s.proof := by
  unfold readAccess; (try dsimp only); repeat' split
  all_goals (refine ⟨?_, ?_, ?_, ?_, ?_, ?_, ?_, ?_, ?_, ?_, ?_, ?_, ?_, ?_, ?_⟩ <;> simp)

/-! ### FitWords -/

@[simp] theorem fitView_frame (s : State) :
    (fitView s).pending = s.pending ∧
    (fitView s).now = s.now ∧
    (fitView s).free = s.free ∧
    (fitView s).power = s.power ∧
    (fitView s).host = s.host ∧
    (fitView s).lat = s.lat ∧
    (fitView s).win = s.win ∧
    (fitView s).boot = s.boot ∧
    (fitView s).otp = s.otp ∧
    (fitView s).src = s.src ∧
    (fitView s).paceFrac = s.paceFrac ∧
    (fitView s).mains = s.mains ∧
    (fitView s).stitch = s.stitch ∧
    (fitView s).chan = s.chan ∧
    (fitView s).supply = s.supply ∧
    (fitView s).sto = s.sto ∧
    (fitView s).spread = s.spread ∧
    (fitView s).supv = s.supv ∧
    (fitView s).fb = s.fb ∧
    (fitView s).cnv = s.cnv ∧
    (fitView s).pin = s.pin ∧
    (fitView s).seam = s.seam ∧
    (fitView s).flt = s.flt ∧
    (fitView s).store = s.store ∧
    (fitView s).bak = s.bak ∧
    (fitView s).proof = s.proof := by
  unfold fitView; (try dsimp only); repeat' split
  all_goals (refine ⟨?_, ?_, ?_, ?_, ?_, ?_, ?_, ?_, ?_, ?_, ?_, ?_, ?_, ?_, ?_, ?_, ?_, ?_, ?_, ?_, ?_, ?_, ?_, ?_, ?_, ?_⟩ <;> simp)

/-! ### Commit -/

@[simp] theorem beginApply_frame (r : FitResult) (s : State) :
    (beginApply r s).pending = s.pending ∧
    (beginApply r s).now = s.now ∧
    (beginApply r s).free = s.free ∧
    (beginApply r s).power = s.power ∧
    (beginApply r s).host = s.host ∧
    (beginApply r s).lat = s.lat ∧
    (beginApply r s).win = s.win ∧
    (beginApply r s).boot = s.boot ∧
    (beginApply r s).otp = s.otp ∧
    (beginApply r s).src = s.src ∧
    (beginApply r s).paceFrac = s.paceFrac ∧
    (beginApply r s).mains = s.mains ∧
    (beginApply r s).stitch = s.stitch ∧
    (beginApply r s).axes = s.axes ∧
    (beginApply r s).chan = s.chan ∧
    (beginApply r s).supply = s.supply ∧
    (beginApply r s).sto = s.sto ∧
    (beginApply r s).spread = s.spread ∧
    (beginApply r s).supv = s.supv ∧
    (beginApply r s).fb = s.fb ∧
    (beginApply r s).cnv = s.cnv ∧
    (beginApply r s).pin = s.pin ∧
    (beginApply r s).seam = s.seam ∧
    (beginApply r s).flt = s.flt ∧
    (beginApply r s).store = s.store ∧
    (beginApply r s).bak = s.bak ∧
    (beginApply r s).proof = s.proof := by
  unfold beginApply; (try dsimp only); repeat' split
  all_goals (refine ⟨?_, ?_, ?_, ?_, ?_, ?_, ?_, ?_, ?_, ?_, ?_, ?_, ?_, ?_, ?_, ?_, ?_, ?_, ?_, ?_, ?_, ?_, ?_, ?_, ?_, ?_, ?_⟩ <;> simp)

@[simp] theorem fitCheckDone_frame (s : State) :
    (fitCheckDone s).pending = s.pending ∧
    (fitCheckDone s).now = s.now ∧
    (fitCheckDone s).free = s.free ∧
    (fitCheckDone s).power = s.power ∧
    (fitCheckDone s).lat = s.lat ∧
    (fitCheckDone s).win = s.win ∧
    (fitCheckDone s).boot = s.boot ∧
    (fitCheckDone s).otp = s.otp ∧
    (fitCheckDone s).src = s.src ∧
    (fitCheckDone s).paceFrac = s.paceFrac ∧
    (fitCheckDone s).mains = s.mains ∧
    (fitCheckDone s).stitch = s.stitch ∧
    (fitCheckDone s).axes = s.axes ∧
    (fitCheckDone s).chan = s.chan ∧
    (fitCheckDone s).supply = s.supply ∧
    (fitCheckDone s).sto = s.sto ∧
    (fitCheckDone s).spread = s.spread ∧
    (fitCheckDone s).supv = s.supv ∧
    (fitCheckDone s).fb = s.fb ∧
    (fitCheckDone s).cnv = s.cnv ∧
    (fitCheckDone s).pin = s.pin ∧
    (fitCheckDone s).seam = s.seam ∧
    (fitCheckDone s).flt = s.flt ∧
    (fitCheckDone s).store = s.store ∧
    (fitCheckDone s).bak = s.bak ∧
    (fitCheckDone s).proof = s.proof := by
  unfold fitCheckDone; (try dsimp only); repeat' split
  all_goals (refine ⟨?_, ?_, ?_, ?_, ?_, ?_, ?_, ?_, ?_, ?_, ?_, ?_, ?_, ?_, ?_, ?_, ?_, ?_, ?_, ?_, ?_, ?_, ?_, ?_, ?_, ?_⟩ <;> simp)

@[simp] theorem revertDone_frame (s : State) :
    (revertDone s).pending = s.pending ∧
    (revertDone s).now = s.now ∧
    (revertDone s).free = s.free ∧
    (revertDone s).power = s.power ∧
    (revertDone s).host = s.host ∧
    (revertDone s).lat = s.lat ∧
    (revertDone s).win = s.win ∧
    (revertDone s).boot = s.boot ∧
    (revertDone s).otp = s.otp ∧
    (revertDone s).src = s.src ∧
    (revertDone s).paceFrac = s.paceFrac ∧
    (revertDone s).mains = s.mains ∧
    (revertDone s).stitch = s.stitch ∧
    (revertDone s).axes = s.axes ∧
    (revertDone s).chan = s.chan ∧
    (revertDone s).supply = s.supply ∧
    (revertDone s).sto = s.sto ∧
    (revertDone s).spread = s.spread ∧
    (revertDone s).supv = s.supv ∧
    (revertDone s).fb = s.fb ∧
    (revertDone s).cnv = s.cnv ∧
    (revertDone s).pin = s.pin ∧
    (revertDone s).seam = s.seam ∧
    (revertDone s).flt = s.flt ∧
    (revertDone s).store = s.store ∧
    (revertDone s).bak = s.bak ∧
    (revertDone s).proof = s.proof := by
  unfold revertDone; (try dsimp only); repeat' split
  all_goals (refine ⟨?_, ?_, ?_, ?_, ?_, ?_, ?_, ?_, ?_, ?_, ?_, ?_, ?_, ?_, ?_, ?_, ?_, ?_, ?_, ?_, ?_, ?_, ?_, ?_, ?_, ?_, ?_⟩ <;> simp)

@[simp] theorem swapTable_frame (old s : State) :
    (swapTable old s).pending = s.pending ∧
    (swapTable old s).now = s.now ∧
    (swapTable old s).free = s.free ∧
    (swapTable old s).power = s.power ∧
    (swapTable old s).host = s.host ∧
    (swapTable old s).lat = s.lat ∧
    (swapTable old s).win = s.win ∧
    (swapTable old s).cfg = s.cfg ∧
    (swapTable old s).boot = s.boot ∧
    (swapTable old s).otp = s.otp ∧
    (swapTable old s).src = s.src ∧
    (swapTable old s).paceFrac = s.paceFrac ∧
    (swapTable old s).mains = s.mains ∧
    (swapTable old s).axes = s.axes ∧
    (swapTable old s).chan = s.chan ∧
    (swapTable old s).supply = s.supply ∧
    (swapTable old s).sto = s.sto ∧
    (swapTable old s).spread = s.spread ∧
    (swapTable old s).supv = s.supv ∧
    (swapTable old s).fb = s.fb ∧
    (swapTable old s).cnv = s.cnv ∧
    (swapTable old s).pin = s.pin ∧
    (swapTable old s).seam = s.seam ∧
    (swapTable old s).flt = s.flt ∧
    (swapTable old s).store = s.store ∧
    (swapTable old s).bak = s.bak ∧
    (swapTable old s).proof = s.proof := by
  unfold swapTable; (try dsimp only); repeat' split
  all_goals (refine ⟨?_, ?_, ?_, ?_, ?_, ?_, ?_, ?_, ?_, ?_, ?_, ?_, ?_, ?_, ?_, ?_, ?_, ?_, ?_, ?_, ?_, ?_, ?_, ?_, ?_, ?_, ?_⟩ <;> simp)

@[simp] theorem swapStation_frame (old s : State) :
    (swapStation old s).pending = s.pending ∧
    (swapStation old s).now = s.now ∧
    (swapStation old s).free = s.free ∧
    (swapStation old s).power = s.power ∧
    (swapStation old s).host = s.host ∧
    (swapStation old s).lat = s.lat ∧
    (swapStation old s).win = s.win ∧
    (swapStation old s).cfg = s.cfg ∧
    (swapStation old s).boot = s.boot ∧
    (swapStation old s).otp = s.otp ∧
    (swapStation old s).stitch = s.stitch ∧
    (swapStation old s).axes = s.axes ∧
    (swapStation old s).chan = s.chan ∧
    (swapStation old s).supply = s.supply ∧
    (swapStation old s).sto = s.sto ∧
    (swapStation old s).spread = s.spread ∧
    (swapStation old s).supv = s.supv ∧
    (swapStation old s).fb = s.fb ∧
    (swapStation old s).cnv = s.cnv ∧
    (swapStation old s).pin = s.pin ∧
    (swapStation old s).seam = s.seam ∧
    (swapStation old s).flt = s.flt ∧
    (swapStation old s).store = s.store ∧
    (swapStation old s).bak = s.bak ∧
    (swapStation old s).proof = s.proof := by
  unfold swapStation; (try dsimp only); repeat' split
  all_goals simp [ite_pending, ite_now, ite_free, ite_power, ite_host, ite_lat, ite_win, ite_cfg, ite_boot, ite_otp, ite_src, ite_paceFrac, ite_mains, ite_stitch, ite_axes, ite_chan, ite_supply, ite_sto, ite_spread, ite_supv, ite_fb, ite_cnv, ite_pin, ite_seam, ite_flt, ite_store, ite_bak, ite_proof]

@[simp] theorem applyTable_frame (s : State) :
    (applyTable s).pending = s.pending ∧
    (applyTable s).now = s.now ∧
    (applyTable s).free = s.free ∧
    (applyTable s).host = s.host ∧
    (applyTable s).lat = s.lat ∧
    (applyTable s).win = s.win ∧
    (applyTable s).otp = s.otp ∧
    (applyTable s).chan = s.chan ∧
    (applyTable s).supply = s.supply ∧
    (applyTable s).sto = s.sto ∧
    (applyTable s).spread = s.spread ∧
    (applyTable s).supv = s.supv ∧
    (applyTable s).fb = s.fb ∧
    (applyTable s).proof = s.proof ∧
    (applyTable s).cnv = s.cnv := by
  unfold applyTable; (try dsimp only); repeat' split
  all_goals (refine ⟨?_, ?_, ?_, ?_, ?_, ?_, ?_, ?_, ?_, ?_, ?_, ?_, ?_, ?_, ?_⟩ <;> simp)

@[simp] theorem commitApply_frame (s : State) :
    (commitApply s).pending = s.pending ∧
    (commitApply s).now = s.now ∧
    (commitApply s).free = s.free ∧
    (commitApply s).host = s.host ∧
    (commitApply s).lat = s.lat ∧
    (commitApply s).win = s.win ∧
    (commitApply s).otp = s.otp ∧
    (commitApply s).chan = s.chan ∧
    (commitApply s).supply = s.supply ∧
    (commitApply s).sto = s.sto ∧
    (commitApply s).spread = s.spread ∧
    (commitApply s).supv = s.supv ∧
    (commitApply s).proof = s.proof := by
  unfold commitApply; (try dsimp only); repeat' split
  all_goals (refine ⟨?_, ?_, ?_, ?_, ?_, ?_, ?_, ?_, ?_, ?_, ?_, ?_, ?_⟩ <;> simp)

@[simp] theorem stepSeamTime_frame (s : State) :
    (stepSeamTime s).pending = s.pending ∧
    (stepSeamTime s).now = s.now ∧
    (stepSeamTime s).free = s.free ∧
    (stepSeamTime s).power = s.power ∧
    (stepSeamTime s).host = s.host ∧
    (stepSeamTime s).lat = s.lat ∧
    (stepSeamTime s).win = s.win ∧
    (stepSeamTime s).cfg = s.cfg ∧
    (stepSeamTime s).boot = s.boot ∧
    (stepSeamTime s).otp = s.otp ∧
    (stepSeamTime s).src = s.src ∧
    (stepSeamTime s).paceFrac = s.paceFrac ∧
    (stepSeamTime s).mains = s.mains ∧
    (stepSeamTime s).stitch = s.stitch ∧
    (stepSeamTime s).axes = s.axes ∧
    (stepSeamTime s).chan = s.chan ∧
    (stepSeamTime s).supply = s.supply ∧
    (stepSeamTime s).sto = s.sto ∧
    (stepSeamTime s).spread = s.spread ∧
    (stepSeamTime s).supv = s.supv ∧
    (stepSeamTime s).fb = s.fb ∧
    (stepSeamTime s).cnv = s.cnv ∧
    (stepSeamTime s).pin = s.pin ∧
    (stepSeamTime s).flt = s.flt ∧
    (stepSeamTime s).store = s.store ∧
    (stepSeamTime s).bak = s.bak ∧
    (stepSeamTime s).proof = s.proof := by
  unfold stepSeamTime; (try dsimp only); repeat' split
  all_goals (refine ⟨?_, ?_, ?_, ?_, ?_, ?_, ?_, ?_, ?_, ?_, ?_, ?_, ?_, ?_, ?_, ?_, ?_, ?_, ?_, ?_, ?_, ?_, ?_, ?_, ?_, ?_, ?_⟩ <;> simp)

@[simp] theorem angleEngineStep_frame (s : State) :
    (angleEngineStep s).pending = s.pending ∧
    (angleEngineStep s).free = s.free ∧
    (angleEngineStep s).power = s.power ∧
    (angleEngineStep s).lat = s.lat ∧
    (angleEngineStep s).win = s.win ∧
    (angleEngineStep s).boot = s.boot ∧
    (angleEngineStep s).otp = s.otp ∧
    (angleEngineStep s).chan = s.chan ∧
    (angleEngineStep s).supply = s.supply ∧
    (angleEngineStep s).sto = s.sto ∧
    (angleEngineStep s).spread = s.spread ∧
    (angleEngineStep s).supv = s.supv ∧
    (angleEngineStep s).pin = s.pin ∧
    (angleEngineStep s).proof = s.proof := by
  unfold angleEngineStep; (try dsimp only); repeat' split
  all_goals (refine ⟨?_, ?_, ?_, ?_, ?_, ?_, ?_, ?_, ?_, ?_, ?_, ?_, ?_, ?_⟩ <;> simp)

/-! ### HostPort -/

@[simp] theorem setOut_frame (o : Option (BitVec 40)) (s : State) :
    (setOut o s).pending = s.pending ∧
    (setOut o s).now = s.now ∧
    (setOut o s).free = s.free ∧
    (setOut o s).power = s.power ∧
    (setOut o s).lat = s.lat ∧
    (setOut o s).win = s.win ∧
    (setOut o s).cfg = s.cfg ∧
    (setOut o s).boot = s.boot ∧
    (setOut o s).otp = s.otp ∧
    (setOut o s).src = s.src ∧
    (setOut o s).paceFrac = s.paceFrac ∧
    (setOut o s).mains = s.mains ∧
    (setOut o s).stitch = s.stitch ∧
    (setOut o s).axes = s.axes ∧
    (setOut o s).chan = s.chan ∧
    (setOut o s).supply = s.supply ∧
    (setOut o s).sto = s.sto ∧
    (setOut o s).spread = s.spread ∧
    (setOut o s).supv = s.supv ∧
    (setOut o s).fb = s.fb ∧
    (setOut o s).cnv = s.cnv ∧
    (setOut o s).pin = s.pin ∧
    (setOut o s).seam = s.seam ∧
    (setOut o s).flt = s.flt ∧
    (setOut o s).store = s.store ∧
    (setOut o s).bak = s.bak ∧
    (setOut o s).proof = s.proof := by
  unfold setOut; (try dsimp only); repeat' split
  all_goals (refine ⟨?_, ?_, ?_, ?_, ?_, ?_, ?_, ?_, ?_, ?_, ?_, ?_, ?_, ?_, ?_, ?_, ?_, ?_, ?_, ?_, ?_, ?_, ?_, ?_, ?_, ?_, ?_⟩ <;> simp)

@[simp] theorem answer_frame (st : Status) (tag : BitVec 4) (data : Word) (s : State) :
    (answer st tag data s).pending = s.pending ∧
    (answer st tag data s).now = s.now ∧
    (answer st tag data s).free = s.free ∧
    (answer st tag data s).power = s.power ∧
    (answer st tag data s).lat = s.lat ∧
    (answer st tag data s).win = s.win ∧
    (answer st tag data s).cfg = s.cfg ∧
    (answer st tag data s).boot = s.boot ∧
    (answer st tag data s).otp = s.otp ∧
    (answer st tag data s).src = s.src ∧
    (answer st tag data s).paceFrac = s.paceFrac ∧
    (answer st tag data s).mains = s.mains ∧
    (answer st tag data s).stitch = s.stitch ∧
    (answer st tag data s).axes = s.axes ∧
    (answer st tag data s).chan = s.chan ∧
    (answer st tag data s).supply = s.supply ∧
    (answer st tag data s).sto = s.sto ∧
    (answer st tag data s).spread = s.spread ∧
    (answer st tag data s).supv = s.supv ∧
    (answer st tag data s).fb = s.fb ∧
    (answer st tag data s).cnv = s.cnv ∧
    (answer st tag data s).pin = s.pin ∧
    (answer st tag data s).seam = s.seam ∧
    (answer st tag data s).flt = s.flt ∧
    (answer st tag data s).store = s.store ∧
    (answer st tag data s).bak = s.bak ∧
    (answer st tag data s).proof = s.proof := by
  unfold answer; (try dsimp only); repeat' split
  all_goals (refine ⟨?_, ?_, ?_, ?_, ?_, ?_, ?_, ?_, ?_, ?_, ?_, ?_, ?_, ?_, ?_, ?_, ?_, ?_, ?_, ?_, ?_, ?_, ?_, ?_, ?_, ?_, ?_⟩ <;> simp)

@[simp] theorem setKey_frame (k : Option KeyClass) (s : State) :
    (setKey k s).pending = s.pending ∧
    (setKey k s).now = s.now ∧
    (setKey k s).free = s.free ∧
    (setKey k s).power = s.power ∧
    (setKey k s).lat = s.lat ∧
    (setKey k s).win = s.win ∧
    (setKey k s).cfg = s.cfg ∧
    (setKey k s).boot = s.boot ∧
    (setKey k s).otp = s.otp ∧
    (setKey k s).src = s.src ∧
    (setKey k s).paceFrac = s.paceFrac ∧
    (setKey k s).mains = s.mains ∧
    (setKey k s).stitch = s.stitch ∧
    (setKey k s).axes = s.axes ∧
    (setKey k s).chan = s.chan ∧
    (setKey k s).supply = s.supply ∧
    (setKey k s).sto = s.sto ∧
    (setKey k s).spread = s.spread ∧
    (setKey k s).supv = s.supv ∧
    (setKey k s).fb = s.fb ∧
    (setKey k s).cnv = s.cnv ∧
    (setKey k s).pin = s.pin ∧
    (setKey k s).seam = s.seam ∧
    (setKey k s).flt = s.flt ∧
    (setKey k s).store = s.store ∧
    (setKey k s).bak = s.bak ∧
    (setKey k s).proof = s.proof := by
  unfold setKey; (try dsimp only); repeat' split
  all_goals (refine ⟨?_, ?_, ?_, ?_, ?_, ?_, ?_, ?_, ?_, ?_, ?_, ?_, ?_, ?_, ?_, ?_, ?_, ?_, ?_, ?_, ?_, ?_, ?_, ?_, ?_, ?_, ?_⟩ <;> simp)

@[simp] theorem writeFrame_frame (r : HostRequest) (s : State) :
    (writeFrame r s).pending = s.pending := by
  unfold writeFrame; (try dsimp only); repeat' split
  all_goals (try simp)

@[simp] theorem readFrame_frame (r : HostRequest) (s : State) :
    (readFrame r s).pending = s.pending ∧
    (readFrame r s).now = s.now ∧
    (readFrame r s).power = s.power ∧
    (readFrame r s).cfg = s.cfg ∧
    (readFrame r s).otp = s.otp ∧
    (readFrame r s).src = s.src ∧
    (readFrame r s).paceFrac = s.paceFrac ∧
    (readFrame r s).mains = s.mains ∧
    (readFrame r s).chan = s.chan ∧
    (readFrame r s).supply = s.supply ∧
    (readFrame r s).sto = s.sto ∧
    (readFrame r s).spread = s.spread ∧
    (readFrame r s).supv = s.supv ∧
    (readFrame r s).store = s.store ∧
    (readFrame r s).proof = s.proof := by
  unfold readFrame; (try dsimp only); repeat' split
  all_goals (refine ⟨?_, ?_, ?_, ?_, ?_, ?_, ?_, ?_, ?_, ?_, ?_, ?_, ?_, ?_, ?_⟩ <;> simp)

@[simp] theorem runFrame_frame (r : HostRequest) (s : State) :
    (runFrame r s).pending = s.pending := by
  unfold runFrame; (try dsimp only); repeat' split
  all_goals (try simp)

@[simp] theorem hostFrame_frame (r : HostRequest) (s : State) :
    (hostFrame r s).pending = s.pending := by
  unfold hostFrame; (try dsimp only); repeat' split
  all_goals (try simp)

@[simp] theorem hostWrite_frame (tag : BitVec 4) (a : BitVec 9) (d : Word) (s : State) :
    (hostWrite tag a d s).pending = s.pending := by
  unfold hostWrite; (try dsimp only); repeat' split
  all_goals (try simp)

@[simp] theorem hostRead_frame (tag : BitVec 4) (a : BitVec 9) (s : State) :
    (hostRead tag a s).pending = s.pending := by
  unfold hostRead; (try dsimp only); repeat' split
  all_goals (try simp)

@[simp] theorem frameAborted_frame (s : State) :
    (frameAborted s).pending = s.pending ∧
    (frameAborted s).now = s.now ∧
    (frameAborted s).free = s.free ∧
    (frameAborted s).power = s.power ∧
    (frameAborted s).lat = s.lat ∧
    (frameAborted s).win = s.win ∧
    (frameAborted s).cfg = s.cfg ∧
    (frameAborted s).boot = s.boot ∧
    (frameAborted s).otp = s.otp ∧
    (frameAborted s).src = s.src ∧
    (frameAborted s).paceFrac = s.paceFrac ∧
    (frameAborted s).mains = s.mains ∧
    (frameAborted s).stitch = s.stitch ∧
    (frameAborted s).axes = s.axes ∧
    (frameAborted s).chan = s.chan ∧
    (frameAborted s).supply = s.supply ∧
    (frameAborted s).sto = s.sto ∧
    (frameAborted s).spread = s.spread ∧
    (frameAborted s).supv = s.supv ∧
    (frameAborted s).fb = s.fb ∧
    (frameAborted s).pin = s.pin ∧
    (frameAborted s).seam = s.seam ∧
    (frameAborted s).flt = s.flt ∧
    (frameAborted s).store = s.store ∧
    (frameAborted s).bak = s.bak ∧
    (frameAborted s).proof = s.proof ∧
    (frameAborted s).cnv = s.cnv := by
  unfold frameAborted; (try dsimp only); repeat' split
  all_goals (refine ⟨?_, ?_, ?_, ?_, ?_, ?_, ?_, ?_, ?_, ?_, ?_, ?_, ?_, ?_, ?_, ?_, ?_, ?_, ?_, ?_, ?_, ?_, ?_, ?_, ?_, ?_, ?_⟩ <;> simp)

@[simp] theorem keyExpiry_frame (sess : Option (Fin 4)) (s : State) :
    (keyExpiry sess s).pending = s.pending ∧
    (keyExpiry sess s).now = s.now ∧
    (keyExpiry sess s).free = s.free ∧
    (keyExpiry sess s).power = s.power ∧
    (keyExpiry sess s).lat = s.lat ∧
    (keyExpiry sess s).win = s.win ∧
    (keyExpiry sess s).cfg = s.cfg ∧
    (keyExpiry sess s).boot = s.boot ∧
    (keyExpiry sess s).otp = s.otp ∧
    (keyExpiry sess s).src = s.src ∧
    (keyExpiry sess s).paceFrac = s.paceFrac ∧
    (keyExpiry sess s).mains = s.mains ∧
    (keyExpiry sess s).stitch = s.stitch ∧
    (keyExpiry sess s).axes = s.axes ∧
    (keyExpiry sess s).chan = s.chan ∧
    (keyExpiry sess s).supply = s.supply ∧
    (keyExpiry sess s).sto = s.sto ∧
    (keyExpiry sess s).spread = s.spread ∧
    (keyExpiry sess s).supv = s.supv ∧
    (keyExpiry sess s).fb = s.fb ∧
    (keyExpiry sess s).cnv = s.cnv ∧
    (keyExpiry sess s).pin = s.pin ∧
    (keyExpiry sess s).flt = s.flt ∧
    (keyExpiry sess s).store = s.store ∧
    (keyExpiry sess s).bak = s.bak ∧
    (keyExpiry sess s).proof = s.proof := by
  unfold keyExpiry; (try dsimp only); repeat' split
  all_goals (refine ⟨?_, ?_, ?_, ?_, ?_, ?_, ?_, ?_, ?_, ?_, ?_, ?_, ?_, ?_, ?_, ?_, ?_, ?_, ?_, ?_, ?_, ?_, ?_, ?_, ?_, ?_⟩ <;> simp)

@[simp] theorem windowData_frame (tag : BitVec 4) (win : Fin 4) (data : Word) (s : State) :
    (windowData tag win data s).pending = s.pending := by
  unfold windowData; (try dsimp only); repeat' split
  all_goals (try simp)

@[simp] theorem commitWrite_frame (tag : BitVec 4) (upper : BitVec 14) (req : BitVec 2) (s : State) :
    (commitWrite tag upper req s).pending = s.pending := by
  unfold commitWrite; (try dsimp only); repeat' split
  all_goals (try simp)

@[simp] theorem runWrite_frame (tag : BitVec 4) (ax : Fin 8) (req : Word) (s : State) :
    (runWrite tag ax req s).pending = s.pending := by
  unfold runWrite; (try dsimp only); repeat' split
  all_goals (try simp)

@[simp] theorem otpWrite_frame (tag : BitVec 4) (op : BitVec 3) (arg : BitVec 13) (s : State) :
    (otpWrite tag op arg s).pending = s.pending := by
  unfold otpWrite; (try dsimp only); repeat' split
  all_goals (try simp)

@[simp] theorem storeWrite_frame (tag : BitVec 4) (op : BitVec 4) (arg : BitVec 12) (s : State) :
    (storeWrite tag op arg s).pending = s.pending := by
  unfold storeWrite; (try dsimp only); repeat' split
  all_goals (try simp)

/-! ### Remote -/

@[simp] theorem sendResponse_frame (p : Fin 4) (r : Msg) (s : State) :
    (sendResponse p r s).pending = s.pending ∧
    (sendResponse p r s).now = s.now ∧
    (sendResponse p r s).free = s.free ∧
    (sendResponse p r s).power = s.power ∧
    (sendResponse p r s).host = s.host ∧
    (sendResponse p r s).lat = s.lat ∧
    (sendResponse p r s).win = s.win ∧
    (sendResponse p r s).cfg = s.cfg ∧
    (sendResponse p r s).boot = s.boot ∧
    (sendResponse p r s).otp = s.otp ∧
    (sendResponse p r s).src = s.src ∧
    (sendResponse p r s).paceFrac = s.paceFrac ∧
    (sendResponse p r s).mains = s.mains ∧
    (sendResponse p r s).stitch = s.stitch ∧
    (sendResponse p r s).axes = s.axes ∧
    (sendResponse p r s).chan = s.chan ∧
    (sendResponse p r s).supply = s.supply ∧
    (sendResponse p r s).sto = s.sto ∧
    (sendResponse p r s).spread = s.spread ∧
    (sendResponse p r s).supv = s.supv ∧
    (sendResponse p r s).fb = s.fb ∧
    (sendResponse p r s).cnv = s.cnv ∧
    (sendResponse p r s).pin = s.pin ∧
    (sendResponse p r s).flt = s.flt ∧
    (sendResponse p r s).store = s.store ∧
    (sendResponse p r s).bak = s.bak ∧
    (sendResponse p r s).proof = s.proof := by
  unfold sendResponse; (try dsimp only); repeat' split
  all_goals (refine ⟨?_, ?_, ?_, ?_, ?_, ?_, ?_, ?_, ?_, ?_, ?_, ?_, ?_, ?_, ?_, ?_, ?_, ?_, ?_, ?_, ?_, ?_, ?_, ?_, ?_, ?_, ?_⟩ <;> simp)

@[simp] theorem refuseMsg_frame (p : Fin 4) (m : Msg) (st : MsgStatus) (s : State) :
    (refuseMsg p m st s).pending = s.pending ∧
    (refuseMsg p m st s).now = s.now ∧
    (refuseMsg p m st s).free = s.free ∧
    (refuseMsg p m st s).power = s.power ∧
    (refuseMsg p m st s).host = s.host ∧
    (refuseMsg p m st s).lat = s.lat ∧
    (refuseMsg p m st s).win = s.win ∧
    (refuseMsg p m st s).cfg = s.cfg ∧
    (refuseMsg p m st s).boot = s.boot ∧
    (refuseMsg p m st s).otp = s.otp ∧
    (refuseMsg p m st s).src = s.src ∧
    (refuseMsg p m st s).paceFrac = s.paceFrac ∧
    (refuseMsg p m st s).mains = s.mains ∧
    (refuseMsg p m st s).stitch = s.stitch ∧
    (refuseMsg p m st s).axes = s.axes ∧
    (refuseMsg p m st s).chan = s.chan ∧
    (refuseMsg p m st s).supply = s.supply ∧
    (refuseMsg p m st s).sto = s.sto ∧
    (refuseMsg p m st s).spread = s.spread ∧
    (refuseMsg p m st s).supv = s.supv ∧
    (refuseMsg p m st s).fb = s.fb ∧
    (refuseMsg p m st s).cnv = s.cnv ∧
    (refuseMsg p m st s).pin = s.pin ∧
    (refuseMsg p m st s).flt = s.flt ∧
    (refuseMsg p m st s).store = s.store ∧
    (refuseMsg p m st s).bak = s.bak ∧
    (refuseMsg p m st s).proof = s.proof := by
  unfold refuseMsg; (try dsimp only); repeat' split
  all_goals (refine ⟨?_, ?_, ?_, ?_, ?_, ?_, ?_, ?_, ?_, ?_, ?_, ?_, ?_, ?_, ?_, ?_, ?_, ?_, ?_, ?_, ?_, ?_, ?_, ?_, ?_, ?_, ?_⟩ <;> simp)

@[simp] theorem modSession_frame (k : Fin 4) (f : Session → Session) (s : State) :
    (modSession k f s).pending = s.pending ∧
    (modSession k f s).now = s.now ∧
    (modSession k f s).free = s.free ∧
    (modSession k f s).power = s.power ∧
    (modSession k f s).host = s.host ∧
    (modSession k f s).lat = s.lat ∧
    (modSession k f s).win = s.win ∧
    (modSession k f s).cfg = s.cfg ∧
    (modSession k f s).boot = s.boot ∧
    (modSession k f s).otp = s.otp ∧
    (modSession k f s).src = s.src ∧
    (modSession k f s).paceFrac = s.paceFrac ∧
    (modSession k f s).mains = s.mains ∧
    (modSession k f s).stitch = s.stitch ∧
    (modSession k f s).axes = s.axes ∧
    (modSession k f s).chan = s.chan ∧
    (modSession k f s).supply = s.supply ∧
    (modSession k f s).sto = s.sto ∧
    (modSession k f s).spread = s.spread ∧
    (modSession k f s).supv = s.supv ∧
    (modSession k f s).fb = s.fb ∧
    (modSession k f s).cnv = s.cnv ∧
    (modSession k f s).pin = s.pin ∧
    (modSession k f s).flt = s.flt ∧
    (modSession k f s).store = s.store ∧
    (modSession k f s).bak = s.bak ∧
    (modSession k f s).proof = s.proof := by
  unfold modSession; (try dsimp only); repeat' split
  all_goals (refine ⟨?_, ?_, ?_, ?_, ?_, ?_, ?_, ?_, ?_, ?_, ?_, ?_, ?_, ?_, ?_, ?_, ?_, ?_, ?_, ?_, ?_, ?_, ?_, ?_, ?_, ?_, ?_⟩ <;> simp)

@[simp] theorem endSession_frame (k : Fin 4) (s : State) :
    (endSession k s).pending = s.pending ∧
    (endSession k s).now = s.now ∧
    (endSession k s).free = s.free ∧
    (endSession k s).power = s.power ∧
    (endSession k s).host = s.host ∧
    (endSession k s).lat = s.lat ∧
    (endSession k s).win = s.win ∧
    (endSession k s).cfg = s.cfg ∧
    (endSession k s).boot = s.boot ∧
    (endSession k s).otp = s.otp ∧
    (endSession k s).src = s.src ∧
    (endSession k s).paceFrac = s.paceFrac ∧
    (endSession k s).mains = s.mains ∧
    (endSession k s).stitch = s.stitch ∧
    (endSession k s).axes = s.axes ∧
    (endSession k s).chan = s.chan ∧
    (endSession k s).supply = s.supply ∧
    (endSession k s).sto = s.sto ∧
    (endSession k s).spread = s.spread ∧
    (endSession k s).supv = s.supv ∧
    (endSession k s).fb = s.fb ∧
    (endSession k s).cnv = s.cnv ∧
    (endSession k s).pin = s.pin ∧
    (endSession k s).flt = s.flt ∧
    (endSession k s).bak = s.bak ∧
    (endSession k s).proof = s.proof := by
  unfold endSession; (try dsimp only); repeat' split
  all_goals (refine ⟨?_, ?_, ?_, ?_, ?_, ?_, ?_, ?_, ?_, ?_, ?_, ?_, ?_, ?_, ?_, ?_, ?_, ?_, ?_, ?_, ?_, ?_, ?_, ?_, ?_, ?_⟩ <;> simp)

@[simp] theorem openSession_frame (p : Fin 4) (m : Msg) (s : State) :
    (openSession p m s).pending = s.pending ∧
    (openSession p m s).now = s.now ∧
    (openSession p m s).free = s.free ∧
    (openSession p m s).power = s.power ∧
    (openSession p m s).host = s.host ∧
    (openSession p m s).lat = s.lat ∧
    (openSession p m s).win = s.win ∧
    (openSession p m s).cfg = s.cfg ∧
    (openSession p m s).boot = s.boot ∧
    (openSession p m s).otp = s.otp ∧
    (openSession p m s).src = s.src ∧
    (openSession p m s).paceFrac = s.paceFrac ∧
    (openSession p m s).mains = s.mains ∧
    (openSession p m s).stitch = s.stitch ∧
    (openSession p m s).axes = s.axes ∧
    (openSession p m s).chan = s.chan ∧
    (openSession p m s).supply = s.supply ∧
    (openSession p m s).sto = s.sto ∧
    (openSession p m s).spread = s.spread ∧
    (openSession p m s).supv = s.supv ∧
    (openSession p m s).fb = s.fb ∧
    (openSession p m s).cnv = s.cnv ∧
    (openSession p m s).pin = s.pin ∧
    (openSession p m s).flt = s.flt ∧
    (openSession p m s).bak = s.bak ∧
    (openSession p m s).proof = s.proof := by
  unfold openSession; (try dsimp only); repeat' split
  all_goals (refine ⟨?_, ?_, ?_, ?_, ?_, ?_, ?_, ?_, ?_, ?_, ?_, ?_, ?_, ?_, ?_, ?_, ?_, ?_, ?_, ?_, ?_, ?_, ?_, ?_, ?_, ?_⟩ <;> simp)

@[simp] theorem closeSession_frame (p : Fin 4) (m : Msg) (s : State) :
    (closeSession p m s).pending = s.pending ∧
    (closeSession p m s).now = s.now ∧
    (closeSession p m s).free = s.free ∧
    (closeSession p m s).power = s.power ∧
    (closeSession p m s).host = s.host ∧
    (closeSession p m s).lat = s.lat ∧
    (closeSession p m s).win = s.win ∧
    (closeSession p m s).cfg = s.cfg ∧
    (closeSession p m s).boot = s.boot ∧
    (closeSession p m s).otp = s.otp ∧
    (closeSession p m s).src = s.src ∧
    (closeSession p m s).paceFrac = s.paceFrac ∧
    (closeSession p m s).mains = s.mains ∧
    (closeSession p m s).stitch = s.stitch ∧
    (closeSession p m s).axes = s.axes ∧
    (closeSession p m s).chan = s.chan ∧
    (closeSession p m s).supply = s.supply ∧
    (closeSession p m s).sto = s.sto ∧
    (closeSession p m s).spread = s.spread ∧
    (closeSession p m s).supv = s.supv ∧
    (closeSession p m s).fb = s.fb ∧
    (closeSession p m s).cnv = s.cnv ∧
    (closeSession p m s).pin = s.pin ∧
    (closeSession p m s).flt = s.flt ∧
    (closeSession p m s).bak = s.bak ∧
    (closeSession p m s).proof = s.proof := by
  unfold closeSession; (try dsimp only); repeat' split
  all_goals (refine ⟨?_, ?_, ?_, ?_, ?_, ?_, ?_, ?_, ?_, ?_, ?_, ?_, ?_, ?_, ?_, ?_, ?_, ?_, ?_, ?_, ?_, ?_, ?_, ?_, ?_, ?_⟩ <;> simp)

@[simp] theorem runOp_frame (k : Fin 4) (op : DWord) (s : State) :
    (runOp k op s).1.pending = s.pending := by
  unfold runOp; (try dsimp only); repeat' split
  all_goals (try simp)

@[simp] theorem runOps_frame (k : Fin 4) (l : List DWord) (s : State) :
    (runOps k l s).1.pending = s.pending := by
  induction l generalizing s with
  | nil => simp [runOps]
  | cons a l ih => simp [runOps, ih]

@[simp] theorem serveRequest_frame (p : Fin 4) (m : Msg) (s : State) :
    (serveRequest p m s).pending = s.pending := by
  unfold serveRequest; (try dsimp only); repeat' split
  all_goals (try simp)

@[simp] theorem deliver_frame (p : Fin 4) (m : Msg) (s : State) :
    (deliver p m s).pending = s.pending := by
  unfold deliver; (try dsimp only); repeat' split
  all_goals (try simp)

@[simp] theorem relayNote_frame (p : Fin 4) (m : Msg) (s : State) :
    (relayNote p m s).pending = s.pending ∧
    (relayNote p m s).now = s.now ∧
    (relayNote p m s).free = s.free ∧
    (relayNote p m s).power = s.power ∧
    (relayNote p m s).host = s.host ∧
    (relayNote p m s).lat = s.lat ∧
    (relayNote p m s).win = s.win ∧
    (relayNote p m s).cfg = s.cfg ∧
    (relayNote p m s).boot = s.boot ∧
    (relayNote p m s).otp = s.otp ∧
    (relayNote p m s).src = s.src ∧
    (relayNote p m s).paceFrac = s.paceFrac ∧
    (relayNote p m s).mains = s.mains ∧
    (relayNote p m s).stitch = s.stitch ∧
    (relayNote p m s).axes = s.axes ∧
    (relayNote p m s).chan = s.chan ∧
    (relayNote p m s).supply = s.supply ∧
    (relayNote p m s).sto = s.sto ∧
    (relayNote p m s).spread = s.spread ∧
    (relayNote p m s).supv = s.supv ∧
    (relayNote p m s).fb = s.fb ∧
    (relayNote p m s).cnv = s.cnv ∧
    (relayNote p m s).pin = s.pin ∧
    (relayNote p m s).flt = s.flt ∧
    (relayNote p m s).store = s.store ∧
    (relayNote p m s).bak = s.bak ∧
    (relayNote p m s).proof = s.proof := by
  unfold relayNote; (try dsimp only); repeat' split
  all_goals (refine ⟨?_, ?_, ?_, ?_, ?_, ?_, ?_, ?_, ?_, ?_, ?_, ?_, ?_, ?_, ?_, ?_, ?_, ?_, ?_, ?_, ?_, ?_, ?_, ?_, ?_, ?_, ?_⟩ <;> simp)

@[simp] theorem relayOn_frame (p : Fin 4) (m : Msg) (s : State) :
    (relayOn p m s).pending = s.pending ∧
    (relayOn p m s).now = s.now ∧
    (relayOn p m s).free = s.free ∧
    (relayOn p m s).power = s.power ∧
    (relayOn p m s).host = s.host ∧
    (relayOn p m s).lat = s.lat ∧
    (relayOn p m s).win = s.win ∧
    (relayOn p m s).cfg = s.cfg ∧
    (relayOn p m s).boot = s.boot ∧
    (relayOn p m s).otp = s.otp ∧
    (relayOn p m s).src = s.src ∧
    (relayOn p m s).paceFrac = s.paceFrac ∧
    (relayOn p m s).mains = s.mains ∧
    (relayOn p m s).stitch = s.stitch ∧
    (relayOn p m s).axes = s.axes ∧
    (relayOn p m s).chan = s.chan ∧
    (relayOn p m s).supply = s.supply ∧
    (relayOn p m s).sto = s.sto ∧
    (relayOn p m s).spread = s.spread ∧
    (relayOn p m s).supv = s.supv ∧
    (relayOn p m s).fb = s.fb ∧
    (relayOn p m s).cnv = s.cnv ∧
    (relayOn p m s).pin = s.pin ∧
    (relayOn p m s).flt = s.flt ∧
    (relayOn p m s).store = s.store ∧
    (relayOn p m s).bak = s.bak ∧
    (relayOn p m s).proof = s.proof := by
  unfold relayOn; (try dsimp only); repeat' split
  all_goals (refine ⟨?_, ?_, ?_, ?_, ?_, ?_, ?_, ?_, ?_, ?_, ?_, ?_, ?_, ?_, ?_, ?_, ?_, ?_, ?_, ?_, ?_, ?_, ?_, ?_, ?_, ?_, ?_⟩ <;> simp)

@[simp] theorem hearPeer_frame (m : Msg) (s : State) :
    (hearPeer m s).pending = s.pending ∧
    (hearPeer m s).now = s.now ∧
    (hearPeer m s).free = s.free ∧
    (hearPeer m s).power = s.power ∧
    (hearPeer m s).host = s.host ∧
    (hearPeer m s).lat = s.lat ∧
    (hearPeer m s).win = s.win ∧
    (hearPeer m s).cfg = s.cfg ∧
    (hearPeer m s).otp = s.otp ∧
    (hearPeer m s).src = s.src ∧
    (hearPeer m s).paceFrac = s.paceFrac ∧
    (hearPeer m s).mains = s.mains ∧
    (hearPeer m s).stitch = s.stitch ∧
    (hearPeer m s).chan = s.chan ∧
    (hearPeer m s).supply = s.supply ∧
    (hearPeer m s).sto = s.sto ∧
    (hearPeer m s).spread = s.spread ∧
    (hearPeer m s).supv = s.supv ∧
    (hearPeer m s).pin = s.pin ∧
    (hearPeer m s).store = s.store ∧
    (hearPeer m s).bak = s.bak ∧
    (hearPeer m s).proof = s.proof := by
  unfold hearPeer; (try dsimp only); repeat' split
  all_goals (refine ⟨?_, ?_, ?_, ?_, ?_, ?_, ?_, ?_, ?_, ?_, ?_, ?_, ?_, ?_, ?_, ?_, ?_, ?_, ?_, ?_, ?_, ?_⟩ <;> simp)

@[simp] theorem arrive_frame (p : Fin 4) (m : Msg) (s : State) :
    (arrive p m s).pending = s.pending := by
  unfold arrive; (try dsimp only); repeat' split
  all_goals (try simp)

@[simp] theorem arriveAs_frame (kind : BitVec 8) (p : Fin 4) (m : Msg) (s : State) :
    (arriveAs kind p m s).pending = s.pending := by
  unfold arriveAs; (try dsimp only); repeat' split
  all_goals (try simp)

@[simp] theorem refuseFormat_frame (p : Fin 4) (m : Option Msg) (s : State) :
    (refuseFormat p m s).pending = s.pending ∧
    (refuseFormat p m s).now = s.now ∧
    (refuseFormat p m s).free = s.free ∧
    (refuseFormat p m s).power = s.power ∧
    (refuseFormat p m s).host = s.host ∧
    (refuseFormat p m s).lat = s.lat ∧
    (refuseFormat p m s).win = s.win ∧
    (refuseFormat p m s).cfg = s.cfg ∧
    (refuseFormat p m s).boot = s.boot ∧
    (refuseFormat p m s).otp = s.otp ∧
    (refuseFormat p m s).src = s.src ∧
    (refuseFormat p m s).paceFrac = s.paceFrac ∧
    (refuseFormat p m s).mains = s.mains ∧
    (refuseFormat p m s).stitch = s.stitch ∧
    (refuseFormat p m s).axes = s.axes ∧
    (refuseFormat p m s).chan = s.chan ∧
    (refuseFormat p m s).supply = s.supply ∧
    (refuseFormat p m s).sto = s.sto ∧
    (refuseFormat p m s).spread = s.spread ∧
    (refuseFormat p m s).supv = s.supv ∧
    (refuseFormat p m s).fb = s.fb ∧
    (refuseFormat p m s).cnv = s.cnv ∧
    (refuseFormat p m s).pin = s.pin ∧
    (refuseFormat p m s).flt = s.flt ∧
    (refuseFormat p m s).store = s.store ∧
    (refuseFormat p m s).bak = s.bak ∧
    (refuseFormat p m s).proof = s.proof := by
  unfold refuseFormat; (try dsimp only); repeat' split
  all_goals (refine ⟨?_, ?_, ?_, ?_, ?_, ?_, ?_, ?_, ?_, ?_, ?_, ?_, ?_, ?_, ?_, ?_, ?_, ?_, ?_, ?_, ?_, ?_, ?_, ?_, ?_, ?_, ?_⟩ <;> simp)

@[simp] theorem frameReceived_frame (p : Fin 4) (rx : RxFrame) (s : State) :
    (frameReceived p rx s).pending = s.pending ∧
    (frameReceived p rx s).now = s.now ∧
    (frameReceived p rx s).free = s.free ∧
    (frameReceived p rx s).power = s.power ∧
    (frameReceived p rx s).host = s.host ∧
    (frameReceived p rx s).lat = s.lat ∧
    (frameReceived p rx s).win = s.win ∧
    (frameReceived p rx s).cfg = s.cfg ∧
    (frameReceived p rx s).otp = s.otp ∧
    (frameReceived p rx s).src = s.src ∧
    (frameReceived p rx s).paceFrac = s.paceFrac ∧
    (frameReceived p rx s).mains = s.mains ∧
    (frameReceived p rx s).stitch = s.stitch ∧
    (frameReceived p rx s).chan = s.chan ∧
    (frameReceived p rx s).supply = s.supply ∧
    (frameReceived p rx s).sto = s.sto ∧
    (frameReceived p rx s).spread = s.spread ∧
    (frameReceived p rx s).supv = s.supv ∧
    (frameReceived p rx s).pin = s.pin ∧
    (frameReceived p rx s).store = s.store ∧
    (frameReceived p rx s).bak = s.bak ∧
    (frameReceived p rx s).proof = s.proof := by
  unfold frameReceived; (try dsimp only); repeat' split
  all_goals (refine ⟨?_, ?_, ?_, ?_, ?_, ?_, ?_, ?_, ?_, ?_, ?_, ?_, ?_, ?_, ?_, ?_, ?_, ?_, ?_, ?_, ?_, ?_⟩ <;> simp)

@[simp] theorem sessionTimeout_frame (k : Fin 4) (s : State) :
    (sessionTimeout k s).pending = s.pending ∧
    (sessionTimeout k s).now = s.now ∧
    (sessionTimeout k s).free = s.free ∧
    (sessionTimeout k s).power = s.power ∧
    (sessionTimeout k s).host = s.host ∧
    (sessionTimeout k s).lat = s.lat ∧
    (sessionTimeout k s).win = s.win ∧
    (sessionTimeout k s).cfg = s.cfg ∧
    (sessionTimeout k s).otp = s.otp ∧
    (sessionTimeout k s).src = s.src ∧
    (sessionTimeout k s).paceFrac = s.paceFrac ∧
    (sessionTimeout k s).mains = s.mains ∧
    (sessionTimeout k s).stitch = s.stitch ∧
    (sessionTimeout k s).chan = s.chan ∧
    (sessionTimeout k s).supply = s.supply ∧
    (sessionTimeout k s).sto = s.sto ∧
    (sessionTimeout k s).spread = s.spread ∧
    (sessionTimeout k s).supv = s.supv ∧
    (sessionTimeout k s).pin = s.pin ∧
    (sessionTimeout k s).bak = s.bak ∧
    (sessionTimeout k s).proof = s.proof := by
  unfold sessionTimeout; (try dsimp only); repeat' split
  all_goals (refine ⟨?_, ?_, ?_, ?_, ?_, ?_, ?_, ?_, ?_, ?_, ?_, ?_, ?_, ?_, ?_, ?_, ?_, ?_, ?_, ?_, ?_⟩ <;> simp)

/-! ### Boot as a whole, and a commit's power state -/

@[simp] theorem bootStep_frame (env : BootEnv) (k : Nat) (s : State) :
    (bootStep env k s).pending = s.pending ∧
    (bootStep env k s).now = s.now ∧
    (bootStep env k s).lat = s.lat ∧
    (bootStep env k s).win = s.win ∧
    (bootStep env k s).otp = s.otp ∧
    (bootStep env k s).paceFrac = s.paceFrac ∧
    (bootStep env k s).mains = s.mains ∧
    (bootStep env k s).stitch = s.stitch ∧
    (bootStep env k s).chan = s.chan ∧
    (bootStep env k s).supply = s.supply ∧
    (bootStep env k s).sto = s.sto ∧
    (bootStep env k s).spread = s.spread ∧
    (bootStep env k s).pin = s.pin ∧
    (bootStep env k s).seam = s.seam := by
  unfold bootStep; dsimp only
  split <;> split <;> (refine ⟨?_, ?_, ?_, ?_, ?_, ?_, ?_, ?_, ?_, ?_, ?_, ?_, ?_, ?_⟩ <;> simp [bootSelfTests])

@[simp] theorem bootStart_frame (env : BootEnv) (s : State) :
    (bootStart env s).pending = s.pending ∧
    (bootStart env s).now = s.now ∧
    (bootStart env s).lat = s.lat ∧
    (bootStart env s).win = s.win ∧
    (bootStart env s).otp = s.otp ∧
    (bootStart env s).paceFrac = s.paceFrac ∧
    (bootStart env s).mains = s.mains ∧
    (bootStart env s).stitch = s.stitch ∧
    (bootStart env s).chan = s.chan ∧
    (bootStart env s).supply = s.supply ∧
    (bootStart env s).sto = s.sto ∧
    (bootStart env s).spread = s.spread ∧
    (bootStart env s).pin = s.pin ∧
    (bootStart env s).seam = s.seam := by
  unfold bootStart; split
  all_goals (refine ⟨?_, ?_, ?_, ?_, ?_, ?_, ?_, ?_, ?_, ?_, ?_, ?_, ?_, ?_⟩ <;> simp)

@[simp] theorem applyTable_power (s : State) : (applyTable s).power = s.power := by
  unfold applyTable; (try dsimp only); repeat' split
  all_goals simp

@[simp] theorem commitApply_power (s : State) : (commitApply s).power = s.power := by
  unfold commitApply; (try dsimp only); repeat' split
  all_goals simp

end Sys2Proof.Machine
end

