-- ==== Sys2Proof/Laws/HostPort.lean ====
section
/-! SUPPORT. The host port: what a frame leaves, by the refusals it meets (02 2.3, 2.8). -/

namespace Sys2Proof.Machine

@[simp] theorem reported_nil : reported [] = (.ok, 0) := rfl

/-- A host write that meets no refusal acts on its register and is answered OK. -/
theorem hostWrite_accepted {tag : BitVec 4} {a : BitVec 9} {d : Word} {s u : State}
    (hrun : s.power.phase = .run) (hkey : a.toNat ≠ 0x009)
    (hr : writeRefusals (setKey none s) .host s.host.key a.toNat d = [])
    (hu : regWrite .host a.toNat d (setKey none s) = u) (hup : u.power.phase = .run) :
    hostWrite tag a d s = withAnswer .ok tag 0 s u := by
  subst hu
  simp [hostWrite, hostFrame, hrun, runFrame, writeFrame, writeAccess, hr, hkey, answer, running, hup, setOut,
    withAnswer]

/-- A host write that meets a refusal is answered with the first status of R58. -/
theorem hostWrite_refused {tag : BitVec 4} {a : BitVec 9} {d : Word} {s : State} {st : Status} {c : Nat}
    (hrun : s.power.phase = .run) (hst : st ≠ .ok)
    (hr : reported (writeRefusals (setKey none s) .host s.host.key a.toNat d) = (st, c))
    (hup : (refusedWrite s.host.key a.toNat (st, c) (setKey none s)).power.phase = .run) :
    hostWrite tag a d s = withAnswer st tag 0 s (refusedWrite s.host.key a.toNat (st, c) (setKey none s)) := by
  simp [hostWrite, hostFrame, hrun, runFrame, writeFrame, writeAccess, hr, hst, answer, running, hup, setOut,
    withAnswer]

/-- A host read that meets no refusal answers with the register's value. -/
theorem hostRead_accepted {tag : BitVec 4} {a : BitVec 9} {s u : State}
    (hrun : s.power.phase = .run) (hlast : a.toNat ≠ 0x01B) (hr : readRefusals s .host a.toNat = [])
    (hu : regReadEffect .host a.toNat s = u) (hup : u.power.phase = .run) :
    hostRead tag a s = withAnswer .ok tag (regRead s .host a.toNat) s
      { u with host := { u.host with lastRd := regRead s .host a.toNat } } := by
  subst hu
  simp [hostRead, hostFrame, hrun, runFrame, readFrame, readAccess, hr, hlast, answer, running, hup, setOut, withAnswer]

/-! ### Writes by their refusals -/

theorem running_phase {s : State} (h : running s = true) : s.power.phase = .run := by simpa [running] using h

/-- What a write meets does not depend on the arming it spends. -/
theorem writeRefusals_setKey (k : Option KeyClass) (s : State) (p : Party) (armed : Option KeyClass) (a : Nat)
    (d : Word) : writeRefusals (setKey k s) p armed a d = writeRefusals s p armed a d := rfl

theorem reported_single {st : Status} {c : Nat} (h : st ≠ .ok) (h' : st ≠ .noPrevious) :
    reported [(st, c)] = (st, c) := by
  cases st <;> first | rfl | contradiction

/-- A write that meets nothing: what its register does, answered OK. -/
theorem hostWrite_written {tag : BitVec 4} {a : BitVec 9} {d : Word} {s u : State} (h : running s = true)
    (hk : a.toNat ≠ 9) (hr : writeRefusals s .host s.host.key a.toNat d = [])
    (hu : regWrite .host a.toNat d (setKey none s) = setKey none u) (hp : u.power.phase = .run) :
    hostWrite tag a d s = written tag s u := by
  rw [hostWrite_accepted (running_phase h) hk (by rw [writeRefusals_setKey]; exact hr) hu hp]; rfl

/-- A write that is refused, but not with GUARDED, and not at OTP_CMD. -/
theorem hostWrite_turnedAway {tag : BitVec 4} {a : BitVec 9} {d : Word} {s : State} {st : Status} {c : Nat}
    (h : running s = true) (hs : st ≠ .ok)
    (hr : reported (writeRefusals s .host s.host.key a.toNat d) = (st, c)) (ho : a.toNat ≠ 0x0A0)
    (hg : st ≠ .guarded) : hostWrite tag a d s = turnedAway st tag s := by
  rw [hostWrite_refused (running_phase h) hs (by rw [writeRefusals_setKey]; exact hr)
    (by simp [refusedWrite, ho, hg, setKey, running_phase h])]
  simp [refusedWrite, ho, hg, turnedAway, setKey]

/-- A write that is refused with GUARDED. -/
theorem hostWrite_guardedAway {tag : BitVec 4} {a : BitVec 9} {d : Word} {s : State} {c : Nat} (h : running s = true)
    (hr : reported (writeRefusals s .host s.host.key a.toNat d) = (.guarded, c)) (ho : a.toNat ≠ 0x0A0) :
    hostWrite tag a d s = guardedAway (BitVec.ofNat 3 c) tag s := by
  rw [hostWrite_refused (st := .guarded) (c := c) (running_phase h) (by decide)
    (by rw [writeRefusals_setKey]; exact hr) (by simp [refusedWrite, ho, guardEvent, setKey, running_phase h])]
  simp [refusedWrite, ho, guardedAway, setKey, guardEvent, withAnswer]

/-! ### Axis pages -/

theorem axisAddr_toNat (n : Fin 8) (o : Nat) (ho : o < 32) : (axisAddr n o).toNat = 0x100 + 32 * n.val + o := by
  simp [axisAddr]; omega

theorem pageAxis_axisAddr (n : Fin 8) (o : Nat) (ho : o < 32) : pageAxis (0x100 + 32 * n.val + o) = n := by
  simp [pageAxis, Fin.ofNat]; ext; simp; omega

theorem regExists_axisAddr (n : Fin 8) (o : Nat) (ho : o < 32) : regExists (0x100 + 32 * n.val + o) = true := by
  simp [regExists]; omega

theorem regGroup_axisAddr (n : Fin 8) (o : Nat) (ho : o < 32) : regGroup (0x100 + 32 * n.val + o) = 7 + n.val := by
  unfold regGroup; rw [if_pos (by omega)]; omega

theorem mayWriteReg_axisAddr (s : State) (p : Party) (n : Fin 8) (o : Nat) (ho : o < 32) (d : Word) :
    mayWriteReg s p (0x100 + 32 * n.val + o) d = mayWriteGroup s p (7 + n.val) := by
  unfold mayWriteReg; rw [regGroup_axisAddr n o ho]; split <;> first | rfl | omega

/-- What a write of an axis page meets: its owner, its key, the refusals of its register. -/
theorem writeRefusals_axisAddr (s : State) (p : Party) (k : Option KeyClass) (n : Fin 8) (o : Nat) (ho : o < 32)
    (d : Word) : writeRefusals s p k (axisAddr n o).toNat d =
      (if mayWriteGroup s p (7 + n.val) then [] else [(.notOwner, 0)]) ++
      (if axisWritable o then
        (match (if o = 0x18 ∨ o = 0x1A then some KeyClass.output else none) with
         | some c => if k = some c then [] else [(.guarded, 2)]
         | none => []) ++ axisRefusals s n o d
       else [(.guarded, 1)]) := by
  rw [axisAddr_toNat n o ho]
  have h1 : 0x100 ≤ 0x100 + 32 * n.val + o := by omega
  have h2 : (0x100 + 32 * n.val + o) % 32 = o := by omega
  simp only [writeRefusals, regExists_axisAddr n o ho, mayWriteReg_axisAddr _ _ n o ho, regWritable, keyClassOf,
    blockRefusals, h1, if_true, h2, pageAxis_axisAddr n o ho]
  rfl

/-- A write of an axis page acts on its axis. -/
theorem regWrite_axisAddr (p : Party) (n : Fin 8) (o : Nat) (ho : o < 32) (d : Word) (s : State) :
    regWrite p (axisAddr n o).toNat d s = axisWrite n o d s := by
  rw [axisAddr_toNat n o ho]
  have h1 : 0x100 ≤ 0x100 + 32 * n.val + o := by omega
  have h2 : (0x100 + 32 * n.val + o) % 32 = o := by omega
  simp only [regWrite, h1, if_true, h2, pageAxis_axisAddr n o ho]

end Sys2Proof.Machine
end

