-- ==== Sys2Proof/Laws/Mem.lean ====
section
/-! SUPPORT. Word memories: what a read finds after a write, and that every operation keeps the canonical form. -/

namespace Sys2Proof.Machine

/-- Every address of a memory lies above `k`. -/
def WordMem.above (k : Nat) (m : WordMem) : Prop := ∀ e ∈ m, k < e.1

theorem WordMem.wf_nil : WordMem.wf ([] : WordMem) := ⟨List.Pairwise.nil, fun _ h => absurd h (by simp)⟩

theorem WordMem.wf_cons {a : Nat} {w : Word} {m : WordMem} :
    WordMem.wf ((a, w) :: m : WordMem) ↔ w ≠ 0 ∧ WordMem.above a m ∧ m.wf := by
  simp only [WordMem.wf, WordMem.above, List.pairwise_cons, List.mem_cons, forall_eq_or_imp]
  constructor
  · rintro ⟨⟨h1, h2⟩, h3, h4⟩; exact ⟨h3, h1, h2, h4⟩
  · rintro ⟨h3, h1, h2, h4⟩; exact ⟨⟨h1, h2⟩, h3, h4⟩

/-- An address below all listed ones reads 0. -/
theorem WordMem.get_above {k j : Nat} {m : WordMem} (h : WordMem.above k m) (hj : j ≤ k) : m.get j = 0 := by
  induction m with
  | nil => rfl
  | cons e r ih =>
    obtain ⟨a, w⟩ := e
    have ha : k < a := h (a, w) (by simp)
    have hr : WordMem.above k r := fun x hx => h x (by simp [hx])
    simp only [WordMem.get]
    rw [if_neg (by omega), ih hr]

theorem WordMem.get_consCell {k j : Nat} {w : Word} {m : WordMem} (h : WordMem.above k m) :
    WordMem.get (WordMem.consCell k w m) j = if k = j then w else m.get j := by
  unfold WordMem.consCell
  by_cases hw : w = 0
  · by_cases hj : k = j
    · subst hj; simp [hw, WordMem.get_above h (Nat.le_refl k)]
    · simp [hw, hj]
  · rw [if_neg hw]; rfl

theorem WordMem.wf_consCell {k : Nat} {w : Word} {m : WordMem} (h : WordMem.above k m) (hm : m.wf) :
    (WordMem.consCell k w m).wf := by
  unfold WordMem.consCell
  split
  · exact hm
  · exact WordMem.wf_cons.2 ⟨‹_›, h, hm⟩

theorem WordMem.above_put {k j : Nat} {w : Word} {m : WordMem} (h : WordMem.above j m) (hk : j < k) :
    WordMem.above j (m.put k w) := by
  induction m with
  | nil => intro e he; simp only [WordMem.put, WordMem.consCell] at he; split at he <;> simp_all
  | cons e r ih =>
    obtain ⟨a, v⟩ := e
    have ha : j < a := h (a, v) (by simp)
    have hr : WordMem.above j r := fun x hx => h x (by simp [hx])
    intro e he
    simp only [WordMem.put, WordMem.consCell] at he
    split at he
    · split at he
      · exact h e he
      · rcases List.mem_cons.1 he with rfl | he
        · exact hk
        · exact h e he
    · split at he
      · split at he
        · exact hr e he
        · rcases List.mem_cons.1 he with rfl | he
          · exact hk
          · exact hr e he
      · rcases List.mem_cons.1 he with rfl | he
        · exact ha
        · exact ih hr e he

/-- A write keeps the canonical form. -/
theorem WordMem.wf_put {k : Nat} {w : Word} {m : WordMem} (h : m.wf) : (m.put k w).wf := by
  induction m with
  | nil => exact WordMem.wf_consCell (fun _ h => absurd h (by simp)) WordMem.wf_nil
  | cons e r ih =>
    obtain ⟨a, v⟩ := e
    obtain ⟨hv, ha, hr⟩ := WordMem.wf_cons.1 h
    simp only [WordMem.put]
    split
    · rename_i hk
      refine WordMem.wf_consCell (fun x hx => ?_) h
      rcases List.mem_cons.1 hx with rfl | hx
      · exact hk
      · exact Nat.lt_trans hk (ha x hx)
    · split
      · rename_i hk; subst hk; exact WordMem.wf_consCell ha hr
      · exact WordMem.wf_cons.2 ⟨hv, WordMem.above_put ha (by omega), ih hr⟩

/-- A read after a write: the written word at its address, every other address as before. -/
theorem WordMem.get_put {k j : Nat} {w : Word} {m : WordMem} (h : m.wf) :
    (m.put k w).get j = if k = j then w else m.get j := by
  induction m with
  | nil => exact WordMem.get_consCell (fun _ h => absurd h (by simp))
  | cons e r ih =>
    obtain ⟨a, v⟩ := e
    obtain ⟨hv, ha, hr⟩ := WordMem.wf_cons.1 h
    simp only [WordMem.put]
    split
    · rename_i hk
      refine WordMem.get_consCell (fun x hx => ?_)
      rcases List.mem_cons.1 hx with rfl | hx
      · exact hk
      · exact Nat.lt_trans hk (ha x hx)
    · split
      · rename_i hk; subst hk
        rw [WordMem.get_consCell ha]
        simp only [WordMem.get]
        split <;> rfl
      · simp only [WordMem.get, ih hr]
        by_cases hj : a = j
        · subst hj; rw [if_pos rfl, if_neg (by omega)]; simp
        · simp [hj]

@[simp] theorem WordMem.get_put_self {k : Nat} {w : Word} {m : WordMem} (h : m.wf) : (m.put k w).get k = w := by
  simp [WordMem.get_put h]

theorem WordMem.get_put_ne {k j : Nat} {w : Word} {m : WordMem} (h : m.wf) (hj : k ≠ j) :
    (m.put k w).get j = m.get j := by simp [WordMem.get_put h, hj]

theorem WordMem.wf_putList {k : Nat} {l : List Word} {m : WordMem} (h : m.wf) : (m.putList k l).wf := by
  induction l generalizing k m with
  | nil => exact h
  | cons w ws ih => exact ih (WordMem.wf_put h)

theorem WordMem.wf_putCells {l : List (Nat × Word)} {m : WordMem} (h : m.wf) : (m.putCells l).wf := by
  induction l generalizing m with
  | nil => exact h
  | cons c cs ih => exact ih (WordMem.wf_put h)

theorem WordMem.wf_ofCells (l : List (Nat × Word)) : (WordMem.ofCells l).wf := WordMem.wf_putCells WordMem.wf_nil

theorem WordMem.wf_filter {p : Nat × Word → Bool} {m : WordMem} (h : m.wf) : WordMem.wf (m.filter p) :=
  ⟨h.1.filter p, fun e he => h.2 e (List.mem_filter.1 he).1⟩

theorem WordMem.wf_erase {p : Nat → Bool} {m : WordMem} (h : m.wf) : (m.erase p).wf := WordMem.wf_filter h

theorem WordMem.wf_overlay {p : Nat → Bool} {a b : WordMem} (ha : a.wf) : (WordMem.overlay p a b).wf :=
  WordMem.wf_putCells (WordMem.wf_filter ha)

theorem WordMem.wf_put32 {k : Nat} {v : DWord} {m : WordMem} (h : m.wf) : (m.put32 k v).wf :=
  WordMem.wf_put (WordMem.wf_put h)

/-- Consecutive words written read back; every other address reads as before. -/
theorem WordMem.get_putList {k j : Nat} {l : List Word} {m : WordMem} (h : m.wf) :
    (m.putList k l).get j = if k ≤ j ∧ j < k + l.length then l.getD (j - k) 0 else m.get j := by
  induction l generalizing k m with
  | nil => simp only [WordMem.putList]; rw [if_neg (by simp only [List.length_nil]; omega)]
  | cons w ws ih =>
    simp only [WordMem.putList, ih (WordMem.wf_put h), WordMem.get_put h, List.length_cons]
    by_cases hk : k = j
    · subst hk; rw [if_neg (by omega), if_pos rfl, if_pos (by omega)]; simp
    · by_cases hj : k + 1 ≤ j ∧ j < k + 1 + ws.length
      · rw [if_pos hj, if_pos (by omega)]
        have : j - k = (j - (k + 1)) + 1 := by omega
        rw [this, List.getD_cons_succ]
      · rw [if_neg hj, if_neg hk, if_neg (by omega)]

/-- Canonical memories that read alike are equal. -/
theorem WordMem.ext_get {a b : WordMem} (ha : a.wf) (hb : b.wf) (h : ∀ k, a.get k = b.get k) : a = b := by
  induction a generalizing b with
  | nil =>
    cases b with
    | nil => rfl
    | cons e r => obtain ⟨k, w⟩ := e; have := h k; simp [WordMem.get] at this; exact absurd this.symm (WordMem.wf_cons.1 hb).1
  | cons e r ih =>
    obtain ⟨k, w⟩ := e
    obtain ⟨hw, hk, hr⟩ := WordMem.wf_cons.1 ha
    cases b with
    | nil => have := h k; simp [WordMem.get] at this; exact absurd this hw
    | cons e' r' =>
      obtain ⟨k', w'⟩ := e'
      obtain ⟨hw', hk', hr'⟩ := WordMem.wf_cons.1 hb
      have h1 := h k
      have h2 := h k'
      simp only [WordMem.get] at h1 h2
      have hkk : k = k' := by
        rcases Nat.lt_trichotomy k k' with hlt | heq | hgt
        · rw [if_pos trivial, if_neg (by omega), WordMem.get_above hk' (by omega)] at h1; exact absurd h1 hw
        · exact heq
        · rw [if_pos trivial, if_neg (by omega), WordMem.get_above hk (by omega)] at h2; exact absurd h2.symm hw'
      subst hkk
      simp only [if_true] at h1
      subst h1
      refine congrArg _ (ih hr hr' (fun j => ?_))
      by_cases hj : j ≤ k
      · rw [WordMem.get_above hk hj, WordMem.get_above hk' hj]
      · have := h j
        simp only [WordMem.get] at this
        rwa [if_neg (by omega), if_neg (by omega)] at this

end Sys2Proof.Machine
end

