-- ==== Sys2Proof/Laws/State.lean ====
section
/-! SUPPORT. What each small update of the state sets, by its field, and what a job of the store writes; what it leaves
alone stands in Laws/Frames.lean. -/

namespace Sys2Proof.Machine

/-- Two states with the same parts are equal. -/
theorem State.eq_of_parts {a b : State}
    (h0 : a.pending = b.pending)    (h1 : a.now = b.now)    (h2 : a.free = b.free)    (h3 : a.power = b.power)
    (h4 : a.host = b.host)    (h5 : a.lat = b.lat)    (h6 : a.win = b.win)    (h7 : a.cfg = b.cfg)
    (h8 : a.boot = b.boot)    (h9 : a.otp = b.otp)    (h10 : a.src = b.src)    (h11 : a.paceFrac = b.paceFrac)
    (h12 : a.mains = b.mains)    (h13 : a.stitch = b.stitch)    (h14 : a.axes = b.axes)    (h15 : a.chan = b.chan)
    (h16 : a.supply = b.supply)    (h17 : a.sto = b.sto)    (h18 : a.spread = b.spread)    (h19 : a.supv = b.supv)
    (h20 : a.fb = b.fb)    (h21 : a.cnv = b.cnv)    (h22 : a.pin = b.pin)    (h23 : a.seam = b.seam)
    (h24 : a.flt = b.flt)    (h25 : a.store = b.store)    (h26 : a.bak = b.bak)    (h27 : a.proof = b.proof) : a = b := by
  cases a; cases b; simp_all

@[simp] theorem modAxis_axes (n : Fin 8) (f : Axis → Axis) (s : State) :
    (modAxis n f s).axes = s.axes.set n (f s.axes[n]) := rfl

@[simp] theorem modDrive_axes (n : Fin 8) (f : Drive → Drive) (s : State) :
    (modDrive n f s).axes = s.axes.set n { s.axes[n] with drv := f s.axes[n].drv } := rfl

@[simp] theorem modCar_axes (n : Fin 8) (f : Carrier → Carrier) (s : State) :
    (modCar n f s).axes = s.axes.set n { s.axes[n] with car := f s.axes[n].car } := rfl

@[simp] theorem modTrip_axes (n : Fin 8) (f : Trip → Trip) (s : State) :
    (modTrip n f s).axes = s.axes.set n { s.axes[n] with trip := f s.axes[n].trip } := rfl

@[simp] theorem modLadder_axes (n : Fin 8) (f : Ladder → Ladder) (s : State) :
    (modLadder n f s).axes = s.axes.set n { s.axes[n] with ladder := f s.axes[n].ladder } := rfl

@[simp] theorem modProbe_axes (n : Fin 8) (f : Probe → Probe) (s : State) :
    (modProbe n f s).axes = s.axes.set n { s.axes[n] with probe := f s.axes[n].probe } := rfl

@[simp] theorem modInj_axes (n : Fin 8) (f : Inj → Inj) (s : State) :
    (modInj n f s).axes = s.axes.set n { s.axes[n] with inj := f s.axes[n].inj } := rfl

@[simp] theorem modBemf_axes (n : Fin 8) (f : Bemf → Bemf) (s : State) :
    (modBemf n f s).axes = s.axes.set n { s.axes[n] with bemf := f s.axes[n].bemf } := rfl

@[simp] theorem modChan_chan (k : Fin 48) (f : Channel → Channel) (s : State) :
    (modChan k f s).chan = s.chan.set k (f s.chan[k]) := rfl

@[simp] theorem modFb_fb (n : Fin 8) (f : Fb → Fb) (s : State) :
    (modFb n f s).fb = s.fb.set n (f s.fb[n]) := rfl

@[simp] theorem modSrc_src (n : Fin 32) (f : Source → Source) (s : State) :
    (modSrc n f s).src = s.src.set n (f s.src[n]) := rfl

@[simp] theorem modLane_stitch (l : Fin 8) (f : Lane → Lane) (s : State) :
    (modLane l f s).stitch = { s.stitch with lanes := s.stitch.lanes.set l (f s.stitch.lanes[l]) } := rfl

@[simp] theorem modSar_cnv (j : Fin 16) (f : Sar → Sar) (s : State) :
    (modSar j f s).cnv = { s.cnv with sar := s.cnv.sar.set j (f s.cnv.sar[j]) } := rfl

@[simp] theorem putRes_cnv (k : Nat) (w : Word) (s : State) :
    (putRes k w s).cnv = { s.cnv with res := s.cnv.res.put k w } := rfl

@[simp] theorem setCnvStat_cnv (i : Nat) (s : State) :
    (setCnvStat i s).cnv = { s.cnv with stat := setBit s.cnv.stat i } := rfl

@[simp] theorem modPort_seam (p : Fin 4) (f : Port → Port) (s : State) :
    (modPort p f s).seam = { s.seam with ports := s.seam.ports.set p (f s.seam.ports[p]) } := rfl

@[simp] theorem modSeam_seam (f : Seam → Seam) (s : State) :
    (modSeam f s).seam = f s.seam := rfl

@[simp] theorem setSeamStat_seam (i : Nat) (s : State) :
    (setSeamStat i s).seam = { s.seam with stat := setBit s.seam.stat i } := rfl

@[simp] theorem modSession_seam (k : Fin 4) (f : Session → Session) (s : State) :
    (modSession k f s).seam = { s.seam with sess := s.seam.sess.set k (f s.seam.sess[k]) } := rfl

@[simp] theorem setFltStat_flt (i : Nat) (s : State) :
    (setFltStat i s).flt = { s.flt with stat := setBit s.flt.stat i } := rfl

@[simp] theorem modQueue_flt (q : Fin 10) (f : List Test → List Test) (s : State) :
    (modQueue q f s).flt = { s.flt with queues := s.flt.queues.set q (f s.flt.queues[q]) } := rfl

@[simp] theorem setSysStat_host (i : Nat) (s : State) :
    (setSysStat i s).host = { s.host with sysStat := setBit s.host.sysStat i } := rfl

@[simp] theorem setKey_host (k : Option KeyClass) (s : State) :
    (setKey k s).host = { s.host with key := k } := rfl

@[simp] theorem setOut_host (o : Option (BitVec 40)) (s : State) :
    (setOut o s).host = { s.host with hsdo := o } := rfl

@[simp] theorem setAxStat_axes (i : Nat) (n : Fin 8) (s : State) :
    (setAxStat i n s).axes = s.axes.set n { s.axes[n] with stat := setBit s.axes[n].stat i } := rfl

@[simp] theorem setFbStat_fb (i : Nat) (n : Fin 8) (s : State) :
    (setFbStat i n s).fb = s.fb.set n { s.fb[n] with stat := setBit s.fb[n].stat i } := rfl

@[simp] theorem setBootStat_boot (i : Nat) (s : State) :
    (setBootStat i s).boot = { s.boot with bootStat := setBit s.boot.bootStat i } := rfl

@[simp] theorem modOtp_otp (f : Otp → Otp) (s : State) :
    (modOtp f s).otp = f s.otp := rfl

@[simp] theorem modStore_store (f : WordMem → WordMem) (s : State) :
    (modStore f s).store = { s.store with mem := f s.store.mem } := rfl

@[simp] theorem countTally_store (c : Nat) (s : State) :
    (countTally c s).store = { s.store with waiting := addWaiting (storeOut s) c 1 s.store.waiting } := rfl

@[simp] theorem modSupv_supv (f : Supv → Supv) (s : State) :
    (modSupv f s).supv = f s.supv := rfl

@[simp] theorem modProof_proof (f : Proof → Proof) (s : State) :
    (modProof f s).proof = f s.proof := rfl

@[simp] theorem putShadow_cfg (space a : Nat) (d : Word) (s : State) :
    (putShadow space a d s).cfg = { s.cfg with shadow := s.cfg.shadow.put (cfgKey space a) d, dirty := true } := rfl

@[simp] theorem putLive_cfg (space a : Nat) (d : Word) (s : State) :
    (putLive space a d s).cfg = { s.cfg with live := s.cfg.live.put (cfgKey space a) d } := rfl

theorem modBak_bak {f : Backup → Backup} {s : State} (h : bakAlive s = true) : (modBak f s).bak = f s.bak := by
  simp [modBak, h]

/-! ### Jobs of the store -/

/-- A job that ends verified has written its words. -/
theorem endJob_mem (l : StoreJob) (s : State) : (endJob true l s).store.mem = s.store.mem.putCells l := by
  simp [endJob]

/-- A job keeps the canonical form, however it ends. -/
theorem endJob_wf {v : Bool} {l : StoreJob} {s : State} (h : s.store.mem.wf) : (endJob v l s).store.mem.wf := by
  unfold endJob
  split
  · exact WordMem.wf_putCells h
  · unfold failJob; simp only [verifyFault_frame, modStore_store]
    exact WordMem.wf_put (WordMem.wf_putCells h)

theorem cutJob_wf {l : StoreJob} {s : State} (h : s.store.mem.wf) : (cutJob l s).store.mem.wf := by
  unfold cutJob
  split
  · exact h
  · exact WordMem.wf_putCells h

/-! ### Groups -/

/-- An axis that is no member leads itself. -/
theorem leaderOf_self {s : State} {n : Fin 8} (h : isMember s n = false) : leaderOf s n = n := by
  unfold leaderOf isMember at *; simp only [h, Bool.false_eq_true, if_false]

theorem axSt_self {s : State} {n : Fin 8} (h : isMember s n = false) : axSt s n = s.axes[n].st := by
  unfold axSt; simp only [leaderOf_self h]

/-- An axis is in its own group. -/
theorem mem_groupOf (s : State) (n : Fin 8) : n ∈ groupOf s n := by simp [groupOf, allAxes]

/-! ### Faults -/

/-- The start of a test touches the converters only for a test of a converter. -/
theorem onTestStart_cnv {u : TestUnit} {s : State} (h : u.kind ≠ 2) : (onTestStart u s).cnv = s.cnv := by
  unfold onTestStart
  simp only [h, false_and, dite_false]
  split <;> simp

theorem queueTest_cnv {t : Test} {s : State} (h : t.unit.kind ≠ 2) : (queueTest t s).cnv = s.cnv := by
  unfold queueTest
  split
  · rfl
  · dsimp only
    split
    · rename_i he
      unfold startHead
      split
      · rename_i h2
        simp only [modQueue_flt, Fin.getElem_fin, Vector.getElem_set_self] at h2
        have he' := List.isEmpty_iff.1 he
        simp only [Fin.getElem_fin] at he'
        rw [he'] at h2
        simp only [List.nil_append, List.head?_cons, Option.some.injEq] at h2
        subst h2
        rw [onTestStart_cnv h]; rfl
      · rfl
    · rfl

/-- A fault whose units hold no converter leaves the converters alone. -/
theorem raiseFault_cnv {code : Word} {units : List TestUnit} {a m : Word} {s : State}
    (h : ∀ u ∈ units, u.kind ≠ 2) : (raiseFault code units a m s).cnv = s.cnv := by
  unfold raiseFault
  split
  · rfl
  · dsimp only
    split
    · simp
    · have : ∀ l : List TestUnit, (∀ u ∈ l, u.kind ≠ 2) → ∀ t : State,
          (forEach l (fun u => queueTest { unit := u, code := code, origin := .error, proof := false, after := none }) t).cnv =
            t.cnv := by
        intro l
        unfold forEach
        induction l with
        | nil => exact fun _ _ => rfl
        | cons b r ih =>
          intro hl t
          rw [List.foldl_cons, ih (fun u hu => hl u (List.mem_cons_of_mem _ hu)),
            queueTest_cnv (hl b (List.mem_cons_self ..))]
      rw [this _ h]; simp

end Sys2Proof.Machine
end

