-- ==== Sys2Proof/Laws/Trips.lean ====
section
/-! SUPPORT. What the parts of a trip action leave alone: groups, the states and the causes of other axes (09 R321-R325). -/

namespace Sys2Proof.Machine

theorem modAxis_get (n m : Fin 8) (f : Axis → Axis) (s : State) :
    (modAxis n f s).axes[m] = if n = m then f s.axes[m] else s.axes[m] := by
  by_cases h : n = m
  · subst h; simp [modAxis]
  · have : (n : Nat) ≠ m := fun e => h (Fin.ext e)
    simp [modAxis, h, Vector.getElem_set_ne _ _ this]

/-- A part of one axis that every step of a loop keeps is kept by the loop. -/
theorem forEach_keeps {α β : Type} (p : State → β) (l : List α) (g : α → State → State) (s : State)
    (h : ∀ a ∈ l, ∀ t, p (g a t) = p t) : p (forEach l g s) = p s := by
  unfold forEach
  induction l generalizing s with
  | nil => rfl
  | cons a r ih =>
    rw [List.foldl_cons, ih _ (fun b hb => h b (List.mem_cons_of_mem _ hb)), h a (List.mem_cons_self ..)]

/-! ### What the trip action keeps: groups, and the states of other axes -/

theorem modTrip_keeps (k m : Fin 8) (f : Trip → Trip) (s : State) :
    (modTrip k f s).axes[m].group = s.axes[m].group ∧ (modTrip k f s).axes[m].st = s.axes[m].st := by
  unfold modTrip; rw [modAxis_get]; split <;> simp

theorem modCar_keeps (k m : Fin 8) (f : Carrier → Carrier) (s : State) :
    (modCar k f s).axes[m].group = s.axes[m].group ∧ (modCar k f s).axes[m].st = s.axes[m].st ∧
    (modCar k f s).axes[m].trip = s.axes[m].trip := by
  unfold modCar; rw [modAxis_get]; split <;> simp

theorem modDrive_keeps (k m : Fin 8) (f : Drive → Drive) (s : State) :
    (modDrive k f s).axes[m].group = s.axes[m].group ∧ (modDrive k f s).axes[m].st = s.axes[m].st ∧
    (modDrive k f s).axes[m].trip = s.axes[m].trip := by
  unfold modDrive; rw [modAxis_get]; split <;> simp

theorem startTripAction_keeps (k m : Fin 8) (c : BitVec 10) (s : State) :
    (startTripAction k c s).axes[m].group = s.axes[m].group ∧ (startTripAction k c s).axes[m].st = s.axes[m].st ∧
    (startTripAction k c s).axes[m].trip.causes = s.axes[m].trip.causes := by
  have hct : ∀ x (t : State), (countTally x t).axes = t.axes := fun _ _ => rfl
  unfold startTripAction
  dsimp only
  refine ⟨?_, ?_, ?_⟩
  · rw [(modTrip_keeps ..).1]; simp only [hct]; exact (modCar_keeps ..).1
  · rw [(modTrip_keeps ..).2]; simp only [hct]; exact (modCar_keeps ..).2.1
  · unfold modTrip
    rw [modAxis_get]
    split <;> simp only [hct] <;> exact congrArg Trip.causes (modCar_keeps ..).2.2

theorem forceAllOff_keeps (k m : Fin 8) (s : State) :
    (forceAllOff k s).axes[m].group = s.axes[m].group ∧ (forceAllOff k s).axes[m].st = s.axes[m].st ∧
    (forceAllOff k s).axes[m].trip.causes = s.axes[m].trip.causes := by
  unfold forceAllOff
  split
  · have hs : ∀ t : State, (switchesOff k t).axes[m].group = t.axes[m].group ∧
        (switchesOff k t).axes[m].st = t.axes[m].st ∧ (switchesOff k t).axes[m].trip = t.axes[m].trip := by
      intro t; exact modCar_keeps ..
    refine ⟨?_, ?_, ?_⟩
    · rw [(modTrip_keeps ..).1]; exact (hs s).1
    · rw [(modTrip_keeps ..).2]; exact (hs s).2.1
    · unfold modTrip; rw [modAxis_get]; split
      · exact (show (switchesOff k s).axes[m].trip.causes = _ from congrArg Trip.causes (hs s).2.2)
      · exact congrArg Trip.causes (hs s).2.2
  · exact ⟨rfl, rfl, rfl⟩

theorem onChange_keeps (old new : AxSt) (a : Axis) :
    (a.onChange old new).group = a.group ∧ (a.onChange old new).st = a.st ∧ (a.onChange old new).trip = a.trip := by
  unfold Axis.onChange
  dsimp only
  refine ⟨?_, ?_, ?_⟩ <;> (repeat' split) <;> simp [mapForce, Axis.leaveDriving]

theorem onChange_loop_keeps (m : Fin 8) (old new : AxSt) (b : State) (g : List (Fin 8)) :
    (forEach g (fun x => modAxis x (Axis.onChange old new)) b).axes[m].group = b.axes[m].group ∧
    (forEach g (fun x => modAxis x (Axis.onChange old new)) b).axes[m].st = b.axes[m].st ∧
    (forEach g (fun x => modAxis x (Axis.onChange old new)) b).axes[m].trip = b.axes[m].trip := by
  refine ⟨?_, ?_, ?_⟩
  · refine forEach_keeps (fun t : State => t.axes[m].group) _ _ _ (fun x _ t => ?_)
    simp only [modAxis_get]; split
    · exact (onChange_keeps ..).1
    · rfl
  · refine forEach_keeps (fun t : State => t.axes[m].st) _ _ _ (fun x _ t => ?_)
    simp only [modAxis_get]; split
    · exact (onChange_keeps ..).2.1
    · rfl
  · refine forEach_keeps (fun t : State => t.axes[m].trip) _ _ _ (fun x _ t => ?_)
    simp only [modAxis_get]; split
    · exact (onChange_keeps ..).2.2
    · rfl

theorem abortProbe_keeps (k m : Fin 8) (t : State) :
    (abortProbe k t).axes[m].group = t.axes[m].group ∧ (abortProbe k t).axes[m].st = t.axes[m].st ∧
    (abortProbe k t).axes[m].trip = t.axes[m].trip := by
  unfold abortProbe modProbe; rw [modAxis_get]; split <;> simp

theorem setSt_get (l m : Fin 8) (c : State) (f : Axis → Axis) (hf : ∀ a, (f a).group = a.group ∧ (f a).trip = a.trip) :
    (modAxis l (fun a => { f a with st := .tripped }) c).axes[m].group = c.axes[m].group ∧
    (modAxis l (fun a => { f a with st := .tripped }) c).axes[m].trip = c.axes[m].trip ∧
    (modAxis l (fun a => { f a with st := .tripped }) c).axes[m].st = if m = l then .tripped else c.axes[m].st := by
  rw [modAxis_get]
  by_cases h : l = m
  · subst h; simp only [if_true]; exact ⟨(hf _).1, (hf _).2, trivial⟩
  · rw [if_neg h, if_neg (fun e => h e.symm)]; exact ⟨rfl, rfl, rfl⟩

/-- A change to TRIPPED: the axis is TRIPPED; groups, trips and every other axis's state stay. -/
theorem setState_tripped (l m : Fin 8) (s : State) :
    (setState l .tripped s).axes[m].group = s.axes[m].group ∧
    (setState l .tripped s).axes[m].trip = s.axes[m].trip ∧
    (setState l .tripped s).axes[m].st = if m = leaderOf s l then .tripped else s.axes[m].st := by
  by_cases h2 : s.axes[leaderOf s l].st = .tripped
  · have : setState l .tripped s = s := by unfold setState; simp only [h2]; rfl
    rw [this]
    refine ⟨rfl, rfl, ?_⟩
    split
    · subst m; exact h2
    · rfl
  · have : ∃ b : State, ∃ f : Axis → Axis, (b = s ∨ b = abortProbe (leaderOf s l) s) ∧
        (∀ a, (f a).group = a.group ∧ (f a).trip = a.trip) ∧
        setState l .tripped s = modAxis (leaderOf s l) (fun a => { f a with st := .tripped })
          (forEach (groupOf b l) (fun x => modAxis x (Axis.onChange s.axes[leaderOf s l].st .tripped)) b) := by
      refine ⟨if s.axes[leaderOf s l].st = .probe ∧ AxSt.tripped ≠ .start then abortProbe (leaderOf s l) s else s,
        fun a => { a with drv := { a.drv with lrStart := none } }, ?_, fun _ => ⟨rfl, rfl⟩, ?_⟩
      · split
        · exact .inr rfl
        · exact .inl rfl
      · unfold setState
        have h1 : ¬ (AxSt.tripped = .ready ∧ s.axes[leaderOf s l].eff.en = false) := by simp
        simp only [if_neg h1, if_neg h2]
        rfl
    obtain ⟨b, f, hb, hf, he⟩ := this
    rw [he]
    have hbm : b.axes[m].group = s.axes[m].group ∧ b.axes[m].st = s.axes[m].st ∧ b.axes[m].trip = s.axes[m].trip := by
      rcases hb with rfl | rfl
      · exact ⟨rfl, rfl, rfl⟩
      · exact abortProbe_keeps ..
    have hg := setSt_get (leaderOf s l) m
      (forEach (groupOf b l) (fun x => modAxis x (Axis.onChange s.axes[leaderOf s l].st .tripped)) b) f hf
    have hc := onChange_loop_keeps m s.axes[leaderOf s l].st .tripped b (groupOf b l)
    refine ⟨hg.1.trans (hc.1.trans hbm.1), hg.2.1.trans (hc.2.2.trans hbm.2.2), ?_⟩
    rw [hg.2.2, hc.2.1, hbm.2.1]

theorem haltAxis_keeps (l m : Fin 8) (s : State) :
    (haltAxis l s).axes[m].group = s.axes[m].group ∧ (haltAxis l s).axes[m].st = s.axes[m].st ∧
    (haltAxis l s).axes[m].trip = s.axes[m].trip := by
  have hc : ∀ k, (clearBrake k s).axes[m].group = s.axes[m].group ∧ (clearBrake k s).axes[m].st = s.axes[m].st ∧
      (clearBrake k s).axes[m].trip = s.axes[m].trip := by
    intro k; unfold clearBrake setAxStat; split
    · simp only [modAxis_get]; split <;> simp
    · exact ⟨rfl, rfl, rfl⟩
  unfold haltAxis
  exact ⟨(modDrive_keeps ..).1.trans (hc _).1, (modDrive_keeps ..).2.1.trans (hc _).2.1,
    (modDrive_keeps ..).2.2.trans (hc _).2.2⟩

end Sys2Proof.Machine
end

