-- ==== Sys2Proof/Tests/Slice0.lean ====
section
/-! SUPPORT. The tests of the model: what WellFormed refuses, one step of each kind of command against values worked
out from the spec, and for each statement states and operands that meet its hypotheses. -/

set_option Elab.async false

namespace Sys2Proof.Tests

open Sys2Proof.Machine

/-! ### Small states -/

/-- What `f` sees in the state that command `c` leaves. -/
def after {α : Type} (c : Instr) (s : State) (f : State → α) : Option α :=
  match exec c s with
  | .next t => some (f t)
  | .fault _ => none
  | .refused _ => none

/-- `s` with word `a` of a configuration space in force. -/
def word (space a : Nat) (v : Word) (s : State) : State :=
  { s with cfg := { s.cfg with running := s.cfg.running.put (cfgKey space a) v } }

/-- `s` with word `a` of the protection set-up. -/
def setupAt (a : Nat) (v : Word) (s : State) : State :=
  { s with boot := { s.boot with setup := s.boot.setup.put a v } }

def keyed (k : KeyClass) (s : State) : State := { s with host := { s.host with key := some k } }
def phased (p : Phase) (s : State) : State := { s with power := { s.power with phase := p } }
def inPState (p : PState) (s : State) : State := { s with power := { s.power with pstate := p } }
def headed (p : PState) (s : State) : State := { s with power := { s.power with target := some p } }
def withVbak (b : Bool) (s : State) : State := { s with power := { s.power with vbak := b } }
def cfgState (c : CommitState) (s : State) : State := { s with cfg := { s.cfg with state := c } }
def axisIn (n : Fin 8) (x : AxSt) (s : State) : State := modAxis n (fun a => { a with st := x }) s
def win0 (w : Window) (s : State) : State := { s with win := s.win.set 0 w }
def otpWith (f : Otp → Otp) (s : State) : State := { s with otp := f s.otp }
def storeWith (f : Store → Store) (s : State) : State := { s with store := f s.store }
def lastingIs (u : TestUnit) (c : Word) (s : State) : State :=
  { s with flt := { s.flt with lasting := [{ unit := u, code := c }] } }

/-- The module after reset with the bridge of axis 0 enabled. -/
def bridged : State := setupAt 0x10 1 State.reset

/-- The same with the bridges of all eight axes enabled. -/
def allBridged : State := (List.range 8).foldl (fun s i => setupAt (0x10 + i) 1 s) State.reset

/-- Axis 1 a member of the group that axis 0 leads. -/
def grouped : State :=
  modAxis 1 (fun a => { a with group := { leader := 0, member := true, leads := false, offs := 128 } })
    (modAxis 0 (fun a => { a with group := { leader := 0, member := false, leads := true, offs := 0 } }) allBridged)

/-! ### What WellFormed refuses -/

def longMsg : Msg where
  dst := 0
  broadcast := false
  rsvDst := 0
  rsvSrc := 0
  rsv := 0
  src := 0
  kind := 1
  len := 0
  sess := 0
  seq := 0
  epoch := 0
  status := 0
  ttl := 0
  payload := List.replicate 49 0

def frame0 : SeamFrame where
  format := 1
  sender := 9
  senderPort := 0
  parent := false
  noId := false
  cycle := 0
  tree := { prio := 0, serial := 0, hops := 0, rseq := 0, noRoot := true }
  time := { txTime := 0, rxTime := 0, rxCycle := 0, tstate := 0 }
  slots := []
  roll := none
  msg := none

def slot0 : AngleSlot where
  ch := 0
  seq := 0
  free := false
  hops := 0
  src := 0
  trip := false
  run := false
  gstop := false
  formed := false
  aux := 0
  info := 0
  angle := 0
  speed := 0
  stamp := 0

/-- A boot that meets nothing amiss and runs to its end. -/
def cleanBoot : BootEnv := { badRows := [], tests := [], store := ⟨[], [], false, []⟩, stopAt := 8 }
theorem test_wf_boot_row : (Instr.bootStart { cleanBoot with badRows := [256] }).wf = false := by decide
theorem test_wf_boot_unit : (Instr.bootStart { cleanBoot with tests := [⟨⟨2, 16⟩, .converter [], 0⟩] }).wf = false := by
  decide
theorem test_wf_transition_unit : (Instr.powerTransitionDone [⟨⟨12, 0⟩, .domain [], 0⟩]).wf = false := by decide
theorem test_wf_heartbeat : (Instr.heartbeatCheck [216]).wf = false := by decide
theorem test_wf_spares : (Instr.otpRedirectionDone [16]).wf = false := by decide
theorem test_wf_edge : (Instr.commandInputEdge 0 10000 10001).wf = false := by decide
theorem test_wf_quad_edge : (Instr.quadEdge 0 { a := true, b := false } 20).wf = false := by decide
theorem test_wf_frame : (Instr.seamFrameReceived 0 { arrival := 0, bytes := List.replicate 29 0 }).wf = false := by
  decide
theorem test_wf_frame_slots : SeamFrame.wf { frame0 with slots := List.replicate 9 slot0 } = false := by decide
theorem test_wf_frame_msg : SeamFrame.wf { frame0 with msg := some longMsg } = false := by decide
theorem test_wf_open : (Instr.openMsg 0 longMsg).wf = false := by decide
theorem test_wf_close : (Instr.closeMsg 0 longMsg).wf = false := by decide
theorem test_wf_request : (Instr.request 0 longMsg).wf = false := by decide
theorem test_wf_response : (Instr.response 0 longMsg).wf = false := by decide
theorem test_wf_note : (Instr.note 0 longMsg).wf = false := by decide
theorem test_wf_relay : (Instr.messageRelay 0 longMsg).wf = false := by decide
theorem test_wf_test_unit : (Instr.testComplete ⟨0, 48⟩ (.domain []) 0).wf = false := by decide

/-! ### The host port -/

/-- The worked example of 02 2.4: the request frame and the response of the next frame. -/
theorem test_example_request : requestHead true 0x009 0 3 0x4B5A ++ frameCrc (requestHead true 0x009 0 3 0x4B5A)
    = (0x82434B5ACE : BitVec 40) := by decide +kernel
theorem test_example_response : after (.sysKeyWrite 3 0x4B5A) State.reset responseFrame = some 0x30000030AA := by decide +kernel
theorem test_previous_answer_shifts_out : after (.sysKeyWrite 3 0x4B5A) State.reset (fun t =>
    after (.clearOnRead 1 0x006) t fun u => u.host.hsdo) = some (some (some 0x30000030AA)) := by decide +kernel
theorem test_unknown_key_value : after (.sysKeyWrite 3 0x4B5B) (keyed .store State.reset)
    (fun t => (t.host.key, t.host.guardCause, t.host.resp.status)) = some (none, 6, .guarded) := by decide +kernel
theorem test_frame_aborted : after .hostFrameAborted (keyed .output State.reset)
    (fun t => (t.host.key, t.host.sysStat, t.host.resp.status)) = some (none, 2, .noPrevious) := by decide +kernel
theorem test_crc_mismatch : after (.requestCrcMismatch 0x82434B5ACF) State.reset
    (fun t => (t.host.sysStat, t.host.key, t.host.resp.status)) = some (1, none, .crcBad) := by decide +kernel
theorem test_key_expiry : after (.keyExpiry none) (keyed .output State.reset)
    (fun t => (t.host.key, t.host.sysStat)) = some (none, 4) := by decide +kernel
theorem test_register_write_irqen : after (.registerWrite 1 0 0x007 0xFFFF (frameCrc (requestHead true 0x007 0 1 0xFFFF)))
    State.reset (fun t => t.host.irqEn) = some 0x3FFF := by decide +kernel
theorem test_register_write_bad_crc : after (.registerWrite 1 0 0x007 0xFFFF
    (frameCrc (requestHead true 0x007 0 1 0xFFFF) ^^^ 1)) State.reset
    (fun t => (t.host.irqEn, t.host.resp.status)) = some (0, .crcBad) := by decide +kernel
theorem test_clear_on_read : after (.clearOnRead 5 0x00B) State.reset
    (fun t => (t.host.resp.data, t.boot.rstCause)) = some (1, 0) := by decide +kernel
theorem test_latched_read : after (.latchedRead 5 0x018)
    { State.reset with seam := { State.reset.seam with time := 0x0123456789ABCDEF } }
    (fun t => (t.host.resp.data, t.lat.time1, t.lat.time2, t.host.timeHi)) = some (0xCDEF, 0x89AB, 0x4567, 0x0123) := by
  decide +kernel

theorem met_running : running State.reset = true := by decide +kernel
theorem met_BadCrc : (0xCF : BitVec 8) ≠ frameCrc 0x82434B5A ∧
    (0x82434B5ACF : BitVec 40).extractLsb' 0 8 ≠ frameCrc ((0x82434B5ACF : BitVec 40).extractLsb' 8 32) := by decide +kernel
theorem met_RegisterWrite : running State.reset = true ∧ (1 : BitVec 2) ≠ 0 ∧
    (0x0FF : BitVec 9) ∈ [0x01D, 0x03F, 0x04A, 0x087, (0x0FF : BitVec 9)] ∧
    (0x01B : BitVec 9) ∈ [0x000, 0x006, 0x00A, (0x01B : BitVec 9)] ∧
    (keyed .output State.reset).host.key = some .output ∧ State.reset.host.key ≠ some .output ∧
    bits (0x000B : Word) 2 2 ≠ 3 ∧ bits (0x000C : Word) 2 2 = 3 := by decide +kernel
theorem met_KeyWrite : ((0x3C96 : Word), KeyClass.pinLock) ∈ [((0x4B5A : Word), KeyClass.output), (0xA55A, .store),
      (0x3C96, .pinLock)] ∧ (0 : Word) ∉ [(0x4B5A : Word), 0xA55A, 0x3C96] ∧
    (0x3C97 : Word) ∉ [(0x4B5A : Word), 0xA55A, 0x3C96] := by decide +kernel
theorem met_KeyExpiry_host : (keyed .pinLock State.reset).host.key = some .pinLock := by decide +kernel
theorem met_KeyExpiry_session : ({ State.reset with seam := { State.reset.seam with
    sess := State.reset.seam.sess.set 3 { resetSession with key := some .store } } } : State).seam.sess[(3 : Fin 4)].key =
    some .store := by decide +kernel
theorem met_RefusedWrite_guarded : running State.reset = true ∧
    (reported (writeRefusals State.reset .host State.reset.host.key 0x024 0)).1 = .guarded := by decide +kernel
theorem met_RefusedWrite_other : running State.reset = true ∧
    (reported (writeRefusals State.reset .host State.reset.host.key 0x01D 0)).1 = .badAddr := by decide +kernel
theorem met_RefusedWrite_otp : running State.reset = true ∧
    (reported (writeRefusals State.reset .host State.reset.host.key 0x0A0 0)).1 ≠ .ok := by decide +kernel
theorem met_queue_empty : State.reset.pending = [] := by decide +kernel
theorem met_otp : bridged.otp.wf := ⟨WordMem.wf_ofCells _, WordMem.wf_nil⟩
theorem met_memories : memoriesWf bridged := by
  refine ⟨?_, met_otp, ?_, ?_, ?_, ?_, ?_, ?_, ?_, ?_, ?_⟩ <;> decide +kernel
theorem met_groupsFlat : groupsFlat grouped ∧ isMember grouped 1 = true := by decide +kernel
/-- The states of the invariants step: from reset, with a command in front that writes a memory. -/
theorem met_invariant_step : (match step { State.reset with pending := [.sysKeyWrite 0 0] } with
    | .next _ => true
    | _ => false) = true := by decide +kernel

/-! ### The windows -/

def cfgWindow : Window := { resetWindow with space := 0x04, count := 1, addr := 0x3FF, inc := true }
theorem met_WindowRegisters : running State.reset = true ∧ (1 : Fin 4).val < 2 ∧ 2 ≤ (2 : Fin 4).val ∧
    (0x13 : Word).extractLsb' 0 5 < 0x14 ∧ 0x14 ≤ (0x14 : Word).extractLsb' 0 5 := by decide +kernel
/-- A window at word `a` of space `sp`. -/
def winAt (sp : BitVec 5) (a : BitVec 24) (s : State) : State := win0 { cfgWindow with space := sp, addr := a } s

theorem met_WindowData : ([(0x03, 0), (0x03, 0x1FF), (0x04, 0x3FF), ((0x05 : BitVec 5), (0x7FF : BitVec 24))].all fun x =>
    let s := winAt x.1 x.2 State.reset
    let w := s.win[(0 : Fin 4)]
    running s && x.1 ∈ [0x03, 0x04, (0x05 : BitVec 5)] && w.count != 0 && !w.atEnd && !w.fetching && w.writing.isNone &&
    decide (w.addr.toNat < spaceSize w.space.toNat) && mayWriteWord s .host w.space.toNat w.addr.toNat &&
    s.cfg.state == .idle) = true := by decide +kernel
theorem met_WindowRefused : (running State.reset = true ∧ State.reset.win[(1 : Fin 4)].count = 0 ∧
      State.reset.win[(1 : Fin 4)].fetching = false ∧ State.reset.win[(1 : Fin 4)].writing = none) ∧
    let s := win0 { cfgWindow with fetching := true } State.reset
    s.win[(0 : Fin 4)].count ≠ 0 ∧ s.win[(0 : Fin 4)].atEnd = false ∧ s.win[(0 : Fin 4)].fetching = true := by decide +kernel
theorem met_WindowRefused_end : let s := win0 { cfgWindow with atEnd := true } State.reset
    s.win[(0 : Fin 4)].count ≠ 0 ∧ s.win[(0 : Fin 4)].atEnd = true ∧ s.win[(0 : Fin 4)].fetching = false ∧
    s.win[(0 : Fin 4)].writing = none := by decide +kernel
theorem met_WindowRefused_busy : let s := win0 { cfgWindow with writing := some (0x1003FF, 7) } State.reset
    s.win[(0 : Fin 4)].writing.isSome = true ∧ s.win[(0 : Fin 4)].count ≠ 0 ∧
    spaceRefusals s .host s.win[(0 : Fin 4)].space.toNat s.win[(0 : Fin 4)].addr.toNat 5 = [] := by decide +kernel
def storeWriting : State :=
  storeWith (fun x => { x with session := some (.host, false) }) (win0 { resetWindow with writing := some (0x10FFFF, 7) } State.reset)
def backupWriting : State := withVbak true (win0 { resetWindow with writing := some (0x1100FF, 7) } State.reset)
theorem met_WindowTransfers_store : storeWriting.win[(0 : Fin 4)].writing = some (0x100000 + 0xFFFF, 7) ∧
    storeWriting.store.session = some (.host, false) ∧ mayStore storeWriting 2 = true ∧
    (let s := storeWith (fun x => { x with waiting := [(0, 1)] }) storeWriting
     storeOut s = false ∧ mayStore s 2 = false) ∧
    storeOut (lastingIs ⟨10, 0⟩ 0xA100 storeWriting) = true := by decide +kernel
theorem met_WindowTransfers_backup : bakAlive backupWriting = true ∧ bakAlive (withVbak false backupWriting) = true ∧
    backupWriting.win[(0 : Fin 4)].writing = some (0x110000 + 0xFF, 7) := by decide +kernel
theorem met_WindowTransfers_session : ({ State.reset with seam := { State.reset.seam with
    sess := State.reset.seam.sess.set 2 { resetSession with win := { resetWindow with fetching := true } } } } : State).seam.sess[
    (2 : Fin 4)].win.fetching = true := by decide +kernel

/-- WIN0 fetches OTP word 0x17FF, which a burn in progress writes. -/
def fetchBurning : State := { win0 { cfgWindow with space := 0x0D, addr := 0x17FF, fetching := true } State.reset with
  otp := { State.reset.otp with op := some (.word 0x17FF 7) } }
theorem met_WindowTransfers_fetch : (win0 { cfgWindow with fetching := true } State.reset).win[(0 : Fin 4)].fetching = true ∧
    fetchWaits (win0 { cfgWindow with fetching := true } State.reset)
      (win0 { cfgWindow with fetching := true } State.reset).win[(0 : Fin 4)] = false ∧
    fetchBurning.win[(0 : Fin 4)].fetching = true ∧ fetchWaits fetchBurning (windowOf fetchBurning (.port 0)) = true ∧
    (windowOf State.reset (.session 2)).fetching = false := by decide +kernel
theorem test_window_fetch_waits : after (.windowFetchDone (.port 0)) fetchBurning (fun t => t.win[(0 : Fin 4)].fetching) =
    some true := by decide +kernel
theorem test_window_address : after (.windowAddressWrite 0 0 .addrH 0xFFFF) State.reset
    (fun t => (t.win[(0 : Fin 4)].addr, t.win[(0 : Fin 4)].atEnd)) = some (0xFF0000, true) := by decide +kernel
theorem test_window_count : after (.windowCountWrite 0 1 5) State.reset
    (fun t => t.win[(1 : Fin 4)].count) = some 5 := by decide +kernel
theorem test_window_stop : after (.windowStop 0 0 true) (win0 { resetWindow with count := 9, fetching := true } State.reset)
    (fun t => (t.win[(0 : Fin 4)].count, t.win[(0 : Fin 4)].fetching)) = some (0, false) := by decide +kernel
theorem test_window_data_write : after (.windowDataWrite 0 0 0xBEEF) (win0 cfgWindow State.reset)
    (fun t => (t.cfg.shadow.get (cfgKey 4 0x3FF), t.win[(0 : Fin 4)].addr, t.win[(0 : Fin 4)].count,
      t.win[(0 : Fin 4)].atEnd)) = some (0xBEEF, 0x400, 0, true) := by decide +kernel
theorem test_window_data_read : after (.windowDataRead 0 0) (win0 { cfgWindow with count := 0 } State.reset)
    (fun t => t.host.resp.status) = some .length := by decide +kernel
theorem test_window_fetch : after (.windowFetchDone (.port 0)) (win0 { cfgWindow with fetching := true } State.reset)
    (fun t => t.win[(0 : Fin 4)].fetching) = some false := by decide +kernel
theorem test_window_write_done : after (.windowWriteDone (.port 0) true)
    backupWriting
    (fun t => t.bak.ram.get 0xFF) = some 7 := by decide +kernel

/-! ### Commit, power, boot -/

theorem met_CommitCommands : State.reset.cfg.state = .idle ∧ (cfgState (.checking true) State.reset).cfg.state ≠ .idle ∧
    (cfgState .reverting State.reset).cfg.state = .reverting := by decide +kernel
/-- A blank shadow passes its fit check; one with a head slot that names no action of the table does not. -/
theorem met_FitCheck_applies : (fitCheck (cfgState (.checking true) State.reset)).code = 0 := by decide +kernel
theorem met_FitCheck_refuses : (fitCheck { State.reset with cfg := { State.reset.cfg with
    state := .checking true, shadow := [(0, 0x8000)] } }).code ≠ 0 := by decide +kernel

/-- A commit that waits for its boundary, with the word of SEAM_CTRL and a word of axis 3 changed, and the carrier of axis
3 running or stopped. -/
def applyingWith (ax : BitVec 8) : State := { bridged with cfg := { State.reset.cfg with
  state := .applying, tablePending := true, axesPending := ax, pending := [(cfgKey 2 0x302, 7), (0x1F0022, 0x8000)] } }
theorem met_CommitApplies : let s := applyingWith 8
    s.cfg.state = .applying ∧ s.cfg.tablePending = true ∧ s.cfg.running.wf ∧ s.cfg.pending.wf ∧
    keyAxis 0x1F0022 = none ∧ keyAxis (cfgKey 2 0x302) = some 3 ∧ s.cfg.axesPending.getLsbD 3 = true ∧
    s.cfg.axesPending.getLsbD 4 = false ∧ keyAxis (cfgKey 2 0x402) = some 4 ∧
    carrierOn s 3 = false ∧ (applyingWith 0).cfg.axesPending = 0 ∧ (applyingWith 1).cfg.axesPending.getLsbD 0 = true ∧
    carrierOn (applyingWith 1) 0 = true := by decide +kernel
theorem met_RunningConfiguration : (match exec .hostFrameAborted State.reset with
    | .next t => running State.reset && running t
    | _ => false) = true := by decide +kernel

/-- At an engine step no lane waits with a begun chain. -/
theorem met_RunningConfiguration_step : running State.reset = true ∧
    (∀ n : Fin 8, State.reset.axes[n].car.resyncDue = false) ∧ ∀ l : Fin 8, laneAction State.reset l = none := by
  decide +kernel

theorem test_commit : after (.commit 0 0x3FFF) State.reset (fun t => t.cfg.state) = some (.checking true) := by
  decide +kernel
theorem test_revert_while_checking : after (.revert 0 0) (cfgState (.checking false) State.reset)
    (fun t => (t.cfg.state, t.host.resp.status)) = some (.checking false, .busy) := by decide +kernel
theorem test_revert_done : after .revertDone { State.reset with cfg := { State.reset.cfg with
    state := .reverting, shadow := [(1, 1)], dirty := true } }
    (fun t => (t.cfg.shadow, t.cfg.dirty, t.cfg.state)) = some ([(0x1F0022, 0x8000)], false, .idle) := by decide +kernel
theorem test_fit_check_done : after .fitCheckDone { State.reset with cfg := { State.reset.cfg with
    state := .checking true, dirty := true } }
    (fun t => (t.cfg.state, t.cfg.dirty, t.cfg.tablePending, t.host.sysStat)) = some (.applying, false, true, 8) := by
  decide +kernel
theorem test_commit_apply : after .commitApply (applyingWith 0)
    (fun t => (t.cfg.state, t.cfg.seq, t.boot.committed)) = some (.idle, 1, true) := by decide +kernel

theorem met_Power_accepted : (keyed .output State.reset).host.key = some .output ∧
    State.reset.power.target = none ∧ (∀ n, (axSt State.reset n).atRest = true) := by decide +kernel
theorem met_Power_moving : (axSt (axisIn 7 .run State.reset) 7).atRest = false := by decide +kernel
theorem met_Power_busy : (headed .sleep State.reset).power.target.isSome = true ∧
    (∀ n, (axSt (headed .sleep State.reset) n).atRest = true) := by decide +kernel
theorem met_Power_unkeyed : State.reset.host.key ≠ some .output ∧
    (keyed .store State.reset).host.key ≠ some .output := by decide +kernel
theorem met_PowerTransition : (∀ p ∈ [PState.run, .standby, .sleep], running (headed p State.reset) = true ∧
    (headed p State.reset).power.target = some p ∧ (headed p State.reset).power.pstate ≠ .sleep) ∧
    (inPState .sleep (headed .run bridged)).power.pstate = .sleep ∧
    (⟨2, 0⟩ : TestUnit) ∈ selfTestUnits (inPState .sleep (headed .run bridged)) ∧ State.reset.power.target = none ∧
    testPasses (inPState .sleep (headed .run bridged)) ⟨2, 0⟩ (testCode ⟨2, 0⟩) (.converter []) = false ∧
    bakAlive State.reset = true := by
  decide +kernel
theorem met_Resets : State.reset.otp.op = none ∧ (∀ w ∈ allWindows State.reset, w.writing = none) ∧
    running State.reset = true ∧ (phased .boot State.reset).power.phase = .boot ∧ awake State.reset = true ∧
    (phased .off State.reset).power.phase = .off ∧ (phased .backup State.reset).power.phase = .backup ∧
    (keyed .output State.reset).host.key = some .output ∧ 99 < 100 := by decide +kernel
theorem met_SupplyLoss : running (withVbak true State.reset) = true ∧ (withVbak true State.reset).power.vbak = true ∧
    (withVbak false State.reset).power.vbak = false ∧ State.reset.otp.op = none ∧ storeQuiet State.reset ∧
    (phased .backup State.reset).power.phase = .backup ∧ State.reset.power.phase = .run := by decide +kernel
theorem met_Boot : (phased .boot State.reset).power.phase = .boot ∧ (phased .boot State.reset).boot.step = 0 ∧
    State.reset.power.phase ≠ .boot ∧ 0 ≤ 7 ∧ 7 < 8 ∧ 8 ≤ 8 := by decide +kernel
theorem met_Boot_base : stagedCopy State.reset = none ∧ bankWinner ([] : WordMem) = none := by decide +kernel

theorem test_power_request : after (.powerRequestSleep 0) (keyed .output State.reset)
    (fun t => (t.power.target, t.power.pstate, t.host.key)) = some (some .sleep, .run, none) := by decide +kernel
theorem test_power_request_stopped_only : after (.powerRequestStandby 0) (keyed .output (axisIn 2 .hold State.reset))
    (fun t => (t.power.target, t.host.resp.status)) = some (none, .stoppedOnly) := by decide +kernel
theorem test_power_transition : after (.powerTransitionDone []) (headed .standby State.reset)
    (fun t => (t.power.target, t.power.pstate, t.host.sysStat)) = some (none, .standby, 32) := by decide +kernel
theorem test_rstn : after (.rstnReset 1000) (axisIn 0 .run State.reset)
    (fun t => (t.power.phase, axSt t 0, t.power.causes)) = some (.boot, .off, 2) := by decide +kernel
theorem test_rstn_glitch : after (.rstnReset 99) State.reset (fun t => t.power.phase) = some .run := by decide +kernel
theorem test_watchdog : after .watchdogTimeout State.reset (fun t => (t.power.causes, t.power.reason)) = some (4, 1) := by
  decide +kernel
theorem test_watchdog_early : after .watchdogEarlyService State.reset (fun t => t.power.reason) = some 2 := by
  decide +kernel
theorem test_core_rail : after .coreRailFault State.reset (fun t => t.power.reason) = some 4 := by decide +kernel
theorem test_boot_watch : after .bootWatchTimeout (phased .boot State.reset) (fun t => t.power.reason) = some 3 := by
  decide +kernel
theorem test_host_reset : after (.hostReset 0) (keyed .output State.reset)
    (fun t => (t.power.phase, t.power.causes)) = some (.boot, 8) := by decide +kernel
theorem test_supply_loss : after (.supplyLoss .vio) (withVbak true State.reset)
    (fun t => (t.power.phase, t.power.vio, t.power.vaux)) = some (.backup, false, true) := by decide +kernel
theorem test_power_on : after (.powerOnReset true) (phased .off State.reset)
    (fun t => (t.power.phase, t.power.causes)) = some (.boot, 3) := by decide +kernel
theorem test_backup_end : after .backupEnd (phased .backup State.reset)
    (fun t => (t.power.phase, t.power.causes)) = some (.boot, 16) := by decide +kernel

/-! ### The supervisor -/

theorem met_Supervisor_trips : running State.reset = true ∧ State.reset.supv.vauxTrip = false ∧
    State.reset.supv.tempTrip = false ∧ 1250 < ((1251 : Word)).toInt ∧ (1149 : Word).toInt < 1150 ∧
    (1250 : Word).toInt ≤ 1250 ∧ 1150 ≤ (1150 : Word).toInt ∧ (2400 : Word).toNat ≤ 2400 := by decide +kernel
theorem met_Supervisor_path : let s := { State.reset with sto := { State.reset.sto with hw2 := State.reset.sto.in2 } }
    (if (1 : Fin 2) = 0 then s.sto.hw1 else s.sto.hw2) = s.sto.input 1 ∧ running s = true := by decide +kernel
theorem met_Supervisor_path_sound : isLasting State.reset stoUnit = false := by decide +kernel
theorem met_Supervisor_domains : running State.reset = true ∧ 203 < 216 ∧ domainExpected State.reset 203 = true ∧
    isLasting State.reset ⟨11, 203⟩ = false ∧ systemDomain 203 = false ∧ domainExpected State.reset 212 = false ∧
    domainExpected (phased .boot State.reset) 215 = true ∧ systemDomain 215 = true ∧
    (phased .boot State.reset).supv.domTrip = false ∧ supplied (phased .boot State.reset) = true := by decide +kernel

theorem test_temperature_trip : after .temperatureTrip
    { State.reset with supv := { State.reset.supv with temp := 1251 } } (fun t => (t.supv.tempTrip, t.supv.reason)) =
    some (true, 8) := by decide +kernel
theorem test_temperature_hold : after .temperatureRelease
    { State.reset with supv := { State.reset.supv with temp := 1150, tempTrip := true } } (fun t => t.supv.tempTrip) =
    some true := by decide +kernel
theorem test_vaux_trip : after .vauxHighTrip State.reset (fun t => (t.supv.vauxTrip, t.flt.stat)) = some (true, 64) := by
  decide +kernel
theorem test_monitor : after (.supervisorMonitorConversion 300 5000 2400) State.reset
    (fun t => (t.supv.temp, t.supv.vaux, t.supv.vbak)) = some (300, 5000, 2400) := by decide +kernel
theorem test_domain_check : after (.supervisorDomainCheck false) State.reset (fun t => t.power.reason) = some 6 := by
  decide +kernel
theorem test_heartbeat : after (.heartbeatCheck [203]) State.reset (fun t => (t.supv.domain, t.supv.domValid)) =
    some (203, true) := by decide +kernel

/-! ### Axis control -/

theorem quiet_of_nine (s : State) (h : ∀ (m : Fin 8) (c : Fin 9), sourceActive s m c = false) :
    ∀ m c, sourceActive s m c = false := by
  intro m c
  by_cases hc : c < 9
  · exact h m ⟨c, hc⟩
  · unfold sourceActive
    split <;> first | omega | rfl

/-- Axis 0 READY with its bridge enabled, in DIRECT mode. -/
def directReady : State := axisIn 0 .ready (word 2 0 2 bridged)
/-- Axis 0 READY in speed mode with the hold rung enabled and a current limit. -/
def rotorReady : State := modAxis 0 (fun a => { a with acc := { a.acc with ilim := 100 } })
  (axisIn 0 .ready (word 2 0x80 8 bridged))

theorem met_Axis_running : running bridged = true ∧ mayWriteGroup bridged .host 7 = true ∧ carrierOn bridged 0 = true ∧
    isMember bridged 0 = false := by decide +kernel
theorem met_Axis_stopped : let s := inPState .standby bridged
    mayWriteGroup s .host 7 = true ∧ carrierOn s 0 = false ∧ isMember s 0 = false ∧ s.axes[(0 : Fin 8)].st = .off ∧
    s.axes[(0 : Fin 8)].brake = false ∧ bridgeOn s 0 = true ∧ (∀ m, axFault s m = 0) := by decide +kernel
def probed : State := modAxis 0 (fun a => { a with st := .probe, probe := { a.probe with running := true } }) bridged
theorem met_Axis_probe : isMember probed 0 = false ∧ carrierOn probed 0 = true ∧ probed.axes[(0 : Fin 8)].st = .probe ∧
    probed.axes[(0 : Fin 8)].probe.running = true := by decide +kernel
theorem test_disable_probe : after (.axisDisable 0 0) probed (fun t => (axSt t 0, t.axes[(0 : Fin 8)].probe.outcome)) =
    some (.off, 5) := by decide +kernel
theorem met_Axis_quiet : (∀ m c, sourceActive (inPState .standby bridged) m c = false) ∧
    (∀ m c, sourceActive directReady m c = false) ∧ ∀ m c, sourceActive rotorReady m c = false :=
  ⟨quiet_of_nine _ (by decide +kernel), quiet_of_nine _ (by decide +kernel), quiet_of_nine _ (by decide +kernel)⟩
theorem met_Axis_owned : mayWriteGroup (setupAt 0x2E 1 bridged) .host 14 = false := by decide +kernel

theorem met_Run_member : isMember grouped 1 = true ∧ mayWriteGroup grouped .host 8 = true := by decide +kernel
theorem met_Run_noBridge : isMember bridged 1 = false ∧ bridgeOn bridged 1 = false := by decide +kernel
theorem met_Run_direct : let s := directReady
    isMember s 0 = false ∧ bridgeOn s 0 = true ∧ s.power.pstate = .run ∧ axisTesting s 0 = false ∧
    s.axes[(0 : Fin 8)].st = .ready ∧ s.axes[(0 : Fin 8)].drv.ending = false ∧ runBlocked s 0 true = false ∧
    s.axes[(0 : Fin 8)].drv.cmdLost = false ∧ isDirect s 0 = true := by decide +kernel
theorem met_Run_rotor : let s := rotorReady
    isMember s 0 = false ∧ bridgeOn s 0 = true ∧ axisTesting s 0 = false ∧ s.axes[(0 : Fin 8)].st = .ready ∧
    s.axes[(0 : Fin 8)].drv.ending = false ∧ runBlocked s 0 true = false ∧ runBlocked s 0 false = false ∧
    s.axes[(0 : Fin 8)].drv.cmdLost = false ∧ isDirect s 0 = false := by decide +kernel
theorem met_Run_again : let s := axisIn 0 .stopping rotorReady
    isMember s 0 = false ∧ bridgeOn s 0 = true ∧ s.power.pstate = .run ∧ axisTesting s 0 = false ∧
    s.axes[(0 : Fin 8)].st = .stopping ∧ s.axes[(0 : Fin 8)].forced = false ∧ runBlocked s 0 true = false ∧
    (axisIn 0 .hold rotorReady).axes[(0 : Fin 8)].st = .hold ∧ runBlocked (axisIn 0 .hold rotorReady) 0 true = false := by
  decide +kernel
theorem met_Run_stop : let s := axisIn 0 .run rotorReady
    isMember s 0 = false ∧ s.axes[(0 : Fin 8)].st = .run ∧ s.axes[(0 : Fin 8)].drv.ending = false ∧
    isDirect s 0 = false ∧ (axisIn 0 .gangstop rotorReady).axes[(0 : Fin 8)].st = .gangstop := by decide +kernel

theorem met_Carrier_leader : running bridged = true ∧ mayWriteGroup bridged .host 7 = true ∧ carrierOn bridged 0 = true ∧
    isMember bridged 0 = false ∧ bridged.cfg.state = .idle ∧ bridged.cfg.axesPending = 0 := by decide +kernel
/-- 08 R273: 2000 counts is the shortest period, 133,333 the longest, once VMAX of the carrier admits it. -/
theorem met_Carrier_per : perRefused bridged 0 0xFFFF = false ∧ perRefused bridged 0 1999 = true ∧
    perRefused (modAxis 0 (fun a => { a with car := { a.car with vmax := 100000000 } }) bridged) 0 2000 = false := by
  decide +kernel
theorem met_Carrier_busy : let s := cfgState (.checking true) bridged
    isMember s 0 = false ∧ perRefused s 0 0xFFFF = false ∧ s.cfg.state = .checking true ∧
    ({ bridged with cfg := { bridged.cfg with axesPending := 1 } } : State).cfg.axesPending.getLsbD 0 = true := by
  decide +kernel
theorem met_Carrier_member : isMember grouped 1 = true ∧ carrierOn grouped 1 = true ∧
    mayWriteGroup grouped .host 8 = true := by decide +kernel
theorem met_Carrier_direct : isDirect directReady 0 = true ∧ isMember directReady 0 = false ∧
    isDirect bridged 0 = false := by decide +kernel
/-- 03 Table 3.12: code 1 forces off, 2 on and 3 is refused, as is a leg with both switches on. -/
theorem met_Carrier_force : forceBad 1 = false ∧ codesOn 1 = false ∧ forceBad 3 = true ∧ codesOn 3 = false ∧
    forceBad 2 = false ∧ codesOn 2 = true ∧ axSt directReady 0 = .ready ∧ directReady.power.pstate = .run ∧
    axisTesting directReady 0 = false := by decide +kernel

theorem met_Trip_quiet : let s := keyed .output (axisIn 0 .tripped bridged)
    isMember s 0 = false ∧ s.axes[(0 : Fin 8)].st = .tripped ∧ tripBusy s 0 = false ∧ carrierOn s 0 = true ∧
    (∀ m ∈ groupOf s 0, anySource s m = false) := by decide +kernel
theorem met_Trip_stopped : let s := keyed .output (inPState .standby (axisIn 0 .tripped bridged))
    isMember s 0 = false ∧ s.axes[(0 : Fin 8)].st = .tripped ∧ tripBusy s 0 = false ∧ carrierOn s 0 = false := by
  decide +kernel
def clearingTrip : State :=
  modAxis 0 (fun a => { a with trip := { a.trip with held := true, clearing := true } }) (axisIn 0 .tripped bridged)
theorem met_Trip_period : let s := clearingTrip
    carrierOn s 0 = true ∧ isMember s 0 = false ∧ s.cfg.axesPending.getLsbD 0 = false ∧
    s.axes[(0 : Fin 8)].car.resync = false ∧ s.axes[(0 : Fin 8)].st = .tripped ∧
    s.axes[(0 : Fin 8)].trip.clearing = true ∧ s.axes[(0 : Fin 8)].enWritten = false ∧
    (∀ m ∈ groupOf s 0, anySource s m = false) := by decide +kernel
def demanded : State := { bridged with sto := { bridged.sto with source := true } }
theorem met_Trip_busy : tripBusy (axisIn 0 .tripped demanded) 0 = true ∧
    (∃ m ∈ groupOf (axisIn 0 .tripped demanded) 0, anySource (axisIn 0 .tripped demanded) m = true) := by
  decide +kernel
theorem met_Trip_other : (axisIn 0 .latched bridged).axes[(0 : Fin 8)].st = .latched ∧
    bridged.axes[(0 : Fin 8)].st ≠ .tripped ∧ bridged.axes[(0 : Fin 8)].st ≠ .latched := by decide +kernel

theorem test_enable : after (.axisEnable 0 0) (inPState .standby bridged) (fun t => axSt t 0) = some .ready := by
  decide +kernel
theorem test_enable_waits : after (.axisEnable 0 0) bridged
    (fun t => (axSt t 0, t.axes[(0 : Fin 8)].acc.en, t.axes[(0 : Fin 8)].eff.en)) = some (.off, true, false) := by
  decide +kernel
theorem test_disable : after (.axisDisable 0 0) (modAxis 0 (fun a => { a with brake := true }) bridged)
    (fun t => (t.axes[(0 : Fin 8)].brake, t.axes[(0 : Fin 8)].stat)) = some (false, 32) := by decide +kernel
theorem test_run_start_direct : after (.axRunStart 0 0) directReady (fun t => axSt t 0) = some .run := by decide +kernel
theorem test_run_start_off : after (.axRunStart 0 0) bridged (fun t => axSt t 0) = some .off := by
  decide +kernel
theorem test_run_probe : after (.axRunProbe 0 0) rotorReady (fun t => (axSt t 0, t.axes[(0 : Fin 8)].probe.attempt)) =
    some (.probe, 1) := by decide +kernel
theorem test_run_stop : after (.axRunStop 0 0) (axisIn 0 .run rotorReady) (fun t => axSt t 0) = some .stopping := by
  decide +kernel
theorem test_run_hold : after (.axRunHold 0 0) (axisIn 0 .run directReady)
    (fun t => (axSt t 0, t.axes[(0 : Fin 8)].drv.stop)) = some (.stopping, .hold) := by decide +kernel
theorem test_per : after (.axPerWrite 0 0 0xFFFF) bridged
    (fun t => (t.axes[(0 : Fin 8)].acc.per, t.axes[(0 : Fin 8)].eff.per)) = some (0xFFFF, 0x30D4) := by decide +kernel
theorem test_cmp_outside_direct : after (.axCmpWrite 0 0 1 77) bridged
    (fun t => (t.axes[(0 : Fin 8)].acc.cmp[(1 : Fin 3)], t.host.resp.status)) = some (0, .ok) := by decide +kernel
theorem test_force_without_key : after (.axForceWrite 0 0 1) bridged
    (fun t => (t.axes[(0 : Fin 8)].acc.force, t.host.guardCause)) = some (0, 2) := by decide +kernel
theorem test_trip_clear : after (.tripClear 0 0) (keyed .output (axisIn 0 .tripped bridged))
    (fun t => t.axes[(0 : Fin 8)].trip.clearing) = some true := by decide +kernel
theorem test_trip_clear_active : after (.tripClear 0 0) (keyed .output (axisIn 0 .tripped demanded))
    (fun t => (t.axes[(0 : Fin 8)].trip.clearing, t.host.resp.status)) = some (false, .refusedActive) := by decide +kernel
theorem test_trip_quiet : after (.tripSourceQuiet 0)
    (modAxis 0 (fun a => { a with trip := { a.trip with active := true } }) bridged)
    (fun t => t.axes[(0 : Fin 8)].trip.active) = some false := by decide +kernel

/-! ### Faults and tests -/

theorem met_Test_ack : let s := keyed .output (lastingIs ⟨2, 15⟩ 0x3200 State.reset)
    namedUnit 0x80F2 = ⟨2, 15⟩ ∧ bit 0x80F2 15 = true ∧ (namedUnit 0x80F2).wf = true ∧
    isLasting s (namedUnit 0x80F2) = true ∧ isQueued s (namedUnit 0x80F2) = false ∧
    s.host.key = some .output ∧ mayWriteGroup s .host 2 = true ∧ bit 0x00F2 15 = false := by decide +kernel
theorem met_Test_request : bit 0x8033 15 = true ∧ (namedUnit 0x8033).wf = true ∧ testAnytime (namedUnit 0x8033) = true ∧
    isQueued State.reset (namedUnit 0x8033) = false ∧ testAxis (namedUnit 0x8002) = some 0 ∧
    testAnytime (namedUnit 0x8002) = false ∧ axSt directReady 0 = .ready ∧
    (∀ n ∈ unitAxes (namedUnit 0x8002), bridgeOn directReady n = true ∧ (axSt directReady n).atRest = true) ∧
    ¬ (∀ n ∈ unitAxes (namedUnit 0x8002), bridgeOn State.reset n = true ∧ (axSt State.reset n).atRest = true) := by
  decide +kernel
theorem met_Test_noUnit : bit 0x8102 15 = true ∧ (namedUnit 0x8102).wf = false ∧
    isLasting State.reset (namedUnit 0x80F2) = false := by decide +kernel
def testing (u : TestUnit) (s : State) : State := { s with flt := { s.flt with
  queues := s.flt.queues.set (queueOf u) [{ unit := u, code := 0x3200, origin := .host, proof := false, after := none }] } }
theorem met_Test_completes : let s := testing ⟨8, 8⟩ State.reset
    (⟨8, 8⟩ : TestUnit).kind ≤ 10 ∧ mayRun s ⟨8, 8⟩ = true ∧ isLasting s ⟨8, 8⟩ = false ∧
    s.flt.queues[queueOf ⟨8, 8⟩] = [{ unit := ⟨8, 8⟩, code := 0x3200, origin := .host, proof := false, after := none }] ∧
    isTesting s ⟨2, 0⟩ = false := by decide +kernel
theorem met_Test_busy : let s := testing ⟨2, 15⟩ (lastingIs ⟨2, 15⟩ 0x3200 State.reset)
    namedUnit 0x80F2 = ⟨2, 15⟩ ∧ isLasting s ⟨2, 15⟩ = true ∧ isQueued s ⟨2, 15⟩ = true ∧
    isQueued (testing ⟨3, 3⟩ State.reset) (namedUnit 0x8033) = true := by decide +kernel

/-- 13 R466: four conversions at each level, all at their codes 512, 2048 and 3584. -/
def goodReadings : List TestReading := (List.finRange 3).flatMap fun i => List.replicate 4 { level := i, dev := 0 }
def unityPairs : State := { State.reset with cnv := { State.reset.cnv with coef := [(0xFB, 0x8000), (0x17F, 0x8000)] } }
theorem met_Test_readings : testPasses unityPairs ⟨2, 15⟩ 0x3200 (.converter goodReadings) = true ∧
    testPasses unityPairs ⟨2, 15⟩ 0x3200 (.converter goodReadings.tail) = false ∧
    (let s := testing ⟨2, 15⟩ (lastingIs ⟨2, 15⟩ 0x3200 unityPairs)
     isLasting s ⟨2, 15⟩ = true ∧ mayRun s ⟨2, 15⟩ = true ∧ testPasses s ⟨2, 15⟩ 0x3200 (.converter goodReadings) = true ∧
       testPasses s ⟨2, 15⟩ 0x3200 (.converter []) = false) := by decide +kernel
theorem test_ack : after (.fltAck 0 0x80F2) (keyed .output (lastingIs ⟨2, 15⟩ 0x3200 State.reset))
    (fun t => t.flt.queues[queueOf ⟨2, 15⟩].map fun x => (x.unit, x.origin)) = some [(⟨2, 15⟩, .ack)] := by decide +kernel
theorem test_stest : after (.stestReq 0 0x8033) State.reset
    (fun t => (t.flt.stestReq, t.flt.queues[queueOf ⟨3, 3⟩].length)) = some (0x8033, 1) := by decide +kernel
theorem test_complete : after (.testComplete ⟨8, 8⟩ (.engine []) 0) (testing ⟨8, 8⟩ State.reset)
    (fun t => (t.flt.queues[queueOf ⟨8, 8⟩].length, isLasting t ⟨8, 8⟩)) = some (0, true) := by decide +kernel

/-! ### Pins -/

theorem mayWritePin_reset (i : Nat) : mayWritePin State.reset .host i = true := by
  have h : setupWord State.reset (0x80 + i) = 0 := by
    unfold setupWord
    show WordMem.get defaultSetup _ = 0
    simp only [defaultSetup, WordMem.get]
    split
    · omega
    · rfl
  simp only [mayWritePin, pinOwner, h]
  show (Party.host.isOwner (entryOwner 0) && !(BitVec.getLsbD (0 : BitVec 64) i) && true) = true
  simp; decide
def ownedPin : State := setupAt (0x80 + 63) 1 State.reset
theorem met_Pin_owned : mayWritePin ownedPin .host (16 * 3 + 15) = false ∧
    (0x8000 : Word).getLsbD 15 ≠ ownedPin.pin.latch.getLsbD (16 * 3 + 15) ∧
    (0x80 : BitVec 8).getLsbD 7 = true ∧ 16 * 3 + 15 = 16 * (3 : Fin 4).val + 8 + 7 := by decide +kernel
/-- Writes that leave the latch of the pin of another owner as it is. -/
theorem met_Pin_mixed : (∀ i < 16, ¬ (mayWritePin ownedPin .host (16 * 3 + i) = false ∧
      (0x7FFF : Word).getLsbD i ≠ ownedPin.pin.latch.getLsbD (16 * 3 + i))) ∧
    ∀ i < 8, (0x81 : BitVec 8).getLsbD i = true → ¬ (mayWritePin ownedPin .host (16 * 3 + 8 + i) = false ∧
      (0x01 : BitVec 8).getLsbD i ≠ ownedPin.pin.latch.getLsbD (16 * 3 + 8 + i)) := by decide +kernel
theorem met_PinLock : let s := keyed .pinLock State.reset
    s.host.key = some .pinLock ∧ s.cfg.state = .idle ∧ (∀ p ∈ lockPins 0x07FF, pinEdited s p = false) ∧
    lockPins 0x0780 = [63] ∧
    (∃ p ∈ lockPins 0x0780, pinEdited { s with cfg := { s.cfg with shadow := [(cfgKey 9 (8 * 63), 1)] } } p = true) := by
  decide +kernel
theorem met_Pin_events : running State.reset = true ∧ awake State.reset = true ∧ domainDead State.reset 206 = false ∧
    domainDead (lastingIs ⟨11, 206⟩ 0x90CE State.reset) (203 + 63 / 16) = true := by decide +kernel
def wakeable : State := { inPState .sleep (word 9 (8 * 15 + 3) 3 State.reset) with
  boot := { State.reset.boot with committed := true }, pin := { State.reset.pin with level := 0x8000 } }
theorem met_Pin_wake : running wakeable = true ∧ wakeable.power.pstate = .sleep ∧ wakeable.power.target = none ∧
    wakeable.boot.committed = true ∧ bit (padWord wakeable 15 3) 0 = true ∧
    inputLevel wakeable 15 = bit (padWord wakeable 15 3) 1 ∧ bit (padWord State.reset 15 3) 0 = false ∧
    State.reset.boot.committed = false := by decide +kernel
theorem met_Pin_wake_backup : let s := phased .backup (withVbak true (word 9 (8 * 7 + 3) 3 { State.reset with
      boot := { State.reset.boot with committed := true }, pin := { State.reset.pin with level := 0x80 } }))
    s.power.phase = .backup ∧ s.power.vbak = true ∧ s.boot.committed = true ∧ bit (padWord s 7 3) 0 = true ∧
    inputLevel s 7 = bit (padWord s 7 3) 1 := by decide +kernel
theorem met_Pin_fault : pinDiff (word 9 (8 * 30) 0x100 State.reset) 30 = true ∧ pinDiff State.reset 30 = false ∧
    (let s := word 9 (8 * 30) 0x100 (word 9 0x200 0x9E (word 2 0xC0 0x21 bridged))
     pinDiff s 30 = true ∧ fbOn s 0 = true ∧ bit (fbWord s 0) 5 = true ∧ usesReceiver s 0 15 = true) := by decide +kernel

theorem test_pin_data : after (.pinDataWrite 0 3 0x8001) State.reset (fun t => t.pin.latch) =
    some 0x8001000000000000 := by decide +kernel
theorem test_pin_data_owned : after (.pinDataWrite 0 3 0x8001) ownedPin
    (fun t => (t.pin.latch, t.host.resp.status)) = some (0, .notOwner) := by decide +kernel
theorem test_pin_masked : after (.pinMaskedWrite 0 0 true 0x0F 0xFF) State.reset (fun t => t.pin.latch) =
    some 0x0F00 := by decide +kernel
theorem test_pin_lock : after (.pinLock 0 0x0780) (keyed .pinLock State.reset) (fun t => t.pin.locked) =
    some 0x8000000000000000 := by decide +kernel
theorem test_pin_inputs : after (.pinInputChange 1 0x8000) State.reset (fun t => t.pin.level) = some 0x80000000 := by
  decide +kernel
theorem test_wake : after (.wakePin 15) wakeable (fun t => t.power.target) = some (some .run) := by decide +kernel
theorem test_line_fault : after (.lineFault 15) (word 9 (8 * 30) 0x100 State.reset) (fun t => t.pin.rxFault) =
    some 0x8000 := by decide +kernel
theorem test_line_fault_clear : after (.lineFaultClear 0) { State.reset with pin := { State.reset.pin with rxFault := 3 } }
    (fun t => t.pin.rxFault) = some 2 := by decide +kernel

/-! ### OTP -/

/-- A module in INTEGRATE (05 Table 5.14: 0x000F) with 3 in the last word of region 11, the store key armed. -/
def otpState (f : Otp → Otp) : State := keyed .store (otpWith (fun t =>
  f { t with cells := [(0x0C00, 0x000F), (0x17FF, 3)] }) State.reset)
theorem met_Otp_idle : let s := otpState id
    running s = true ∧ s.host.key = some .store ∧ s.otp.fetching = false ∧ s.otp.op = none ∧ s.otp.dead = false ∧
    s.otp.dataPhase = none ∧ wordOpen s 0x17FF = true ∧ wordOpen s 0x0400 = true ∧ wordOpen s 0x03FF = false ∧
    wordOpen s 0x0C00 = false := by decide +kernel
theorem met_Otp_locks : regionOpen (otpState id) ((0x002 : BitVec 13).toNat % 16) = true ∧
    regionOpen (otpState id) ((0x00B : BitVec 13).toNat % 16) = true := by decide +kernel
theorem met_Otp_busy : let s := otpState fun t => { t with dataPhase := some 0x17FF, fetching := true }
    s.otp.dataPhase = some 0x17FF ∧ s.otp.fetching = true ∧ wordOpen s 0x17FF = true := by decide +kernel
theorem met_Otp_working : let s := otpState fun t => { t with op := some (.lockWrite 2) }
    s.otp.dataPhase = none ∧ s.otp.op.isSome = true ∧ wordOpen s 0x17FF = true ∧
    regionOpen s ((0x00B : BitVec 13).toNat % 16) = true ∧ lifeNow s < 4 ∧ lifeNow s ≤ (4 : BitVec 13).toNat % 8 ∧
    (∀ n, (axSt s n).atRest = true) ∧ (otpState fun t => { t with dead := true }).otp.dead = true := by decide +kernel
theorem met_Otp_advance : let s := otpState id
    (4 : BitVec 13).toNat % 8 ≤ 4 ∧ lifeNow s < 4 ∧ (∀ n, (axSt s n).atRest = true) ∧ lifeNow s < (4 : BitVec 13).toNat % 8 ∧
    lifeNow s = (2 : BitVec 13).toNat % 8 ∧ (1 : BitVec 13).toNat % 8 < lifeNow s := by decide +kernel
theorem met_Otp_data : let s := otpState fun t => { t with dataPhase := some 0x17FF }
    s.otp.dataPhase = some 0x17FF ∧ wordOpen s 0x17FF = true ∧ otpRaw s.otp 0x17FF = 3 ∧
    (otpRaw s.otp 0x17FF ≠ 7 ∧ otpRaw s.otp 0x17FF &&& ~~~7 = 0) ∧ otpRaw s.otp 0x17FF &&& ~~~(5 : Word) ≠ 0 ∧
    s.otp.fetching = false ∧ (otpState id).otp.dataPhase = none := by decide +kernel
theorem met_OtpBurns : let s := otpState fun t => { t with op := some (.word 0x17FF 4) }
    s.otp.op = some (.word 0x17FF 4) ∧ spareOf s.otp ((0x17FF : BitVec 13).toNat / 32) = none ∧
    (otpState fun t => { t with op := some (.lockWrite 15) }).otp.op = some (.lockWrite 15) ∧
    (otpState fun t => { t with op := some (.lockRead 0) }).otp.op = some (.lockRead 0) ∧
    (otpState fun t => { t with op := some (.advance 4) }).otp.op = some (.advance 4) ∧
    (3 : BitVec 3) ≠ 4 ∧ spareOf s.otp 96 = none ∧
    (otpState fun t => { t with op := some (.redirect 0x0C00 0x003F) }).otp.op = some (.redirect 0x0C00 0x003F) ∧
    lifeOf 0x003F ≠ 4 := by decide +kernel
theorem met_OtpRedirects : let s := otpState fun t => { t with op := some (.redirect 0x17FF 4) }
    s.otp.op = some (.redirect 0x17FF 4) ∧ (0x17FF : BitVec 13) ≠ 0x0C00 ∧
    s.otp.spares.wf ∧ (eligibleSpares s.otp).find? (fun k => !(List.range 15).contains k.val) = some 15 ∧
    (eligibleSpares s.otp).find? (fun k => !(List.range 16).contains k.val) = none := by decide +kernel

theorem test_otp_program : after (.otpProgram 0 0x17FF) (otpState id) (fun t => (t.otp.dataPhase, t.otp.fetching)) =
    some (some 0x17FF, true) := by decide +kernel
theorem test_otp_program_closed : after (.otpProgram 0 0x0C00) (otpState id)
    (fun t => (t.otp.dataPhase, t.host.guardCause)) = some (none, 5) := by decide +kernel
theorem test_otp_data : after (.otpDataWord 0 7) (otpState fun t => { t with dataPhase := some 0x17FF })
    (fun t => t.otp.op) = some (some (.word 0x17FF 7)) := by decide +kernel
theorem test_otp_cannot_clear : after (.otpDataWord 0 5) (otpState fun t => { t with dataPhase := some 0x17FF })
    (fun t => (t.otp.op, t.otp.dataPhase, t.host.resp.status)) = some (none, none, .cannotClear) := by decide +kernel
theorem test_otp_lock_write : after (.otpLockWrite 0 11) (otpState id) (fun t => t.otp.op) = some (some (.lockWrite 11)) := by
  decide +kernel
theorem test_otp_lock_read : after (.otpLockRead 0 1) (otpState id) (fun t => (t.otp.op, t.host.guardCause)) =
    some (none, 5) := by decide +kernel
theorem test_otp_advance : after (.otpAdvance 0 3) (otpState id) (fun t => t.otp.op) = some (some (.advance 3)) := by
  decide +kernel
theorem test_otp_fetch : after .otpFetchDone (otpState fun t => { t with fetching := true }) (fun t => t.otp.fetching) =
    some false := by decide +kernel
theorem test_otp_burn : after (.otpBurnDone true) (otpState fun t => { t with op := some (.word 0x17FF 7) })
    (fun t => (t.otp.cells.get 0x17FF, t.otp.result)) = some (7, 1) := by decide +kernel
theorem test_otp_redirect : after (.otpRedirectionDone [0]) (otpState fun t => { t with op := some (.redirect 0x17FF 7) })
    (fun t => (t.otp.result, t.otp.redir[(1 : Fin 16)], otpRaw t.otp 0x17FF)) =
    some (2, Vector.replicate 3 0x1BF, 7) := by decide +kernel
theorem test_otp_expiry : after .otpDataPhaseExpiry (otpState fun t => { t with dataPhase := some 0x17FF })
    (fun t => (t.otp.dataPhase, t.otp.result)) = some (none, 5) := by decide +kernel

/-! ### The record store -/

/-- A store with a staged slot whose CRC-32 holds, and a BEGIN's session on it. -/
def stagedState : State := keyed .store (storeWith (fun x => { x with
  session := some (.host, true)
  mem := [(slotBase true, 1), (slotBase true + 510, 0xAF9A), (slotBase true + 511, 0xAFF4)] }) State.reset)
def blankStore : State := keyed .store (storeWith (fun x => { x with mem := [] }) State.reset)
theorem met_Store_idle : running blankStore = true ∧ mayWriteGroup blankStore .host 3 = true ∧
    storeOut blankStore = false ∧ blankStore.store.op = none ∧ blankStore.host.key = some .store ∧
    blankStore.store.session = none := by decide +kernel
/-- The CRC-32 register over 30 words of zeros. -/
def zeros30 : List Word := List.replicate 30 0
theorem crc_of_zeros :
    zeros30.foldl crc32Word 826210424 = 1470917401 ∧
    zeros30.foldl crc32Word 1470917401 = 336068126 ∧
    zeros30.foldl crc32Word 336068126 = 1139354593 ∧
    zeros30.foldl crc32Word 1139354593 = 1794756504 ∧
    zeros30.foldl crc32Word 1794756504 = 1935631337 ∧
    zeros30.foldl crc32Word 1935631337 = 4256079163 ∧
    zeros30.foldl crc32Word 4256079163 = 3331979285 ∧
    zeros30.foldl crc32Word 3331979285 = 2980910040 ∧
    zeros30.foldl crc32Word 2980910040 = 3179248963 ∧
    zeros30.foldl crc32Word 3179248963 = 3377503829 ∧
    zeros30.foldl crc32Word 3377503829 = 1238745298 ∧
    zeros30.foldl crc32Word 1238745298 = 655674991 ∧
    zeros30.foldl crc32Word 655674991 = 3721052060 ∧
    zeros30.foldl crc32Word 3721052060 = 491381863 ∧
    zeros30.foldl crc32Word 491381863 = 2701734626 ∧
    zeros30.foldl crc32Word 2701734626 = 1342918757 := by
  refine ⟨?_, ?_, ?_, ?_, ?_, ?_, ?_, ?_, ?_, ?_, ?_, ?_, ?_, ?_, ?_, ?_⟩ <;> decide +kernel
theorem crc_starts : (1 :: List.replicate 29 (0 : Word)).foldl crc32Word 0xFFFFFFFF#32 = 826210424 := by decide +kernel
theorem slot_words : (stagedState.store.mem.slice (slotBase true) 512) =
    (1 :: List.replicate 29 0) ++ (List.replicate 16 zeros30).flatten ++ [0xAF9A, 0xAFF4] := by decide +kernel
theorem slot_covered : ((1 :: List.replicate 29 0) ++ (List.replicate 16 zeros30).flatten ++ [0xAF9A, 0xAFF4] : List Word).take 510 =
    (1 :: List.replicate 29 0) ++ (List.replicate 16 zeros30).flatten := by decide +kernel
theorem met_Store_sealable : stagedState.store.session = some (.host, true) ∧ slotGood stagedState.store.mem true = true ∧
    slotGood stagedState.store.mem false = false := by
  refine ⟨rfl, ?_, by decide +kernel⟩
  have hc : crc32 ((1 :: List.replicate 29 (0 : Word)) ++ (List.replicate 16 zeros30).flatten) = 0xAFF4AF9A := by
    unfold crc32
    rw [List.foldl_append, crc_starts]
    have h := crc_of_zeros
    simp only [List.replicate_succ, List.replicate_zero, List.flatten_cons, List.flatten_nil, List.foldl_append, h,
      List.foldl_nil]
    decide
  unfold slotGood
  simp only [slot_words, slot_covered, hc]
  decide +kernel
theorem met_Store_request : (0 : BitVec 12).getLsbD 0 = false ∧ ((1 : BitVec 12).getLsbD 0 = true ∧
    (State.reset.boot.life.extractLsb' 0 3).toNat < 3) := by decide +kernel
theorem met_Store_request_field : let s := { blankStore with boot := { blankStore.boot with life := 3 } }
    running s = true ∧ mayWriteGroup s .host 3 = true ∧ storeOut s = false ∧ s.store.op = none ∧
    s.host.key = some .store ∧ (1 : BitVec 12).getLsbD 0 = true ∧ 3 ≤ (s.boot.life.extractLsb' 0 3).toNat := by
  decide +kernel
theorem met_Store_busy : let s := storeWith (fun x => { x with op := some (.begin false) }) blankStore
    s.store.op.isSome = true ∧ storeOut s = false := by decide +kernel
theorem met_Store_out : storeOut (lastingIs ⟨10, 0⟩ 0xA100 blankStore) = true := by decide +kernel
theorem met_Store_unkeyed : State.reset.host.key ≠ some .store ∧ State.reset.store.session = none ∧
    (∀ h, State.reset.store.session = some h → h.1 = .host) :=
  ⟨by decide, rfl, fun h e => absurd (show none = some h from e) (by simp)⟩
theorem met_StoreWrites : let img := List.replicate 0x300 (7 : Word)
    let s := storeWith (fun x => { x with op := some (.bank true img 9) }) blankStore
    s.store.op = some (.bank true img 9) ∧ img.length = 0x300 ∧ mayStore s 3 = true ∧ s.store.mem.wf ∧
    mayStore (storeWith (fun x => { x with waiting := [(0, 1)] }) s) 3 = false ∧
    mayStore (lastingIs ⟨10, 0⟩ 0xA100 s) 3 = false := by decide +kernel
theorem met_StoreBegins : let s := storeWith (fun x => { x with op := some (.begin false) }) stagedState
    s.store.op = some (.begin false) ∧ s.store.session = some (.host, true) ∧
    mayStore s 2 = true ∧ mayStore (storeWith (fun x => { x with waiting := [(0, 1)] }) s) 2 = false ∧
    (storeWith (fun x => { x with op := some (.header [1] true) }) blankStore).store.op = some (.header [1] true) ∧
    stagedState.store.session.isSome = true := by decide +kernel
theorem met_Tally : let s := storeWith (fun x => { x with waiting := [(0xFF, 1)] }) blankStore
    s.store.waiting = [(0xFF, 1)] ∧ mayStore s 1 = true ∧ s.store.mem.wf ∧
    mayStore (lastingIs ⟨10, 0⟩ 0xA100 s) 1 = false := by decide +kernel
def logged : LogEntry := { newEntry State.reset 0x3200 .error 0 with result := some 1 }
theorem met_Tally_after_log : mayStore { blankStore with flt := { blankStore.flt with cache := [logged] } } 1 = false := by
  decide +kernel
theorem met_Log : let s := { blankStore with flt := { blankStore.flt with cache := [logged] } }
    s.flt.cache = [logged] ∧ logged.result.isSome = true ∧ logged.units = [] ∧ storeOut s = false ∧
    State.reset.flt.cache = [] := by decide +kernel
theorem met_RunTime : 72000000000 ≤ (modAxis 7 (fun a => { a with runTicks := 72000000000 }) State.reset).axes[
      (7 : Fin 8)].runTicks ∧
    (modAxis 7 (fun a => { a with runTicks := 71999999999 }) State.reset).axes[(7 : Fin 8)].runTicks < 72000000000 := by
  decide +kernel

theorem test_calstore : after (.calstore 0 0) blankStore (fun t => (t.store.op.isSome, t.store.mem.get 1, t.store.done)) =
    some (true, 1, false) := by decide +kernel
theorem test_begin : after (.stagingBegin 0 1) blankStore (fun t => (t.store.op, t.store.session)) =
    some (some (.begin true), some (.host, false)) := by decide +kernel
theorem test_seal_bad_slot : after (.stagingSeal 0 0)
    (storeWith (fun x => { x with session := some (.host, false) }) stagedState)
    (fun t => (t.store.op, t.store.result, t.store.done)) = some (none, 2, true) := by decide +kernel
theorem test_withdraw : after (.stagingWithdraw 0 0) blankStore (fun t => t.store.op.isSome) = some true := by
  decide +kernel
theorem test_request_field : after (.stagingRequest 0 1) { blankStore with boot := { blankStore.boot with life := 3 } }
    (fun t => t.store.op.isSome) = some false := by decide +kernel
theorem test_bank_write_fails : after (.bankWriteDone false)
    (storeWith (fun x => { x with op := some (.bank false (List.replicate 4 7) 9) }) blankStore)
    (fun t => (t.store.result, t.store.done)) = some (3, true) := by decide +kernel
theorem test_begin_done : after (.stagingBeginDone true) (storeWith (fun x => { x with op := some (.begin false) }) stagedState)
    (fun t => (t.store.mem.get (slotBase true), t.store.result)) = some (0, 1) := by decide +kernel
theorem test_session_timeout : after .stagingSessionTimeout stagedState (fun t => (t.store.session, t.store.result)) =
    some (none, 4) := by decide +kernel
theorem test_tally_store : after (.tallyStoreWrite true) (storeWith (fun x => { x with waiting := [(3, 2)] }) blankStore)
    (fun t => (t.store.waiting, counterValue t.store.mem 3)) = some ([], 2) := by decide +kernel
theorem test_run_time : after (.runTimeIncrement 7) (modAxis 7 (fun a => { a with runTicks := 72000000001 }) State.reset)
    (fun t => (t.axes[(7 : Fin 8)].runTicks, t.store.waiting)) = some (1, [(7, 1)]) := by decide +kernel
theorem test_log_write : after (.faultLogWrite true) { blankStore with flt := { blankStore.flt with cache := [logged] } }
    (fun t => (t.flt.cache.length, t.flt.top, t.flt.empty, t.store.mem.get 0xA000)) = some (0, 0, false, 0x3200) := by
  decide +kernel

/-! ### The backup domain -/

def alarmed : State := keyed .store (withVbak true { State.reset with bak := { State.reset.bak with
  since := 9, shown := 11, latched := true, lo := 0xFFFF, vbakArmed := false } })
theorem met_Ack : running alarmed = true ∧ mayWriteGroup alarmed .host 3 = true ∧ alarmed.host.key = some .store ∧
    alarmsReported alarmed = true ∧ bakAlive alarmed = true ∧ alarmsReported State.reset = false ∧
    bits (0xFFF1 : Word) 0 4 = 1 ∧ bits (2 : Word) 0 4 ≠ 1 := by decide +kernel
def covered : State := withVbak true { State.reset with bak := { State.reset.bak with
  vbakArmed := true, ram := [(0x10, 0x1001), (0x12, 1)], abKnown := true } }
theorem met_Backup : awake covered = true ∧ bakAlive covered = true ∧ covered.bak.vbakArmed = true ∧
    alarmed.bak.vbakArmed = false ∧ bit (covered.bak.ram.get 0x10) 12 = true ∧
    bit (State.reset.bak.ram.get 0x10) 12 = false ∧ (phased .backup covered).power.phase = .backup ∧
    (phased .backup covered).power.vbak = true := by decide +kernel
theorem met_Strobe : strobing covered = true ∧ awake covered = true ∧ covered.bak.abKnown = true ∧
    abStep covered.bak.ab.a covered.bak.ab.b true false (bit (covered.bak.ram.get 0x10) 4) = some 1 ∧
    abStep covered.bak.ab.a covered.bak.ab.b false true (bit (covered.bak.ram.get 0x10) 4) = some (-1) := by decide +kernel
theorem met_RtcWake : let s := inPState .sleep { covered with bak := { covered.bak with rtc := 0x00000001FFFF } }
    running s = true ∧ s.power.pstate = .sleep ∧ bakAlive s = true ∧ s.power.target = none ∧
    s.bak.ram.get32 0x12 ≠ 0 ∧ s.bak.rtc.extractLsb' 16 32 = s.bak.ram.get32 0x12 ∧
    (s.bak.rtc.extractLsb' 16 32).toNat ≤ (s.bak.ram.get32 0x12).toNat := by decide +kernel

theorem test_backup_ack : after (.backupAcknowledge 0 1) alarmed (fun t => (t.bak.latched, t.bak.since, t.bak.ref)) =
    some (false, 0, 0xFFFF) := by decide +kernel
theorem test_vbak_low : after .vbakLowAlarm covered (fun t => (t.bak.alarm, t.bak.latched)) = some (1, true) := by
  decide +kernel
theorem test_cover : after .coverAlarm covered (fun t => (t.bak.alarm, t.bak.since)) = some (8, 8) := by decide +kernel
theorem test_strobe : after (.watchStrobe { a := false, b := true }) covered (fun t => watchCount t.bak) =
    some 0xFFFFFFFF := by decide +kernel
theorem test_carry : after .watchCarryApply { covered with bak := { covered.bak with lo := 5, carry := -1 } }
    (fun t => (t.bak.hi, t.bak.lo, t.bak.carry)) = some (0xFFFF, 5, 0) := by decide +kernel
theorem test_vbak_loss : after .vbakLoss (phased .backup (withVbak true State.reset)) (fun t => t.power.phase) =
    some .off := by decide +kernel
theorem test_domain_restart : after .backupDomainRestart (withVbak false alarmed) (fun t => (t.power.vbak, t.bak.stat)) =
    some (true, 1) := by decide +kernel

/-! ### The inspection space and the words named after a DATA write -/

def proving (f : Proof → Proof) : State := { State.reset with proof := f { resetProof with running := true, sto := true } }
theorem met_Proof_units : (proving id).proof.running = true ∧ (proving id).proof.stoWait = false ∧
    proofTestsLeft (proving id) = false ∧ (proving id).proof.sto = true ∧
    (proving fun p => { p with sto := false }).proof.sto = false := by decide +kernel
theorem met_Proof_left : let s := { proving id with flt := { State.reset.flt with queues :=
      (State.reset.flt.queues.set 9 [{ unit := ⟨11, 0⟩, code := 0, origin := .host, proof := true, after := none }]) } }
    proofTestsLeft s = true := by decide +kernel
theorem met_Proof_sto : let s := proving fun p => { p with stoWait := true, demand := true, acted := 3 }
    s.proof.stoWait = true ∧ s.proof.demand = true ∧ s.proof.low = 0 ∧ s.proof.acted = 3 ∧ s.sto.in1 = true ∧
    s.sto.in2 = true ∧ s.sto.hw1 = false ∧ s.sto.hw2 = false ∧ State.reset.proof.stoWait = false ∧
    (proving fun p => { p with stoWait := true }).proof.demand = false ∧
    (proving fun p => { p with stoWait := true }).sto.input 1 = true := by decide +kernel

/-- WIN0 at word `a` of space `sp` with one word to go. -/
def atWord (sp : BitVec 5) (a : BitVec 24) (s : State) : State :=
  win0 { resetWindow with space := sp, addr := a, count := 1 } s
def namedReady (sp : BitVec 5) (a : BitVec 24) (s : State) : Bool :=
  let t := atWord sp a s
  let w := t.win[(0 : Fin 4)]
  running t && w.count != 0 && !w.atEnd && !w.fetching && w.writing.isNone &&
    mayWriteWord t .host w.space.toNat w.addr.toNat
theorem met_Named : [((0x13 : BitVec 5), (0x022 : BitVec 24)), (0x13, 0x020), (0x07, 0x17F), (0x12, 0xF1), (0x0A, 0x120),
    (0x0A, 0x160)].all (fun x => namedReady x.1 x.2 State.reset) = true := by decide +kernel
theorem met_Named_mark : State.reset.flt.cache.length < 32 ∧ 31 < 32 := by decide +kernel
theorem met_Named_proof : State.reset.power.pstate = .run ∧ State.reset.proof.running = false ∧
    State.reset.sto.source = false := by decide +kernel
def coefHeld : State := { State.reset with cnv := { State.reset.cnv with heldMask := [382], heldOfs := [(382, 5)] } }
theorem met_Named_coef : BitVec.ofNat 24 (2 * (191 : Fin 192).val + 1) = 0x17F ∧
    coefHeld.cnv.heldMask.contains (2 * (191 : Fin 192).val) = true := by decide +kernel
/-- A module with ID 5, port 0 up in a tree, and device 9 in its roll call on port 0. -/
def linked : State := word 0x1F 0x020 1 (word 0x1F 0x022 5 { State.reset with seam := { State.reset.seam with
  ports := State.reset.seam.ports.set 0 { resetPort with up := true, role := 1 }
  outbox := [(0, 9)]
  epochs := [(9, 4)]
  roll := [{ port := 0, fresh := true, entry := { dev := 9, epoch := 4, age := 63, cls := 0, gang := 0, status := 0,
                                                  hops := 1, serialLo := 0 } }] } })
theorem met_Named_send : bit (1 : Word) 0 = true ∧ ownId State.reset = none ∧
    linked.seam.send = none ∧ (ownId linked).isSome = true ∧ speaks linked = true ∧
    (∀ p, queueFull linked p = false) ∧ bit (linked.seam.outbox.get 0) 10 = false ∧
    (routeTo linked ((linked.seam.outbox.get 0).extractLsb' 0 10)).isSome = true ∧
    namedReady 0x0A 0x120 linked = true := by decide +kernel

theorem test_proof_request : after (.proofTestRequest 0 0 0x8100) (atWord 0x13 0x020 State.reset)
    (fun t => (t.proof.running, t.proof.sto)) = some (true, true) := by decide +kernel
theorem test_proof_phase : after .proofTestUnitPhaseEnd (proving id) (fun t => (t.proof.stoWait, t.proof.running)) =
    some (true, true) := by decide +kernel
theorem test_proof_timeout : after .proofTestStoTimeout (proving fun p => { p with stoWait := true })
    (fun t => (t.proof.running, t.proof.stores, t.proof.pass)) = some (false, 3, false) := by decide +kernel
theorem test_proof_sample : after .proofTestStoSample
    (proving fun p => { p with stoWait := true, demand := true, acted := 3 })
    (fun t => (t.proof.running, t.proof.stores, t.proof.pass)) = some (false, 1, true) := by decide +kernel
theorem test_mark : after (.inspectionMark 0 0 0xABCD) (atWord 0x13 0x022 State.reset)
    (fun t => t.flt.cache.map fun e => (e.code, e.meas, e.result)) = some [(0xC400, 0xABCD, some 5)] := by decide +kernel
theorem test_preset : after (.feedbackPreset 0 0 0x1234) (atWord 0x12 0xF1 { State.reset with
    fb := State.reset.fb.set 7 { resetFb with heldPre := some 0x5678 } }) (fun t => t.fb[(7 : Fin 8)].count) =
    some 0x12345678 := by decide +kernel
theorem test_coefficients : after (.coefficientPairWrite 0 0 0x8000) (atWord 0x07 0x17F coefHeld)
    (fun t => (t.cnv.coef.get 382, t.cnv.coef.get 383)) = some (5, 0x8000) := by decide +kernel
theorem test_outbox_without_id : after (.seamOutboxSend 0 0 1) (atWord 0x0A 0x120 State.reset) (fun t => t.seam.stat) =
    some 0x800 := by decide +kernel
theorem test_outbox : after (.seamOutboxSend 0 0 1) (atWord 0x0A 0x120 linked) (fun t => t.seam.send.isSome) =
    some true := by decide +kernel
theorem test_inbox_release : after (.seamInboxRelease 0 0 1) (atWord 0x0A 0x160 { State.reset with
    seam := { State.reset.seam with full := true } }) (fun t => t.seam.full) = some false := by decide +kernel

/-! ### Stitching -/

/-- Slot 1023 a head on source 31, lane 7, rising, at 100, with a chained HOST_IRQ in slot 0. -/
def stitched : State := word 0 (8 * 1023) 0x873F (word 0 (8 * 1023 + 1) 100 (word 0 (8 * 1023 + 5) 0x0400
  (word 0 2 6 { State.reset with
    stitch := { State.reset.stitch with cycle := 1000 }
    src := State.reset.src.set 31 { resetSource with angle := 0x00640000, speed := 1 } })))
def disarmedAt (travel : Nat) (s : State) : State :=
  { s with stitch := { s.stitch with disarmed := [{ slot := 1023, travel := travel }] } }
theorem met_Stitch_reaches : let s := stitched
    awake s = true ∧ isHead s 1023 = true ∧ s.stitch.disarmed = [] ∧ 0 < s.src[slotSource s 1023].speed ∧
    s.src[slotSource s 1023].cut = none ∧
    bit (slotWord s 1023 0) 5 = true ∧ (hiWord s.src[slotSource s 1023].prev).toNat < (slotWord s 1023 1).toNat ∧
    (slotWord s 1023 1).toNat ≤ (hiWord s.src[slotSource s 1023].angle).toNat ∧ 100 - 0 ≤ 32768 := by decide +kernel
theorem met_Stitch_due : isDue stitched 1023 = true ∧ stitched.stitch.lanes[slotLane stitched 1023].queue.length < 64 ∧
    isDue State.reset 1023 = false ∧ isDue (disarmedAt 0 stitched) 1023 = false := by decide +kernel
def chain0 : Chain := { head := 3, due := 5, rank := 0, forward := true, fresh := true, actions := [{ code := 6, p0 := 15, p1 := 0 }] }
/-- Lane 7 with this chain at its front, in cycle 6. -/
def queued (c : Chain) (s : State) : State := { s with stitch := { s.stitch with
  cycle := 6, lanes := s.stitch.lanes.set 7 { s.stitch.lanes[(7 : Fin 8)] with queue := [c] } } }
theorem met_Stitch_full : let s := { stitched with stitch := { stitched.stitch with lanes :=
      (stitched.stitch.lanes.set 7 { stitched.stitch.lanes[(7 : Fin 8)] with queue := List.replicate 64 chain0 }) } }
    isDue s 1023 = true ∧ s.stitch.lanes[slotLane s 1023].queue.length = 64 ∧
    (∀ d ∈ s.stitch.lanes[slotLane s 1023].queue,
      (d.due == s.stitch.cycle && decide (dueRank s 1023 < d.rank)) = false) := by decide +kernel

def acting (code : BitVec 8) (p0 p1 : Word) (s : State) : State :=
  queued { chain0 with actions := [{ code := code, p0 := p0, p1 := p1 }] } s
theorem met_Lane : let s := queued chain0 State.reset
    awake s = true ∧ s.stitch.lanes[(7 : Fin 8)].queue = [{ chain0 with actions := { code := 6, p0 := 15, p1 := 0 } :: [] }] ∧
    chain0.due < s.stitch.cycle ∧ s.stitch.lanes[(7 : Fin 8)].lastExec < s.stitch.cycle ∧
    laneAction State.reset 7 = none ∧ talliesWaiting (acting 0x0C 0 0 State.reset) < 16 ∧
    16 ≤ talliesWaiting (storeWith (fun x => { x with waiting := [(0x2F, 16)] }) (acting 0x0C 0 0 State.reset)) := by
  decide +kernel
theorem met_Lane_units : [0x01, 0x02, 0x07, 0x08, 0x09, 0x0A, (0x0B : BitVec 8)].all (fun k =>
    laneAction (acting k 7 0x31 bridged) 7 == some ({ chain0 with actions := [{ code := k, p0 := 7, p1 := 0x31 }] },
      { code := k, p0 := 7, p1 := 0x31 })) = true ∧ awake bridged = true := by decide +kernel
theorem met_Lane_commute : let s := axisIn 0 .run bridged
    (axSt s 0).driving = true ∧ isDirect s 0 = false ∧ bits (axWord s 0 0x40) 0 14 = 0 := by decide +kernel
/-- A COMMUTE to sector 1 of a driving axis whose back-EMF rung is enabled. -/
theorem met_Lane_bemf : let s := word 2 0x80 2 (axisIn 0 .run bridged)
    (0x31 : Nat) % 8 ≠ s.axes[(0 : Fin 8)].drv.sector ∧ (axSt s 0).driving = true ∧ rungOn s 0 .bemf = true ∧
    isMember s 0 = false ∧ rungOn bridged 0 .bemf = false ∧
    (modAxis 0 (fun a => { a with inj := { a.inj with gate := true } }) s).axes[(0 : Fin 8)].inj.gate = true ∧ s.axes[(0 : Fin 8)].bemf.sectorMax < 30000 * bvminOf s 0 ∧
    s.axes[(0 : Fin 8)].inj.gate = false := by decide +kernel
theorem met_Lane_resync : carrierOn bridged 1 = false ∧ isMember grouped 1 = true ∧ carrierOn bridged 0 = true ∧
    isMember bridged 0 = false ∧ lowTooShort bridged 0 = false := by decide +kernel
/-- A step at whose end the resync of axis 0 takes place: no other axis, no begun chain. -/
def resyncing : State := modAxis 0 (fun a => { a with car := { a.car with resyncDue := true, ticks := 500 } }) bridged
theorem met_Lane_resync_step : let u := stepAngles (forEach allAxes stepInput (continueChains resyncing))
    awake resyncing = true ∧ u.axes[(0 : Fin 8)].car.resyncDue = true ∧
    (∀ m : Fin 8, m ≠ 0 → u.axes[m].car.resyncDue = false) ∧ carrierOn u 0 = true ∧ isMember u 0 = false ∧
    u.cfg.axesPending.getLsbD 0 = false ∧ lowTooShort u 0 = false := by decide +kernel
theorem met_Lane_short : let s := word 2 0x67 1 (modAxis 0 (fun a => { a with car := { a.car with
      legs := a.car.legs.set 0 { a.car.legs[(0 : Fin 3)] with low := some { on := 0, off := 160 } } } }) bridged)
    carrierOn s 0 = true ∧ isMember s 0 = false ∧ lowTooShort s 0 = true := by decide +kernel

theorem test_stitch_due : after (.stitchDue 1023) stitched
    (fun t => (t.stitch.lanes[(7 : Fin 8)].queue.map fun c => (c.head, c.due, c.forward, c.actions.map (·.code)))) =
    some [(1023, 1000, true, [0, 6])] := by decide +kernel
theorem test_rearm_early : after (.stitchRearm 1023) (disarmedAt (182 * 65536 - 1) stitched)
    (fun t => t.stitch.disarmed.length) = some 1 := by decide +kernel
theorem test_rearm : after (.stitchRearm 1023) (disarmedAt (182 * 65536) stitched) (fun t => t.stitch.disarmed.length) =
    some 0 := by decide +kernel
theorem test_host_irq : after (.hostIrq 7) (queued chain0 State.reset) (fun t => (t.host.sysStat,
    t.stitch.lanes[(7 : Fin 8)].irqFlag, t.stitch.lanes[(7 : Fin 8)].lastIrq, t.stitch.lanes[(7 : Fin 8)].fired)) =
    some (16, 0x8000, 3, 1) := by decide +kernel
theorem test_wrong_action : after (.nop 7) (queued chain0 State.reset) (fun t => t.stitch.lanes[(7 : Fin 8)].queue.length) =
    some 1 := by decide +kernel
theorem test_nop : after (.nop 7) (acting 0 0 0 State.reset) (fun t => t.stitch.lanes[(7 : Fin 8)].queue.length) =
    some 0 := by decide +kernel
theorem test_commute : after (.commute 7) (acting 1 7 0x25 State.reset) (fun t => t.axes[(7 : Fin 8)].drv.sector) =
    some 5 := by decide +kernel
theorem test_sig_set : after (.sigSet 7) (acting 3 15 0 State.reset) (fun t => t.stitch.outputs) = some 0x8000 := by
  decide +kernel
theorem test_sig_clear : after (.sigClear 7) (acting 4 0 0 { State.reset with stitch := { State.reset.stitch with
    outputs := 3, outputsBefore := 3 } }) (fun t => t.stitch.outputs) = some 2 := by decide +kernel
theorem test_sig_toggle : after (.sigToggle 7) (acting 5 0 0 { State.reset with stitch := { State.reset.stitch with
    outputs := 3, outputsBefore := 3 } }) (fun t => t.stitch.outputs) = some 2 := by decide +kernel
theorem test_inj_on : after (.injOn 7) (acting 7 3 0 State.reset) (fun t => t.axes[(3 : Fin 8)].inj.latch) =
    some true := by decide +kernel
theorem test_inj_off : after (.injOff 7) (acting 8 3 0 (modAxis 3 (fun a => { a with inj := { a.inj with latch := true } })
    State.reset)) (fun t => t.axes[(3 : Fin 8)].inj.latch) = some false := by decide +kernel
theorem test_spacing_rearm : after (.spacingRearm 7) (acting 9 7 0 State.reset) (fun t => t.fb[(7 : Fin 8)].arm) =
    some true := by decide +kernel
theorem test_seam_pub : after (.seamPub 7) (acting 10 1 31 { State.reset with
    src := State.reset.src.set 31 { resetSource with angle := 0x12345678, speed := -9 } })
    (fun t => (t.seam.pubs[(1 : Fin 2)].angle, t.seam.pubs[(1 : Fin 2)].speed)) = some (0x12345678, -9) := by decide +kernel
theorem test_tally : after (.tally 7) (acting 12 15 0 State.reset) (fun t => t.store.waiting) = some [(0x2F, 1)] := by
  decide +kernel
theorem test_cnv_start : after (.cnvStart 7) (acting 2 3 0 (word 5 72 1 bridged))
    (fun t => t.cnv.sar[(0 : Fin 16)].run.map (·.seq)) = some (some 3) := by decide +kernel
theorem test_resync : after (.carrierResync 7) (acting 11 0 0 (modAxis 0 (fun a => { a with car := { a.car with
    ticks := 500 } }) bridged)) (fun t => (t.axes[(0 : Fin 8)].car.ticks, t.axes[(0 : Fin 8)].car.resyncDue)) =
    some (500, true) := by decide +kernel

/-! ### Carriers and converters -/

theorem met_Period : carrierOn State.reset 0 = false ∧ carrierOn bridged 0 = true ∧
    bridged.cfg.axesPending.getLsbD 0 = false ∧ bridged.axes[(0 : Fin 8)].car.resync = false ∧
    isMember bridged 0 = false ∧ isMember grouped 1 = true ∧ carrierOn grouped 1 = true ∧
    grouped.axes[(1 : Fin 8)].car.resync = false ∧ grouped.axes[(1 : Fin 8)].car.asMember = false ∧
    (modAxis 1 (fun a => { a with car := { a.car with asMember := true } }) grouped).axes[(1 : Fin 8)].car.asMember = true := by
  decide +kernel
theorem met_Period_pending : let s := { bridged with cfg := { bridged.cfg with axesPending := 1, state := .applying } }
    carrierOn s 0 = true ∧ s.cfg.axesPending.getLsbD 0 = true ∧ s.cfg.running.wf ∧ s.cfg.pending.wf ∧
    s.cfg.state = .applying ∧ s.cfg.tablePending = false ∧ clearBit s.cfg.axesPending 0 = 0 ∧
    clearBit (3 : BitVec 8) 0 ≠ 0 := by decide +kernel
theorem met_Period_resync : let s := modAxis 0 (fun a => { a with car := { a.car with resync := true } }) bridged
    carrierOn s 0 = true ∧ s.cfg.axesPending.getLsbD 0 = false ∧ s.axes[(0 : Fin 8)].car.resync = true ∧
    isMember s 0 = false := by decide +kernel
def triggered : State := word 5 0x703 0x83 (word 5 72 1 (modAxis 0 (fun a => { a with eff := { a.eff with
  trg := a.eff.trg.set 3 0x30D3 } }) bridged))
theorem met_Trigger : carrierOn triggered 0 = true ∧ bit (runWord triggered 5 0x703) 7 = true ∧
    triggered.axes[(0 : Fin 8)].car.fired.getLsbD 3 = false ∧
    triggered.axes[(0 : Fin 8)].eff.trg[(3 : Fin 4)].toNat < triggered.axes[leaderOf triggered 0].car.per ∧
    bit (runWord bridged 5 0x703) 7 = false ∧
    bridged.axes[leaderOf bridged 0].car.per ≤ (0x30D4 : Word).toNat := by decide +kernel

/-- S(15) with the bridge of its axis enabled, its input 2 routed to pin 35 and a head of sequence 7. -/
def s15 : State := word 5 0x6F2 0x83 (word 5 168 1 (setupAt 0x17 1 State.reset))
def run0 : SarRun := { seq := 3, entry := 0, input := 2, pair := { ofs := 16, gain := 0x8000 }, rest := [5], irq := false,
                       wit := none, start := 0, onTime := false, lead := none, skip := none }
/-- A CNV_START of sequence 7 that lane 0 has queued. -/
def waiting7 : PendStart := { seq := 7, arrival := { time := 0, place := 32 } }
def converting (r : SarRun) (q : List PendStart) (s : State) : State := { s with cnv := { s.cnv with
  sar := s.cnv.sar.set 15 { resetSar with run := some r, pend := q } } }
def convertedBy (r : SarRun) (raw rawWit : BitVec 12) (s : State) : State := { s with cnv := { s.cnv with
  sar := s.cnv.sar.set 15 { resetSar with result := some { run := r, raw := raw, rawWit := rawWit, stored := false } } } }
def converted (raw : BitVec 12) : State := convertedBy run0 raw 0 State.reset
/-- 61,036 microvolts on pin 35: 0.061036 x 4,096 / 2.5 = 100.001. -/
def volts : AnalogIn := { pins := [(34, 999999), (35, 61036)], dev := 0 }
theorem met_Sar : (converting run0 [] s15).cnv.sar[(15 : Fin 16)].run = some run0 ∧
    (converting run0 [] s15).cnv.sar[(15 : Fin 16)].result = none ∧ convOn (converting run0 [] s15) 15 = true ∧
    bit (runWord (converting run0 [] s15) 5 (0x600 + 16 * 15 + 2)) 7 = true ∧
    dacTaken (converting { run0 with input := 5 } [] s15) (convAxis 15) = false ∧
    run0.rest = 5 :: [] ∧ { run0 with rest := [] }.rest = [] ∧
    (converting run0 [] s15).cnv.sar[(15 : Fin 16)].pend = [] ∧
    (converting run0 [waiting7] s15).cnv.sar[(15 : Fin 16)].pend = [waiting7] ∧
    seqInputs (converting run0 [waiting7] s15) waiting7.seq = [0] ∧ s15.cnv.sar[(15 : Fin 16)].run = none ∧
    convOn State.reset 15 = false ∧ s15.cnv.sar[(15 : Fin 16)].lone = none ∧
    (converting run0 [] s15).cnv.sar[(15 : Fin 16)].lone = none ∧ s15.cnv.res.wf ∧
    (converting run0 [] s15).cnv.sar[(15 : Fin 16)].loneResult = none ∧ 50 < slotTicks (inPState .standby s15) 15 ∧
    s15.cnv.witAt[(Fin.ofNat 32 (8 * (15 / 4) + 6))] ≤ run0.start := by decide +kernel
/-- A slot on input 6 with the witness W(3) beside it, LIM 5. -/
def run6 : SarRun := { run0 with input := 6, rest := [], irq := true,
                                 wit := some { input := 6, kind := 2, pair := { ofs := 0, gain := 0x8000 } } }
def witnessed (raw rawWit : BitVec 12) : State := convertedBy run6 raw rawWit (word 5 0x7EB 5 State.reset)
theorem met_SarHandover : (converted 4095).cnv.res.wf ∧
    (converted 4095).cnv.sar[(15 : Fin 16)].result = some { run := run0, raw := 4095, rawWit := 0, stored := false } ∧ run0.wit = none ∧
    State.reset.cnv.sar[(15 : Fin 16)].result = none := by decide +kernel
theorem met_SarHandover_witness : let s := witnessed 100 96
    s.cnv.sar[(15 : Fin 16)].loneResult = none ∧ s.cnv.witAt[(Fin.ofNat 32 (8 * (15 / 4) + 6))] ≤ run6.start ∧
    s.cnv.res.wf ∧ s.cnv.sar[(15 : Fin 16)].result = some { run := run6, raw := 100, rawWit := 96, stored := false } ∧
    run6.wit = some { input := 6, kind := 2, pair := { ofs := 0, gain := 0x8000 } } ∧
    (101 - 96 : Int).natAbs ≤ witnessLim s 15 2 ∧ witnessLim s 15 2 < (101 - 95 : Int).natAbs ∧ run6.rest = [] ∧
    run6.irq = true := by decide +kernel
theorem met_Flow : flowOn bridged 2 = true ∧ flowOn bridged 3 = false ∧ isTesting bridged ⟨4, 2⟩ = false ∧
    isTesting (testing ⟨4, 2⟩ bridged) ⟨4, 2⟩ = true := by decide +kernel
def limited (lev : Word) : State := word 8 0x301 lev (word 8 0x300 1 (axisIn 0 .run
  { bridged with cnv := { bridged.cnv with coef := [(0x144, 0), (0x145, 0x8000)] } }))
theorem met_Flow_limit : let s := limited 16383
    flowOn s 2 = true ∧ groupsFlat s ∧ bit (tripWord s 0 0) 0 = true ∧ (tripWord s 0 1).toNat < 16384 ∧
    s.axes[(0 : Fin 8)].trip.oc = 0 ∧ bridgeOn s 0 = true ∧
    axSt s 0 ∈ [AxSt.ready, .probe, .start, .run, .stopping, .hold, .gangstop, .test] := by decide +kernel
/-- A stream of density +50 %: 16,384 current units (13 R453). -/
def half : List Bool := (List.replicate 12 [true, true, true, false]).flatten
theorem met_Flow_stream : sincSum 3 16 half = 2048 ∧ sincSum 2 8 half = 32 ∧ 32768 * 2048 = 16384 * (16 ^ 3 : Int) ∧
    32768 * 32 = 16384 * (64 : Int) := by decide +kernel

theorem test_period : after (.carrierPeriodStart 0) (modAxis 0 (fun a => { a with
    acc := { a.acc with per := 0x4000 }, car := { a.car with lfsr := 1, fired := 15 } }) bridged)
    (fun t => (t.axes[(0 : Fin 8)].eff.per, t.axes[(0 : Fin 8)].car.perNext, t.axes[(0 : Fin 8)].car.lfsr,
      t.axes[(0 : Fin 8)].car.fired)) = some (0x4000, 0x4000, 0xB400, 0) := by decide +kernel
theorem test_trigger : after (.triggerCompare 0 3) triggered
    (fun t => (t.axes[(0 : Fin 8)].car.fired, t.cnv.sar[(0 : Fin 16)].run.map (·.seq))) = some (8, some 3) := by decide +kernel
theorem test_slot_end : after (.sarSlotEnd 15 volts 0) (converting run0 [] s15)
    (fun t => (t.cnv.sar[(15 : Fin 16)].run.map (·.input), t.cnv.sar[(15 : Fin 16)].result.map (·.raw))) =
    some (some 5, some 100) := by decide +kernel
/-- 13 Table 13.1: the reference node is 1.250 V, half of the converter's range. -/
theorem test_slot_end_reference : after (.sarSlotEnd 15 volts 0) (converting run6 [] s15)
    (fun t => t.cnv.sar[(15 : Fin 16)].result.map (·.raw)) = some (some 2048) := by decide +kernel
/-- 13 R459: (16 * 100 + 16) * 0x8000 / 2^19 = 101. -/
theorem test_handover : after (.sarResultHandover 15) (converted 100)
    (fun t => (t.cnv.res.get (8 * 15 + 2), t.cnv.res.get (0x80 + 8 * 15 + 2))) = some (101, 100) := by decide +kernel
theorem test_handover_clamps : after (.sarResultHandover 15) (converted 4095)
    (fun t => (t.cnv.res.get (8 * 15 + 2), t.cnv.stat)) = some (0x1FFF, 8) := by decide +kernel
theorem test_witness_at_limit : after (.sarResultHandover 15) (witnessed 100 96)
    (fun t => (t.cnv.witness, t.cnv.res.get 0x180, t.cnv.res.get (0x100 + 8 * 3 + 6))) = some (0, 3, 96) := by decide +kernel
theorem test_witness_mismatch : after (.sarResultHandover 15) (witnessed 100 95)
    (fun t => (t.cnv.witness, t.cnv.res.get 0x176, t.cnv.res.get 0x177)) = some (8, 11, 6) := by decide +kernel
theorem test_main_path : after (.mainPathResult 2 half) (limited 0) (fun t => t.cnv.res.get 0x122) = some 0x4000 := by
  decide +kernel
theorem test_fast_path : after (.fastPathResult 2 half) (limited 16383)
    (fun t => (axSt t 0, t.axes[(0 : Fin 8)].trip.causes)) = some (.tripped, 2) := by decide +kernel
theorem test_fast_path_at_limit : after (.fastPathResult 2 half) (limited 16384) (fun t => axSt t 0) = some .run := by
  decide +kernel
theorem test_stuck : after (.streamStuck 2) bridged (fun t => (t.cnv.stuck, t.cnv.stat)) = some (4, 16) := by
  decide +kernel

/-! ### Gate channels, trips and STO -/

/-- Axis 0 in RUN with the low switch of leg U on, DESAT of its channel 1 watched. -/
def driving : State := word 8 0x12 0x100 (modAxis 0 (fun a => { a with st := .run, car := { a.car with
  legs := a.car.legs.set 0 { a.car.legs[(0 : Fin 3)] with low := some { on := 0, off := 160 } } } }) bridged)
theorem met_Desat : bit (runWord driving 8 0x12) 8 = true ∧ chanDriven driving 1 = true ∧ groupsFlat driving ∧
    watched driving 0 0 = true ∧ sourceActive driving 0 0 = false ∧ bit (runWord bridged 8 0x12) 8 = false ∧
    chanDriven bridged 1 = false := by
  decide +kernel
theorem met_Supply_ready : supplyState driving (supplyBridge 3) = .on ∧ supplyState State.reset (supplyBridge 3) ≠ .on := by
  decide +kernel
theorem met_GateSide : gateSide driving (chanBridge 1) = true ∧ gateSide driving (supplyBridge 3) = true ∧
    driving.supply[(3 : Fin 32)].offOk = true ∧ driving.supply[(3 : Fin 32)].onOk = true ∧ watched driving 0 8 = true ∧
    sourceActive driving 0 8 = false ∧ driving.chan[(1 : Fin 48)].gateFault = false ∧
    driving.chan[(1 : Fin 48)].overTemp = false ∧ tripTemp driving 1 < (1501 : Word).toInt ∧
    ¬ tripTemp driving 1 < (1500 : Word).toInt ∧ (1400 : Word).toInt ≤ tripTemp driving 1 - 100 := by decide +kernel
/-- Input 3 enabled for bridge 0 and low, which its EXTPOL 0 takes as active, but not yet for 30 ns. -/
def external : State := word 8 0x300 0x40 { driving with pin := { driving.pin with extLow := 0 } }
/-- Inputs 0 and 3 enabled for bridge 0 at EXTPOL 1, both high so far. -/
def risen : State := word 8 0x304 9 (word 8 0x300 0x48 { driving with pin := { driving.pin with extHigh := 9, extLow := 6 } })
theorem met_External : bit (tripWord external 0 0) (3 + 3) = true ∧
    inputSignal external 27 = bit (tripWord external 0 4) 3 ∧ watched external 0 5 = true ∧
    sourceActive external 0 5 = false ∧ groupsFlat external ∧ axSt external 0 ≠ .tripped ∧ bridgeOn external 0 = true ∧
    bridgeOn external 1 = false ∧ inputSignal risen 27 ≠ bit (tripWord risen 0 4) 3 := by decide +kernel
theorem met_Sto : running State.reset = true ∧ State.reset.sto.input 1 = true ∧ State.reset.sto.input 1 ≠ false ∧
    (State.reset.sto.in1 = true ∨ State.reset.sto.in2 = true) ∧
    State.reset.sto.input (otherInput 0) = true ∧ State.reset.sto.disc = false := by decide +kernel
def bothDown : State := { driving with sto := { driving.sto with in1 := false, in2 := false } }
theorem met_StoDemand : running bothDown = true ∧ bothDown.sto.in1 = false ∧ bothDown.sto.in2 = false ∧
    bothDown.sto.source = false ∧ groupsFlat bothDown ∧ watched bothDown 0 4 = true ∧ axSt bothDown 0 ≠ .tripped := by
  decide +kernel
def oneDown : State := { driving with sto := { driving.sto with in2 := false, low2 := true } }
theorem met_StoSingle : running oneDown = true ∧ oneDown.sto.input 1 = false ∧
    oneDown.sto.input (otherInput 1) = true ∧ oneDown.sto.isLow 1 = true := by decide +kernel

theorem test_desat : after (.desatDetect 1) driving (fun t => (axSt t 0, t.axes[(0 : Fin 8)].trip.causes,
    t.chan[(1 : Fin 48)].soft, gateOn t 0 0 false)) = some (.tripped, 1, true, false) := by decide +kernel
theorem test_soft_end : after (.softTurnoffEnd 47) { State.reset with
    chan := State.reset.chan.set 47 { resetChannel with soft := true, dsActive := true } } (fun t => t.chan[(47 : Fin 48)].soft) = some false := by
  decide +kernel
theorem test_supply : after (.supplyUndervoltage 3 true) driving (fun t => (axSt t 0, t.supply[(3 : Fin 32)].offOk,
    t.supply[(3 : Fin 32)].onOk)) = some (.tripped, false, true) := by decide +kernel
theorem test_supply_recovers : after (.gateSupplyRecovery 3) { State.reset with
    supply := State.reset.supply.set 3 { onOk := false, offOk := false } } (fun t => t.supply[(3 : Fin 32)].ok) = some true := by decide +kernel
theorem test_gate_voltage : after (.gateVoltageFault 1 900) driving (fun t => (axSt t 0, t.chan[(1 : Fin 48)].vgate)) =
    some (.tripped, 900) := by decide +kernel
theorem test_gate_voltage_end : after (.gateVoltageMismatchEnd 1) { State.reset with
    chan := State.reset.chan.set 1 { resetChannel with gateFault := true } } (fun t => t.chan[(1 : Fin 48)].gateFault) = some false := by decide +kernel
theorem test_channel_temperature : after (.channelTemperatureMeasure 1 1501) driving
    (fun t => (axSt t 0, t.chan[(1 : Fin 48)].overTemp)) = some (.tripped, true) := by decide +kernel
theorem test_channel_at_limit : after (.channelTemperatureMeasure 1 1500) driving (fun t => axSt t 0) = some .run := by
  decide +kernel
theorem test_external : after (.externalTripInput 3) external
    (fun t => (axSt t 0, t.axes[(0 : Fin 8)].trip.causes, t.axes[(0 : Fin 8)].trip.extMap, t.pin.extLow)) =
    some (.tripped, 32, 8, 8) := by decide +kernel
theorem test_external_end : after (.externalTripInputInactive 3) risen (fun t => (extActive risen 0, extActive t 0)) =
    some (9, 1) := by decide +kernel
/-- 09 R338: a low that ends before both inputs ask counts as a test pulse. -/
theorem test_sto_pulse : after (.stoInputChange 1 true) oneDown (fun t => (t.sto.pulses, t.sto.in2, axSt t 0)) =
    some (1, true, .run) := by decide +kernel
theorem test_sto_demand : after .stoDemand bothDown (fun t => (t.sto.source, axSt t 0, t.axes[(0 : Fin 8)].trip.causes)) =
    some (true, .tripped, 16) := by decide +kernel
theorem test_sto_single : after (.stoSingleInputTimeout 1) oneDown (fun t => (t.sto.source, axSt t 0)) =
    some (true, .tripped) := by decide +kernel
theorem test_sto_discrepancy : after (.stoDiscrepancy 1) oneDown (fun t => t.sto.disc) = some true := by decide +kernel
theorem test_sto_path : after (.stoHardwarePathAct 1) oneDown (fun t => (t.sto.hw2, gateOn t 0 0 false)) =
    some (true, false) := by decide +kernel
theorem test_sto_path_fails : after (.stoPathCheckFail 1) { driving with sto := { driving.sto with hw2 := true } }
    (fun t => (t.supv.reason, axSt t 0)) = some (9, .latched) := by decide +kernel

/-! ### Angles and the rotor ladder -/

def paced (w : Word) : State := word 2 0x7E0 w (word 2 0x7E8 1000 State.reset)
theorem met_Angles : awake State.reset = true ∧ awake (inPState .sleep State.reset) = false ∧
    engineOut (paced 1) = false ∧ bit (tailWord (paced 1) 7 0xE0) 0 = true ∧ bit (tailWord (paced 3) 7 0xE0) 1 = true := by
  decide +kernel
def fast (k : Fin 32) (n : Nat) : State := { State.reset with
  src := State.reset.src.set k { resetSource with overCount := n } }
theorem met_Step_quiet : (∀ l : Fin 8, laneAction State.reset l = none) ∧
    ∀ n : Fin 8, State.reset.axes[n].car.resyncDue = false := by decide +kernel
theorem met_OverSpeed : (fast 0 999).src[(0 : Fin 32)].overCount < 1000 ∧ 1000 ≤ (fast 15 1000).src[(15 : Fin 32)].overCount ∧
    (fast 15 1000).src[(15 : Fin 32)].isOver = false := by decide +kernel
theorem met_OverSpeed_axis : let s := axisIn 7 .run (fast 15 1000)
    (7 : Fin 8).val = (15 : Fin 32).val % 8 ∧ (15 : Fin 32).val < 16 ∧ isMember s 7 = false ∧
    s.axes[(7 : Fin 8)].st = .run ∧ s.axes[(7 : Fin 8)].drv.ending = false := by decide +kernel
/-- Mains tracker 1 enabled on input 7 of converter 15 with a bridge. -/
def tracking (f : Nat) : State := word 2 0x1E0 0xFF { setupAt 0x17 1 State.reset with
  mains := State.reset.mains.set 1 { State.reset.mains[(1 : Fin 2)] with freq := f, steady := 1280 } }
theorem met_Mains : bit (tailWord (tracking 45000) 1 0xE0) 0 = true ∧ awake (tracking 45000) = true ∧
    mainsRuns (tracking 45000) 1 = true ∧ mainsRuns (inPState .sleep (tracking 45000)) 1 = false ∧
    domainDead (lastingIs ⟨11, 197⟩ 0x90C5 (tracking 45000)) (196 + 1) = true ∧
    (tracking 45000).mains[(1 : Fin 2)].steady = 1280 ∧ State.reset.mains[(1 : Fin 2)].steady ≠ 1280 ∧
    45000 ≤ (tracking 45000).mains[(1 : Fin 2)].freq ∧ (tracking 65000).mains[(1 : Fin 2)].freq ≤ 65000 ∧
    (tracking 45000).mains[(1 : Fin 2)].range = false ∧ (4499 : Word).toNat < 4500 ∧ 6500 < (6501 : Word).toNat ∧
    domainDead (tracking 45000) 197 = false ∧ bit (tailWord State.reset 1 0xE0) 0 = false := by decide +kernel
theorem met_Mains_sample : let s := tracking 50000
    sampleDue s 1 = true ∧ domainDead s 197 = false ∧ bit (tailWord s 1 0xE0) 0 = true ∧
    sampleDue { s with src := s.src.set 25 { resetSource with angle := 0xFFFFFFFF } } 1 = false ∧
    Fin.ofNat 16 (bits (tailWord s 1 0xE0) 1 4) = (15 : Fin 16) ∧ convOn s 15 = true ∧
    isTesting s ⟨2, 15⟩ = false ∧ isLasting s ⟨2, 15⟩ = false ∧ s.cnv.sar[(15 : Fin 16)].run = none := by decide +kernel
def climbing : State := modAxis 0 (fun a => { a with st := .run
                                                     ladder := { a.ladder with active := .hold }
                                                     bemf := { a.bemf with locked := true } })
  (word 2 0x80 0x0A bridged)
theorem met_Ladder : isMember climbing 0 = false ∧ awake climbing = true ∧ ladderRuns climbing 0 = true ∧
    climbing.axes[(0 : Fin 8)].ladder.blend = none ∧ climbing.axes[(0 : Fin 8)].ladder.active ≠ .none ∧
    upgradeRung climbing 0 = some .bemf ∧
    upgradeRung (modAxis 0 (fun a => { a with bemf := { a.bemf with locked := false } }) climbing) 0 = none := by
  decide +kernel
def blend0 : Blend := { upgrade := true, fromRung := .hold, toRung := .bemf, hspan := 10922, htmax := 10, travel := 715784192,
                        elapsed := 0, lastTo := 0, outEx := none, inEx := none }
/-- 06 R232: HOLDT 0 is 200 ms, 40,000,000 ticks. -/
theorem met_HoldExpiry : State.reset.axes[(0 : Fin 8)].probe.holdAt + holdTime State.reset 0 ≤
      ({ State.reset with now := 40000000 } : State).now ∧
    ({ State.reset with now := 39999999 } : State).now < State.reset.axes[(0 : Fin 8)].probe.holdAt + holdTime State.reset 0 := by
  decide +kernel
def landing (s : State) : State := modAxis 0 (fun a => { a with ladder := { a.ladder with
  blend := some { blend0 with inEx := some { angle := 0, speed := 0, steps := 0 } } } }) s
theorem met_Blend_extrapolated : { blend0 with inEx := some { angle := 0, speed := 0, steps := 0 } }.progress = blend0.progress ∧
    (∀ r ∈ rungRanks, qualifies (landing bridged) 0 r = false) ∧ qualifies (landing climbing) 0 .bemf = true := by
  decide +kernel
theorem met_Blend : 65536 ≤ blend0.progress ∧ blend0.inEx = none ∧ { blend0 with travel := 715784191 }.progress < 65536 := by
  decide +kernel

theorem test_step : after .angleEngineStep (paced 1) (fun t => (t.now, t.stitch.cycle)) = some (20, 1) := by decide +kernel
theorem test_over_speed : after (.sourceOverSpeed 15) (axisIn 7 .run (fast 15 1000)) (fun t => (axSt t 7,
    t.axes[(7 : Fin 8)].forced)) = some (.stopping, true) := by decide +kernel
theorem test_mains_lock : after (.mainsLock 1) (tracking 45000) (fun t => t.mains[(1 : Fin 2)].lock) = some true := by
  decide +kernel
theorem test_mains_no_lock : after (.mainsLock 1) (tracking 44999) (fun t => t.mains[(1 : Fin 2)].lock) = some false := by
  decide +kernel
def unsteady : State := let s := tracking 45000
  { s with mains := s.mains.set 1 { s.mains[(1 : Fin 2)] with steady := 1279 } }
theorem test_mains_unsteady : after (.mainsLock 1) unsteady (fun t => t.mains[(1 : Fin 2)].lock) =
    some false := by decide +kernel
theorem test_mains_range : after (.mainsOutOfRange 1 4499) (tracking 50000) (fun t => (t.mains[(1 : Fin 2)].range,
    t.mains[(1 : Fin 2)].freq)) = some (true, 44990) := by decide +kernel
theorem test_mains_sample : after (.mainsTrackerSample 1) (tracking 50000) (fun t => (t.mains[(1 : Fin 2)].nextSample,
    t.cnv.sar[(15 : Fin 16)].run.map (·.input))) = some (1, some 7) := by decide +kernel
theorem test_upgrade : after (.ladderUpgrade 0) climbing
    (fun t => t.axes[(0 : Fin 8)].ladder.blend.map fun b => (b.fromRung, b.toRung)) = some (some (.hold, .bemf)) := by
  decide +kernel
theorem test_blend : after (.blendComplete 0) (modAxis 0 (fun a => { a with ladder := { a.ladder with
    blend := some blend0 } }) climbing) (fun t => (t.axes[(0 : Fin 8)].ladder.active,
    t.axes[(0 : Fin 8)].ladder.blend.isNone)) = some (.bemf, true) := by decide +kernel
theorem test_hold_expiry : after (.probeHoldExpiry 0) (modAxis 0 (fun a => { a with probe := { a.probe with
    holdValid := true } }) { State.reset with now := 40000000 }) (fun t => t.axes[(0 : Fin 8)].probe.holdValid) = some false := by decide +kernel
theorem test_bemf_timeout : after (.bemfCrossingTimeout 0) climbing (fun t => t.axes[(0 : Fin 8)].bemf.locked) =
    some false := by decide +kernel

/-! ### Drive control and the probe -/

def starting (w : BrakeWait) : State := modAxis 0 (fun a => { a with st := .start, drv := { a.drv with wait := w } }) bridged
theorem met_Brake : isMember (starting .none) 0 = false ∧ (starting .none).axes[(0 : Fin 8)].st = .start ∧
    (starting .none).axes[(0 : Fin 8)].brake = false ∧ (starting .none).axes[(0 : Fin 8)].drv.ending = false ∧
    (starting .none).axes[(0 : Fin 8)].drv.iref = 200000 * (starting .none).axes[(0 : Fin 8)].eff.preTq.toInt ∧
    brktOf (starting .none) 0 = 0 ∧ brktOf (word 2 0x0A 2047 (starting .none)) 0 ≠ 0 ∧
    (starting .toRun).axes[(0 : Fin 8)].drv.wait = .toRun ∧ (starting .toReady).axes[(0 : Fin 8)].drv.wait = .toReady ∧
    carrierOn (starting .toReady) 0 = true := by decide +kernel
theorem met_Edge : edgeInput 2 10000 0 = some 0 ∧ edgeInput 2 4000000 4000000 = some 65535 ∧ edgeInput 2 9999 0 = none ∧
    edgeInput 2 4000001 0 = none ∧ edgeInput 3 0 0 = some 65535 ∧ edgeInput 1 10000 0 = none := by decide +kernel
def commanded : State := word 2 5 100 (modAxis 0 (fun a => { a with
  st := .run, eff := { a.eff with cmdSrc := 2 }, drv := { a.drv with xNow := 101, lrStart := some 0 } })
  (word 9 0x21C 0x80 bridged))
theorem met_Command : commandOut commanded 0 = true ∧ signalRouted commanded 28 = true ∧ bridgeOn commanded 0 = true ∧
    commanded.axes[(0 : Fin 8)].eff.cmdSrc = 2 ∧ signalRouted bridged 28 = false ∧ bridgeOn State.reset 0 = false ∧ commanded.axes[(0 : Fin 8)].drv.cmdLost = false ∧
    isMember commanded 0 = false ∧ commanded.axes[(0 : Fin 8)].st = .run ∧
    commanded.axes[(0 : Fin 8)].drv.ending = false ∧ commanded.axes[(0 : Fin 8)].drv.lrStart.isSome = true ∧
    carrierOn commanded 0 = true ∧ commandOut bridged 0 = false ∧ bridged.axes[(0 : Fin 8)].drv.lrStart = none := by
  decide +kernel
def probing (f : Probe → Probe) : State := modAxis 0 (fun a => { a with
  st := .probe, eff := { a.eff with en := true }, acc := { a.acc with en := true }
  probe := f { a.probe with running := true, attempt := 1, width := 101, inPulse := true } }) bridged
def peaked (k : Nat) (v : Nat) (f : Probe → Probe) : State := probing fun p => f { p with
  attemptOver := true, inPulse := false, pulse := 11, peaks := (Vector.replicate 12 100).set! k v }
theorem met_Probe : isMember (probing id) 0 = false ∧ (probing id).axes[(0 : Fin 8)].st = .probe ∧
    (probing id).axes[(0 : Fin 8)].probe.running = true ∧ (probing id).axes[(0 : Fin 8)].probe.attemptOver = false ∧
    (probing id).axes[(0 : Fin 8)].probe.inPulse = true ∧ (probing id).axes[(0 : Fin 8)].probe.moved = false ∧
    (probing fun p => { p with moved := true }).axes[(0 : Fin 8)].probe.moved = true ∧
    (probing fun p => { p with inPulse := false, pulse := 10 }).axes[(0 : Fin 8)].probe.pulse < 11 ∧
    11 ≤ (probing fun p => { p with inPulse := false, pulse := 11 }).axes[(0 : Fin 8)].probe.pulse := by decide +kernel
theorem met_ProbeEnd : let s := peaked 0 200 id
    s.axes[(0 : Fin 8)].probe.attemptOver = true ∧ s.axes[(0 : Fin 8)].probe.moved = false ∧
    s.axes[(0 : Fin 8)].probe.peaks.foldl (· + ·) 0 ≠ 0 ∧
    probeQmin s 0 ≤ (probeResult s.axes[(0 : Fin 8)].probe.peaks 0).1 ∧ s.axes[(0 : Fin 8)].probe.thenStart = false ∧
    s.axes[(0 : Fin 8)].eff.en = true := by decide +kernel
theorem met_ProbeEnd_start : let s := peaked 0 200 fun p => { p with thenStart := true }
    s.axes[(0 : Fin 8)].probe.thenStart = true ∧ s.axes[(0 : Fin 8)].drv.cmdLost = false := by decide +kernel
theorem met_ProbeEnd_quiet : ∀ m c, sourceActive (peaked 0 200 fun p => { p with thenStart := true }) m c = false :=
  quiet_of_nine _ (by decide +kernel)
theorem met_ProbeEnd_weak : let s := peaked 0 100 id
    (probeResult s.axes[(0 : Fin 8)].probe.peaks 0).1 < probeQmin s 0 ∧ s.axes[(0 : Fin 8)].probe.attempt < 4 ∧
    4 ≤ (peaked 0 100 fun p => { p with attempt := 4 }).axes[(0 : Fin 8)].probe.attempt := by decide +kernel

theorem test_brake : after (.brakeRelease 0) (starting .none) (fun t => (axSt t 0, t.axes[(0 : Fin 8)].brake)) =
    some (.run, true) := by decide +kernel
theorem test_brake_time : after (.brakeTimeEnd 0) (starting .toRun) (fun t => axSt t 0) = some .run := by decide +kernel
theorem test_command_edge : after (.commandInputEdge 0 20000 10000) (word 2 3 0x7FFF commanded)
    (fun t => (t.axes[(0 : Fin 8)].drv.xNow, t.axes[(0 : Fin 8)].drv.cmdNow)) = some (32768, 32767) := by decide +kernel
theorem test_command_loss : after (.commandLoss 0) commanded (fun t => (axSt t 0, t.axes[(0 : Fin 8)].drv.cmdLost)) =
    some (.stopping, true) := by decide +kernel
theorem test_command_restore : after (.commandRestore 0) (modAxis 0 (fun a => { a with drv := { a.drv with
    cmdLost := true } }) bridged) (fun t => t.axes[(0 : Fin 8)].drv.cmdLost) = some false := by decide +kernel
theorem test_locked_rotor : after (.lockedRotor 0) commanded (fun t => (t.axes[(0 : Fin 8)].drv.ending,
    t.axes[(0 : Fin 8)].stat.getLsbD 2)) = some (true, true) := by decide +kernel
theorem test_pulse : after (.probePulseTiming 0) (probing fun p => { p with inPulse := false, pulse := 10 })
    (fun t => (t.axes[(0 : Fin 8)].probe.pulse, t.axes[(0 : Fin 8)].probe.inPulse)) = some (11, true) := by decide +kernel
theorem test_attempt_again : after (.probeAttemptEnd 0) (peaked 0 100 id) (fun t => (t.axes[(0 : Fin 8)].probe.attempt,
    t.axes[(0 : Fin 8)].probe.width)) = some (2, 200) := by decide +kernel
theorem test_attempt_fails : after (.probeAttemptEnd 0) (peaked 0 100 fun p => { p with attempt := 4 })
    (fun t => (axSt t 0, t.axes[(0 : Fin 8)].probe.outcome)) = some (.ready, 2) := by decide +kernel

/-! ### Quadrature feedback -/

/-- Interface 0 of an enabled bridge, its A, B and Z routed to pins 0, 1 and 2. -/
def feedback : State := word 2 0xC0 1 (word 9 0x200 0x80 (word 9 0x208 0x81 (word 9 0x210 0x82 { bridged with
  fb := State.reset.fb.set 0 { resetFb with count := 6, cmp := 7, spacing := 10, arm := true, idxMode := 2 } })))
def fbStamped (l : List EdgeStamp) : State := { feedback with
  fb := feedback.fb.set 0 { feedback.fb[(0 : Fin 8)] with speed := 9, stamps := l } }
theorem met_Feedback : fbOn feedback 0 = true ∧ fbTesting feedback 0 = false ∧ signalRouted feedback 0 = true ∧
    signalRouted feedback 8 = true ∧ fbOn State.reset 0 = false ∧ (false, false) ≠ (true, false) ∧
    feedback.fb[(0 : Fin 8)].arm = true ∧ feedback.fb[(0 : Fin 8)].spacing ≠ 0 ∧ (6 + 1 : DWord) = 7 ∧
    ladderRuns feedback (leaderOf feedback 0) = false ∧ watchOn feedback = false ∧
    feedback.axes[(0 : Fin 8)].probe.running = false := by decide +kernel
/-- IDXQUAL 1 asks for A; ZINV makes a low Z active. -/
theorem met_Index : idxQualified feedback 0 = true ∧ idxQualified (word 2 0xC0 9 feedback) 0 = false ∧
    ((true && signalRouted feedback 16) != bit (fbWord feedback 0) 2) = true ∧
    ((true && signalRouted bridged 16) != bit (fbWord bridged 0) 2) = false ∧
    ((false && signalRouted feedback 16) != bit (fbWord (word 2 0xC0 5 feedback) 0) 2) = true ∧
    feedback.fb[(0 : Fin 8)].z = false ∧ feedback.fb[(0 : Fin 8)].idxMode = 2 := by decide +kernel

theorem test_edge_up : after (.quadEdge 0 { a := true, b := false } 0) feedback (fun t => (t.fb[(0 : Fin 8)].count,
    t.fb[(0 : Fin 8)].hits, t.fb[(0 : Fin 8)].cmp)) = some (7, 1, 17) := by decide +kernel
theorem test_edge_down : after (.quadEdge 0 { a := false, b := true } 19) feedback (fun t => (t.fb[(0 : Fin 8)].count,
    t.fb[(0 : Fin 8)].rev, t.fb[(0 : Fin 8)].hits)) = some (5, true, 0) := by decide +kernel
theorem test_phase_error : after (.quadEdge 0 { a := true, b := true } 0) feedback (fun t => (t.fb[(0 : Fin 8)].count,
    t.fb[(0 : Fin 8)].phCnt)) = some (6, 1) := by decide +kernel
/-- 14 R481: B follows no pin and reads 0. -/
theorem test_edge_unrouted : after (.quadEdge 0 { a := false, b := true } 0) (word 9 0x208 1 feedback)
    (fun t => t.fb[(0 : Fin 8)].count) = some 6 := by decide +kernel
theorem test_index : after (.indexEvent ⟨0, true⟩) feedback (fun t => (t.fb[(0 : Fin 8)].count, t.fb[(0 : Fin 8)].idxCnt,
    t.fb[(0 : Fin 8)].idxMode)) = some (0, 6, 0) := by decide +kernel
theorem test_index_again : after (.indexEvent ⟨0, true⟩) (modFb 0 (fun f => { f with z := true }) feedback) (fun t => t.fb[(0 : Fin 8)].count) = some 6 := by decide +kernel
theorem test_hit_end : after (.hitPulseEnd 0) { State.reset with fb := State.reset.fb.set 0 { resetFb with hitSig := true } }
    (fun t => t.fb[(0 : Fin 8)].hitSig) = some false := by decide +kernel
/-- 12 R425: 3 counts in the default window of 1 ms are 3,000 a second, 48,000 sixteenths. -/
theorem test_count_window : after (.countWindowEnd 0) { feedback with fb := feedback.fb.set 0 { feedback.fb[(0 : Fin 8)] with
    cntMeth := true, winNet := 3 } } (fun t => (t.fb[(0 : Fin 8)].speed, t.fb[(0 : Fin 8)].winNet)) = some (48000, 0) := by
  decide +kernel
theorem test_speed_zero : after (.speedZeroTimeout 0) (fbStamped [{ time := 4, rev := false, dir := 0, zto := false }])
    (fun t => (t.fb[(0 : Fin 8)].speed, t.fb[(0 : Fin 8)].stamps.map (·.zto))) = some (0, [true]) := by decide +kernel

/-! ### The Seam link -/

def seamIn (f : Seam → Seam) (s : State) : State := { s with seam := f s.seam }
theorem met_Cycle_asleep : awake (inPState .sleep State.reset) = false := by decide +kernel
theorem met_Cycle : let s := seamIn (fun k => { k with time := 49999 }) State.reset
    awake s = true ∧ s.seam.cycle < s.seam.time.toNat / 25000 ∧ State.reset.seam.time.toNat / 25000 ≤ State.reset.seam.cycle ∧
    subOn (word 2 0x5E0 1 s) 3 = true ∧ pubOn (word 0x0A 0x10 0x8000 linked) 1 = true ∧ speaks linked = true := by
  decide +kernel
def unlinked : State := seamIn (fun k => { k with ports := k.ports.set 0 resetPort }) linked
theorem met_Link : awake unlinked = true ∧ portOn unlinked 0 = true ∧ unlinked.seam.ports[(0 : Fin 4)].up = false ∧
    portDead unlinked 0 = false ∧ isTesting unlinked ⟨9, 0⟩ = false ∧ linked.seam.ports[(0 : Fin 4)].up = true ∧
    portOn linked 0 = true := by decide +kernel
/-- A frame of FORMAT 2 with a REQUEST for device 5. -/
def frame2 : SeamFrame := { frame0 with format := 2
                                        msg := some { longMsg with dst := 5, src := 9, kind := msgRequest, payload := [] } }
def framed (f : SeamFrame) (crc : DWord) : RxFrame := { arrival := 0, bytes := frameBody f ++ bytes32 crc }
/-- The CRC-32 register over the first 41 bytes of a list, and then over the others. -/
theorem fold_cut (l : List (BitVec 8)) (c d : DWord) (h : (l.take 41).foldl crc32Byte c = d) :
    l.foldl crc32Byte c = (l.drop 41).foldl crc32Byte d := by
  rw [← h, ← List.foldl_append, List.take_append_drop]
theorem crc_frame0 : crc32Bytes (frameBody frame0) = 0x87F19CDE := by
  unfold crc32Bytes
  rw [fold_cut _ _ 0x1699ABE2 (by decide +kernel)]
  rw [fold_cut _ _ 0xB220AB43 (by decide +kernel)]
  rw [fold_cut _ _ 0x8C4AFD87 (by decide +kernel)]
  rw [fold_cut _ _ 0xB4F0F9F4 (by decide +kernel)]
  rw [fold_cut _ _ 0xDF8809BB (by decide +kernel)]
  rw [fold_cut _ _ 0xF16F7058 (by decide +kernel)]
  rw [fold_cut _ _ 0x780E6321 (by decide +kernel)]
  decide +kernel
theorem crc_frame2 : crc32Bytes (frameBody frame2) = 0x760FAFB3 := by
  unfold crc32Bytes
  rw [fold_cut _ _ 0xF98AE3CA (by decide +kernel)]
  rw [fold_cut _ _ 0xD22FDEEE (by decide +kernel)]
  rw [fold_cut _ _ 0xACDB91C7 (by decide +kernel)]
  rw [fold_cut _ _ 0x7299E5E7 (by decide +kernel)]
  rw [fold_cut _ _ 0x4B88B69F (by decide +kernel)]
  rw [fold_cut _ _ 0x8EE2FAA3 (by decide +kernel)]
  rw [fold_cut _ _ 0x89F0504C (by decide +kernel)]
  decide +kernel
def rx0 : RxFrame := framed frame0 0x87F19CDE
def rxBad : RxFrame := framed frame0 0
def rxOther : RxFrame := framed frame2 0x760FAFB3
theorem framed_take (f : SeamFrame) (c : DWord) (h : (frameBody f).length = 287) :
    (framed f c).bytes.take 287 = frameBody f := by
  simp only [framed]; rw [List.take_append_of_le_length (by omega), List.take_of_length_le (by omega)]
theorem good_rx0 : crc32Bytes (rx0.bytes.take 287) = dwordAt rx0.bytes 288 := by
  unfold rx0; rw [framed_take _ _ (by decide +kernel), crc_frame0]; decide +kernel
theorem bad_rxBad : crc32Bytes (rxBad.bytes.take 287) ≠ dwordAt rxBad.bytes 288 := by
  unfold rxBad; rw [framed_take _ _ (by decide +kernel), crc_frame0]; decide +kernel
theorem good_rxOther : crc32Bytes (rxOther.bytes.take 287) = dwordAt rxOther.bytes 288 := by
  unfold rxOther; rw [framed_take _ _ (by decide +kernel), crc_frame2]; decide +kernel
theorem met_Frame : portLive linked 0 = true ∧ portLive unlinked 0 = false ∧ (parseFrame rx0.bytes).format = 1 ∧
    (parseFrame rxOther.bytes).format ≠ 1 ∧ rx0.wf = true := by decide +kernel
/-- With ID 5 the request of the frame of FORMAT 2 is this module's, with ID 6 it is not. -/
theorem met_Frame_format : let s := word 0x1F 0x022 6 linked
    (∀ m, (parseFrame rxOther.bytes).msg = some m → ownId s ≠ some m.dst) ∧ portLive s 0 = true ∧
    takesMessages linked 0 = true ∧ speaks linked = true ∧ ((parseFrame rxOther.bytes).msg.map fun m =>
      (answered m.kind, m.broadcast, some m.dst == ownId linked, queueFull linked ((routeTo linked m.src).getD 0))) =
      some (true, false, true, false) := by
  refine ⟨fun m hm => ?_, by decide +kernel⟩
  have hd : (parseFrame rxOther.bytes).msg.map (·.dst) = some 5 := by decide +kernel
  have ho : ownId (word 0x1F 0x022 6 linked) = some 6 := by decide +kernel
  rw [hm, Option.map_some, Option.some.injEq] at hd
  rw [ho, hd]; decide
theorem test_frame_bytes : parseFrame rx0.bytes = frame0 := by decide +kernel
theorem met_Frame_bad : let q := { linked.seam.ports[(0 : Fin 4)] with badTimes := [0, 1, 2] }
    let s := { seamIn (fun k => { k with ports := k.ports.set 0 q }) linked with now := 200000000 }
    portLive s 0 = true ∧
    (s.seam.ports[(0 : Fin 4)].badTimes.filter fun x => decide (s.now < x + 200000000)).length < 3 ∧
    3 ≤ (q.badTimes.filter fun x => decide ((199999999 : Nat) < x + 200000000)).length := by decide +kernel
/-- Gang 7 of this module (member 1, axis 0) and device 9 (the leader, channel 3), formed, axis 0 in RUN. -/
def ganged : State := word 0x1F 0x025 0x0107 (word 0x0A 0x80 0x8009 (word 0x0A 0x81 3 (word 0x0A 0x82 0x8005
  (word 2 0x2E0 1 (word 0x0A 0x20 3 (word 0x0A 0x21 9
    (axisIn 0 .run (seamIn (fun k => { k with
      gang := { k.gang with formed := true }
      subs := k.subs.set 0 { k.subs[(0 : Fin 4)] with everUsable := true, missed := 3 } })
      { linked with boot := bridged.boot }))))))))
/-- The same, its shared channel stale. -/
def staleGang : State := seamIn (fun k => { k with subs := k.subs.set 0 { k.subs[(0 : Fin 4)] with missed := 4 } }) ganged
/-- The same as the leader, the channel of its member stale. -/
def leading : State := word 0x1F 0x022 9 staleGang
theorem met_Alert : portLive ganged 0 = true ∧ ganged.seam.ports[(0 : Fin 4)].role ≠ 3 ∧ gangNumber ganged = 7 ∧
    (7 : BitVec 8) ≠ 0 ∧ gangFormed ganged = true ∧ gangAxis ganged 0 = true ∧ isMember ganged 0 = false ∧
    ganged.seam.gang.formed = true ∧ ganged.axes[(0 : Fin 8)].st.gangRun = true ∧ (8 : BitVec 8) ≠ gangNumber ganged ∧
    portLive unlinked 0 = false := by decide +kernel
theorem met_Stale : awake staleGang = true ∧ gangNumber staleGang ≠ 0 ∧ staleGang.seam.gang.formed = true ∧
    isLeader staleGang = false ∧ sharedSub staleGang = some 0 ∧ staleGang.seam.subs[(0 : Fin 4)].stale = true ∧
    sharedSub ganged = some 0 ∧ ganged.seam.subs[(0 : Fin 4)].stale = false ∧ isLeader leading = true ∧
    memOn leading 1 = true ∧ leading.seam.mems[(1 : Fin 8)].stale = true ∧ leading.seam.gang.formed = true := by decide +kernel
theorem met_Run_gangstop : let s := axisIn 0 .gangstop (word 2 0x80 8 (modAxis 0 (fun a => { a with
      acc := { a.acc with ilim := 100 } }) ganged))
    isMember s 0 = false ∧ bridgeOn s 0 = true ∧ s.power.pstate = .run ∧ axisTesting s 0 = false ∧
    s.axes[(0 : Fin 8)].st = .gangstop ∧ gangFormed s = true ∧ runBlocked s 0 true = false := by decide +kernel
def opened : State := seamIn (fun k => { k with sess := k.sess.set 3 { resetSession with
  isOpen := true, peer := 9, epoch := 4, lastSeq := some 6, stored := some { longMsg with dst := 9, payload := [] } } }) linked
theorem met_Session : State.reset.seam.sess[(3 : Fin 4)].isOpen = false ∧ opened.seam.sess[(3 : Fin 4)].isOpen = true := by
  decide +kernel

def msg0 : Msg := { longMsg with dst := 5, src := 9, epoch := 4, seq := 7, sess := 3, ttl := 2, payload := [] }
theorem met_Message : takesMessages linked 0 = true ∧ msg0.broadcast = false ∧
    (linked.seam.epochs.find? fun x => x.1 == msg0.src) = some (msg0.src, msg0.epoch) ∧ ownId linked = some msg0.dst ∧
    speaks linked = true ∧ [msgOpen, msgClose, msgRequest, msgResponse, msgNote].all (fun k =>
      slotStatus { msg0 with kind := k } == .ok) = true ∧ routeTo linked msg0.src = some 0 ∧ queueFull linked 0 = false := by
  decide +kernel
/-- Slots whose answer is LENGTH or FORMAT. -/
theorem met_Message_slot : slotStatus { msg0 with kind := msgRequest, len := 49 } = .length ∧
    slotStatus { msg0 with kind := msgOpen, rsv := 1 } = .format ∧ answered msgOpen = true ∧ answered msgRequest = true := by
  decide +kernel
theorem met_Message_open : (sessionOf opened 9 = some 3) ∧ sessionOf linked 9 = none ∧
    allSessions.find? (fun i => !linked.seam.sess[i].isOpen) = some 0 := by decide +kernel
theorem met_Message_session : openTo opened msg0.sess 9 = some 3 ∧ sessionOf opened 9 = some 3 ∧ msg0.len = 0 ∧
    opened.seam.sess[(3 : Fin 4)].lastSeq ≠ some msg0.seq ∧ opened.seam.sess[(3 : Fin 4)].lastSeq = some 6 ∧
    (opened.seam.sess[(3 : Fin 4)].stored.map (·.dst)) = some msg0.src ∧ openTo linked msg0.sess 9 = none := by
  decide +kernel
theorem met_Message_inbox : linked.seam.full = false ∧ (seamIn (fun k => { k with full := true }) linked).seam.full = true := by
  decide +kernel
theorem met_Message_relay : let m := { msg0 with src := 9, dst := 9 }
    ownId linked ≠ some m.dst ∧ 1 < m.ttl.toNat ∧ routeTo linked m.dst = some 0 ∧ queueFull linked 0 = false ∧
    { m with ttl := 1 }.ttl.toNat ≤ 1 := by decide +kernel

theorem test_cycle : after .seamCycleStart (word 0x0A 0x10 0x8000 (seamIn (fun k => { k with time := 49999 }) linked))
    (fun t => (t.seam.cycle, t.seam.pubs[(1 : Fin 2)].seq)) = some (1, 1) := by decide +kernel
theorem test_link_up : after (.seamLinkUp 0) unlinked (fun t => t.seam.ports[(0 : Fin 4)].up) = some true := by
  decide +kernel
theorem test_link_down : after (.seamLinkDown 0) linked (fun t => (t.seam.ports[(0 : Fin 4)].up, t.seam.stat.getLsbD 12)) =
    some (false, true) := by decide +kernel
theorem test_frame : after (.seamFrameReceived 0 rx0) linked (fun t => t.seam.ports[(0 : Fin 4)].neighbour) = some 9 := by
  have h : frameCrcGood rx0.bytes = true := by simp [frameCrcGood, good_rx0]
  simp only [after, exec, execSeamFrameReceived, frameReceived, h]
  decide +kernel
theorem test_bad_frame : after (.seamFrameReceived 0 rxBad) linked
    (fun t => (t.seam.ports[(0 : Fin 4)].badFrames, t.seam.ports[(0 : Fin 4)].neighbour)) = some (1, 0) := by
  have h : frameCrcGood rxBad.bytes = false := by simp [frameCrcGood, bad_rxBad]
  simp only [after, exec, execSeamFrameReceived, frameReceived, h]
  decide +kernel
theorem test_alert : after (.seamAlertReceived 0 7 .trip) ganged (fun t => (axSt t 0, gangFormed t)) =
    some (.gangstop, false) := by decide +kernel
theorem test_other_gang : after (.seamAlertReceived 0 8 .trip) ganged (fun t => (axSt t 0, gangFormed t)) =
    some (.run, true) := by decide +kernel
theorem test_stale : after .gangStaleTimeout staleGang (fun t => axSt t 0) = some .gangstop := by decide +kernel
theorem test_open : after (.openMsg 0 { msg0 with kind := msgOpen }) linked (fun t => (t.seam.sess[(0 : Fin 4)].peer,
    t.seam.ports[(0 : Fin 4)].queue.map (·.sess))) = some (9, [0]) := by decide +kernel
theorem test_close : after (.closeMsg 0 { msg0 with kind := msgClose }) opened
    (fun t => t.seam.sess[(3 : Fin 4)].isOpen) = some false := by decide +kernel
theorem test_request : after (.request 0 { msg0 with kind := msgRequest }) opened (fun t => (t.seam.sess[(3 : Fin 4)].lastSeq,
    t.seam.ports[(0 : Fin 4)].queue.map (·.seq))) = some (some 7, [7]) := by decide +kernel
theorem test_response : after (.response 0 { msg0 with kind := msgResponse }) linked (fun t => (t.seam.full,
    t.seam.stat.getLsbD 9)) = some (true, true) := by decide +kernel
theorem test_note_full : after (.note 0 { msg0 with kind := msgNote }) (seamIn (fun k => { k with full := true }) linked)
    (fun t => (t.seam.inbox, t.seam.stat.getLsbD 11)) = some ([], true) := by decide +kernel
theorem test_relay : after (.messageRelay 0 { msg0 with dst := 9 }) linked
    (fun t => t.seam.ports[(0 : Fin 4)].queue.map (·.ttl)) = some [1] := by decide +kernel
theorem test_session_ends : after (.sessionTimeout 3) opened (fun t => (t.seam.sess[(3 : Fin 4)].isOpen,
    t.seam.stat.getLsbD 7)) = some (false, true) := by decide +kernel
theorem test_firmware : after .firmwareSignalUpdate { State.reset with now := 10000000 } (fun t => t.pin.fw) = some 3 := by
  decide +kernel
theorem test_queue_front : (match step { State.reset with pending := [.sysKeyWrite 3 0x4B5A, .hostFrameAborted] } with
    | .next t => some (t.pending, t.host.key)
    | _ => none) = some ([.hostFrameAborted], some .output) := by decide +kernel

end Sys2Proof.Tests
end

section
/-! SUPPORT. Requests of a power state: what a host write of SYS_PWRREQ meets and does (01 R34, R35, 02 R75-R79). -/

namespace Sys2Proof.Machine

/-- The first of some refusals is the one reported where none has a status that R58 puts before its own. -/
theorem reported_cons_of_order {r : Status × Nat} {l : List (Status × Nat)} (earlier later : List Status)
    (ho : statusOrder = earlier ++ r.1 :: later) (h : ∀ q ∈ r :: l, q.1 ∉ earlier) : reported (r :: l) = r := by
  have hnone : earlier.findSome? (fun x => (r :: l).find? fun q => q.1 == x) = none := by
    rw [List.findSome?_eq_none_iff]
    intro x hx
    rw [List.find?_eq_none]
    intro q hq heq
    exact h q hq (eq_of_beq heq ▸ hx)
  simp [reported, ho, List.findSome?_append, hnone]

/-! ### What the request meets -/

/-- A host write of SYS_PWRREQ meets its key class and the refusals of the request, never an ownership. -/
theorem writeRefusals_pwrReq (s : State) (k : Option KeyClass) (d : Word) :
    writeRefusals s .host k 0x012 d = (if k = some .output then [] else [(.guarded, 2)]) ++ powerRefusals s d := rfl

theorem mem_powerRefusals {s : State} {d : Word} {r : Status × Nat} (h : r ∈ powerRefusals s d) :
    r = (.stoppedOnly, 0) ∨ r = (.busy, 0) := by
  rcases List.mem_append.mp h with hmoving | hbusy
  · exact .inl (by split at hmoving <;> simp_all)
  · exact .inr (by simpa using (List.mem_ite_nil_right.mp hbusy).2)

theorem powerRefusals_of_allowed {s : State} {d : Word} {r : PState} (hd : requestState d = some r)
    (h : r = .run ∨ ∀ n, (axSt s n).atRest = true) :
    powerRefusals s d = if s.power.target.isSome then [(.busy, 0)] else [] := by
  rcases h with rfl | h
  · simp [powerRefusals, hd]
  · cases r <;> simp [powerRefusals, hd, h]

theorem powerRefusals_of_moving {s : State} {d : Word} {r : PState} (hd : requestState d = some r) (hr : r ≠ .run)
    {n : Fin 8} (hn : (axSt s n).atRest = false) :
    powerRefusals s d = (.stoppedOnly, 0) :: if s.power.target.isSome then [(.busy, 0)] else [] := by
  have hany : (allAxes.any fun m => !(axSt s m).atRest) = true :=
    List.any_eq_true.mpr ⟨n, List.mem_finRange n, by simp [hn]⟩
  cases r with
  | run => exact absurd rfl hr
  | standby => simp [powerRefusals, hd, hany]
  | sleep => simp [powerRefusals, hd, hany]

/-! ### What the request does -/

section
variable {tag : BitVec 4} {d : Word} {s : State} {r : PState}

theorem powerRequest_of_requestState (hd : requestState d = some r) : powerRequest d s = { s with
    power := { s.power with
      pwrReq := d.extractLsb' 0 2, target := if r = s.power.pstate then none else some r } } := by
  simp only [powerRequest, hd]

theorem hostWrite_pwrReq_accepted (hrun : running s = true) (hk : s.host.key = some .output)
    (ht : s.power.target = none) (hd : requestState d = some r) (h : r = .run ∨ ∀ n, (axSt s n).atRest = true) :
    hostWrite tag 0x012 d s = written tag s (powerRequest d s) := by
  have hr : writeRefusals s .host s.host.key 0x012 d = [] := by
    simp [writeRefusals_pwrReq, hk, powerRefusals_of_allowed hd h, ht]
  have hu : powerRequest d (setKey none s) = setKey none (powerRequest d s) := by
    simp only [powerRequest_of_requestState hd, setKey]
  exact hostWrite_written hrun (by decide) hr hu
    (by simpa only [powerRequest_of_requestState hd] using running_phase hrun)

theorem hostWrite_pwrReq_moving (hrun : running s = true) (hk : s.host.key = some .output)
    (hd : requestState d = some r) (hr : r ≠ .run) {n : Fin 8} (hn : (axSt s n).atRest = false) :
    hostWrite tag 0x012 d s = turnedAway .stoppedOnly tag s := by
  have hrep : reported (writeRefusals s .host s.host.key 0x012 d) = (.stoppedOnly, 0) := by
    rw [writeRefusals_pwrReq, hk, if_pos rfl, List.nil_append, powerRefusals_of_moving hd hr hn]
    refine reported_cons_of_order [.crcBad, .booting, .badAddr, .notOwner, .guarded] _ rfl ?_
    rw [← powerRefusals_of_moving hd hr hn]
    intro q hq
    rcases mem_powerRefusals hq with rfl | rfl <;> decide
  exact hostWrite_turnedAway hrun (by decide) hrep (by decide) (by decide)

theorem hostWrite_pwrReq_busy (hrun : running s = true) (hk : s.host.key = some .output)
    (ht : s.power.target.isSome = true) (hd : requestState d = some r)
    (h : r = .run ∨ ∀ n, (axSt s n).atRest = true) : hostWrite tag 0x012 d s = turnedAway .busy tag s := by
  have hrep : reported (writeRefusals s .host s.host.key 0x012 d) = (.busy, 0) := by
    rw [writeRefusals_pwrReq, hk, if_pos rfl, List.nil_append, powerRefusals_of_allowed hd h, if_pos ht]
    exact reported_single (by decide) (by decide)
  exact hostWrite_turnedAway hrun (by decide) hrep (by decide) (by decide)

theorem hostWrite_pwrReq_unkeyed (hrun : running s = true) (hk : s.host.key ≠ some .output) :
    hostWrite tag 0x012 d s = guardedAway 2 tag s := by
  have hrep : reported (writeRefusals s .host s.host.key 0x012 d) = (.guarded, 2) := by
    rw [writeRefusals_pwrReq, if_neg hk, List.singleton_append]
    refine reported_cons_of_order [.crcBad, .booting, .badAddr, .notOwner] _ rfl ?_
    intro q hq
    rcases List.mem_cons.mp hq with rfl | hq
    · decide
    · rcases mem_powerRefusals hq with rfl | rfl <;> decide
  exact hostWrite_guardedAway hrun hrep (by decide)

end

/-! ### The three commands -/

/-- The three requests: the value of REQ, the state it asks for, and what the command answers. -/
def sentPowerRequests (tag : BitVec 4) (s : State) : List (BitVec 2 × PState × Host.Outcome State Fault Refusal) :=
  [(1, .run, exec (.powerRequestRun tag) s), (2, .standby, exec (.powerRequestStandby tag) s),
    (3, .sleep, exec (.powerRequestSleep tag) s)]

/-- Each of the three commands is a host write of SYS_PWRREQ with its value of REQ. -/
theorem hostWrite_of_mem_sentPowerRequests {tag : BitVec 4} {s : State}
    {x : BitVec 2 × PState × Host.Outcome State Fault Refusal} (hx : x ∈ sentPowerRequests tag s) :
    ∃ d : Word, requestState d = some x.2.1 ∧ d.extractLsb' 0 2 = x.1 ∧ x.2.2 = .next (hostWrite tag 0x012 d s) := by
  simp only [sentPowerRequests, List.mem_cons, List.not_mem_nil, or_false] at hx
  rcases hx with rfl | rfl | rfl
  · exact ⟨1, rfl, rfl, rfl⟩
  · exact ⟨2, rfl, rfl, rfl⟩
  · exact ⟨3, rfl, rfl, rfl⟩

/-- Settles O24: each command is a write of SYS_PWRREQ, which meets no refusal, STOPPED_ONLY first, BUSY alone, or
GUARDED first. -/
theorem powerRequestsSetTarget : Obligations.PowerRequestsSetTarget := by
  intro tag s hrun
  refine ⟨fun hk ht x hx h => ?accepted, fun hk hmoving x hx hr => ?moving, fun hk ht hrest x hx => ?busy,
    fun hk x hx => ?unkeyed⟩ <;> obtain ⟨d, hd, hreq, hsent⟩ := hostWrite_of_mem_sentPowerRequests hx
  case accepted =>
    rw [hsent, hostWrite_pwrReq_accepted hrun hk ht hd h, powerRequest_of_requestState hd, hreq]
  case moving =>
    obtain ⟨n, hn⟩ := hmoving
    rw [hsent, hostWrite_pwrReq_moving hrun hk hd hr hn]
  case busy =>
    rw [hsent, hostWrite_pwrReq_busy hrun hk ht hd (.inr hrest)]
  case unkeyed =>
    rw [hsent, hostWrite_pwrReq_unkeyed hrun hk]

end Sys2Proof.Machine
end

section
/-! SUPPORT. SYS_KEY: which values are keys, and what a host write of one meets and does (02 R74, R75, Table 2.12). -/

namespace Sys2Proof.Machine

/-- The keys with their classes (02 Table 2.12). -/
def keyTable : List (Word × KeyClass) := [(0x4B5A, .output), (0xA55A, .store), (0x3C96, .pinLock)]

theorem keyArmed_eq_some_iff {d : Word} {k : KeyClass} : keyArmed d = some k ↔ (d, k) ∈ keyTable := by
  constructor
  · intro h
    unfold keyArmed at h
    split at h
    case h_1 hd => obtain rfl : d = 0x4B5A := BitVec.eq_of_toNat_eq hd; cases h; decide
    case h_2 hd => obtain rfl : d = 0xA55A := BitVec.eq_of_toNat_eq hd; cases h; decide
    case h_3 hd => obtain rfl : d = 0x3C96 := BitVec.eq_of_toNat_eq hd; cases h; decide
    case h_4 => contradiction
  · intro h
    simp only [keyTable, List.mem_cons, Prod.mk.injEq, List.not_mem_nil, or_false] at h
    rcases h with ⟨rfl, rfl⟩ | ⟨rfl, rfl⟩ | ⟨rfl, rfl⟩ <;> rfl

theorem keyArmed_eq_none {d : Word} (h : d ∉ keyTable.map Prod.fst) : keyArmed d = none :=
  Option.eq_none_iff_forall_ne_some.mpr fun _ hk =>
    h (List.mem_map_of_mem (f := Prod.fst) (keyArmed_eq_some_iff.mp hk))

/-- A host write of SYS_KEY meets no ownership and no key class: only a value that is not a key is refused. -/
theorem writeRefusals_sysKey (s : State) (armed : Option KeyClass) (d : Word) :
    writeRefusals s .host armed 0x009 d = if (keyArmed d).isNone then [(.guarded, 6)] else [] := rfl

section
variable {tag : BitVec 4} {d : Word} {s : State}

/-- The arming is all that an accepted write of SYS_KEY changes, and `regWrite` leaves it to the frame. -/
theorem writeAccess_sysKey_armed {k : KeyClass} (armed : Option KeyClass) (hd : keyArmed d = some k) :
    writeAccess .host armed 0x009 d s = (.ok, s) := by
  have hr : writeRefusals s .host armed 0x009 d = [] := by
    rw [writeRefusals_sysKey, hd]; rfl
  have hu : regWrite .host 0x009 d s = s := rfl
  simp [writeAccess, hr, hu]

/-- A write of a key needs this law of its own: `hostWrite_accepted` leaves SYS_KEY out, since it alone leaves an
arming. -/
theorem hostWrite_sysKey_armed {k : KeyClass} (hrun : running s = true) (hd : keyArmed d = some k) :
    hostWrite tag 0x009 d s = withAnswer .ok tag 0 s { s with host := { s.host with key := some k } } := by
  have hwrite : writeAccess .host s.host.key 0x009 d (setKey none s) = (.ok, setKey none s) :=
    writeAccess_sysKey_armed s.host.key hd
  simp [hostWrite, hostFrame, running_phase hrun, runFrame, writeFrame, hwrite, hd, answer, running, setOut,
    withAnswer]

theorem hostWrite_sysKey_guarded (hrun : running s = true) (hd : keyArmed d = none) :
    hostWrite tag 0x009 d s = guardedAway 6 tag s := by
  have hrep : reported (writeRefusals s .host s.host.key 0x009 d) = (.guarded, 6) := by
    rw [writeRefusals_sysKey, hd]
    exact reported_single (by decide) (by decide)
  exact hostWrite_guardedAway hrun hrep (by decide)

end

/-- Settles O13: SYS_KEY_WRITE is a host write of SYS_KEY, which meets nothing where its value is a key of Table 2.12
and GUARDED with cause 6 where it is not. -/
theorem keyWriteArmsItsClass : Obligations.KeyWriteArmsItsClass := by
  intro tag s hrun
  constructor
  · intro k d hkey
    exact congrArg _ (hostWrite_sysKey_armed hrun (keyArmed_eq_some_iff.mpr hkey))
  · intro d hother
    exact congrArg _ (hostWrite_sysKey_guarded hrun (keyArmed_eq_none hother))

end Sys2Proof.Machine
end

section
/-! SUPPORT. The canonical form of all memories as one predicate on states, and the rules by which a function made of
others keeps it: a part that changes no memory, a choice, a loop.

Like the tests, this file and those after it are elaborated in order: side by side, every thread that waits for the
equation of a shared definition holds a stack of its own, and they outgrow the memory of the check. -/

set_option Elab.async false

namespace Sys2Proof.Machine

theorem WordMem.wf_foldl {α : Type} {f : WordMem → α → WordMem} {l : List α} {m : WordMem}
    (hf : ∀ m a, m.wf → (f m a).wf) (h : m.wf) : WordMem.wf (l.foldl f m) := by
  induction l generalizing m with
  | nil => exact h
  | cons a as ih => exact ih (hf m a h)

/-- Every memory of the module is in canonical form: `memoriesWf`, one field for each part of the state that holds
memories. -/
structure Canonical (s : State) : Prop where
  cfg : s.cfg.wf
  otp : s.otp.wf
  store : s.store.mem.wf
  bak : s.bak.ram.wf
  setup : s.boot.setup.wf
  res : s.cnv.res.wf
  coef : s.cnv.coef.wf
  heldOfs : s.cnv.heldOfs.wf
  outbox : s.seam.outbox.wf
  inbox : s.seam.inbox.wf
  win : ∀ i : Fin 4, s.win[i].pairHi.wf
  sess : ∀ i : Fin 4, s.seam.sess[i].win.pairHi.wf

theorem canonical_iff {s : State} : Canonical s ↔ memoriesWf s := by
  constructor
  · rintro ⟨hcfg, hotp, hstore, hbak, hsetup, hres, hcoef, hofs, hout, hin, hwin, hsess⟩
    exact ⟨hcfg, hotp, hstore, hbak, hsetup, hres, hcoef, hofs, hout, hin, fun i => ⟨hwin i, hsess i⟩⟩
  · rintro ⟨hcfg, hotp, hstore, hbak, hsetup, hres, hcoef, hofs, hout, hin, hw⟩
    exact ⟨hcfg, hotp, hstore, hbak, hsetup, hres, hcoef, hofs, hout, hin, fun i => (hw i).1, fun i => (hw i).2⟩

/-- What the canonical form depends on. -/
def memories (s : State) :=
  (s.cfg.shadow, s.cfg.running, s.cfg.pending, s.cfg.live, s.cfg.advTab, s.otp.cells, s.otp.spares, s.store.mem,
    s.bak.ram, s.boot.setup, s.cnv.res, s.cnv.coef, s.cnv.heldOfs, s.seam.outbox, s.seam.inbox, s.seam.sess, s.win)

variable {s t : State}

/-- A change that leaves the memories as they are keeps their form; that it does so, the frames of the functions it is
made of say. -/
theorem Canonical.same (h : Canonical s) (e : memories t = memories s := by simp [memories]) : Canonical t := by
  simp only [memories, Prod.mk.injEq] at e
  constructor <;> simp only [ConfigMem.wf, Otp.wf, e]
  · exact h.cfg
  · exact h.otp
  · exact h.store
  · exact h.bak
  · exact h.setup
  · exact h.res
  · exact h.coef
  · exact h.heldOfs
  · exact h.outbox
  · exact h.inbox
  · exact h.win
  · exact h.sess

/-- A function that changes no memory keeps the form of all. -/
theorem Canonical.frame (g : State → State) (h : Canonical s)
    (e : ∀ u, memories (g u) = memories u := by intro u; simp [memories]) : Canonical (g s) := h.same (e s)

theorem Canonical.ite {c : Prop} [Decidable c] {a b : State} (ha : Canonical a) (hb : Canonical b) :
    Canonical (if c then a else b) := by split <;> assumption

/-- A step that is taken or left out. -/
theorem Canonical.when {c : Prop} [Decidable c] (h : Canonical s) (ht : Canonical s → Canonical t) :
    Canonical (if c then t else s) := .ite (ht h) h

theorem Canonical.unless {c : Prop} [Decidable c] (h : Canonical s) (ht : Canonical s → Canonical t) :
    Canonical (if c then s else t) := .ite h (ht h)

theorem Canonical.forEach {α : Type} {l : List α} {f : α → State → State} (h : Canonical s)
    (hf : ∀ a u, Canonical u → Canonical (f a u)) : Canonical (forEach l f s) := by
  unfold Machine.forEach
  induction l generalizing s with
  | nil => exact h
  | cons a r ih => exact ih (hf a s h)

end Sys2Proof.Machine
end

section
/-! SUPPORT. Faults, tests and trips keep the memories canonical (09, 16). -/

set_option Elab.async false

namespace Sys2Proof.Machine

variable {s old : State} {n l : Fin 8} {j : Fin 16} {i k : Nat} {code w a m : Word} {u : TestUnit}
  {units : List TestUnit}

/-! ### Converter results -/

theorem putRes_canonical (h : Canonical s) : Canonical (putRes k w s) := { h with res := WordMem.wf_put h.res }

theorem addRes_canonical (h : Canonical s) : Canonical (addRes i k s) := putRes_canonical h

theorem setCnvStat_canonical (h : Canonical s) : Canonical (setCnvStat i s) := h.same rfl

theorem modSar_canonical {f : Sar → Sar} (h : Canonical s) : Canonical (modSar j f s) := h.same rfl

theorem freeDac_canonical (h : Canonical s) : Canonical (freeDac n s) := .ite h (h.same rfl)

theorem returnDac_canonical (h : Canonical s) : Canonical (returnDac u s) := by
  unfold returnDac
  split
  · exact freeDac_canonical h
  · exact h

/-! ### Tests -/

/-- A test of a converter counts the starts it drops and marks the results of its inputs. -/
theorem onTestStart_canonical (h : Canonical s) : Canonical (onTestStart u s) := by
  unfold onTestStart
  split
  · exact .forEach (modSar_canonical (.ite (addRes_canonical h) (setCnvStat_canonical (addRes_canonical h))))
      fun _ _ => putRes_canonical
  · split
    · exact h.same
    · exact h

theorem onTestEnd_canonical {pass : Bool} (h : Canonical s) : Canonical (onTestEnd u pass s) := by
  unfold onTestEnd
  split
  · exact h.same
  · exact .ite (h.same rfl) h

theorem startHead_canonical {q : Fin 10} (h : Canonical s) : Canonical (startHead q s) := by
  unfold startHead
  split
  · exact onTestStart_canonical h
  · exact h

theorem queueTest_canonical {x : Test} (h : Canonical s) : Canonical (queueTest x s) :=
  .ite h (.ite (startHead_canonical h.same) h.same)

theorem raiseFault_canonical (h : Canonical s) : Canonical (raiseFault code units a m s) :=
  .ite h (.ite h.same (.forEach h.same fun _ _ => queueTest_canonical))

theorem bootFault_canonical (h : Canonical s) : Canonical (bootFault code units s) :=
  .forEach h.same fun _ _ => queueTest_canonical

theorem outOfService_canonical (h : Canonical s) : Canonical (outOfService u s) :=
  .ite (h.same rfl) (.ite (h.same rfl) h)

theorem makeLasting_canonical (h : Canonical s) : Canonical (makeLasting u code s) :=
  by
  refine .ite h (.forEach ?_ fun n _ hu => hu.frame (latchAxis n))
  exact .frame (noteFaults s) (.frame (setFltStat 2) (outOfService_canonical (h.same rfl)))

theorem classifyPass_canonical (h : Canonical s) : Canonical (classifyPass u code s) :=
  .ite (makeLasting_canonical h.same) h.same

theorem classifyFail_canonical {x : Test} (h : Canonical s) : Canonical (classifyFail x w s) :=
  .ite (makeLasting_canonical h.same) (makeLasting_canonical h.same)

theorem judgeTest_canonical {x : Test} {was pass : Bool} {codes : List Word} (h : Canonical s) :
    Canonical (judgeTest x was pass codes w s) := by
  unfold judgeTest
  refine .ite h.same (.ite (classifyFail_canonical h) ?_)
  split
  · exact classifyPass_canonical h
  · exact h

theorem completeTest_canonical {pass : Bool} (h : Canonical s) : Canonical (completeTest u pass w s) := by
  unfold completeTest
  split
  · exact h
  · refine .ite h (returnDac_canonical (startHead_canonical (.frame (leaveTest u) (.frame (reportTest _ _) ?_))))
    exact .frame (countProof _ _) (judgeTest_canonical (.frame (leaveQueue u) (onTestEnd_canonical h)))

/-! ### Trips -/

theorem startTripAction_canonical {c : BitVec 10} (h : Canonical s) : Canonical (startTripAction n c s) := h.same rfl

theorem tripGroup_canonical {new : Vector (BitVec 10) 8} (h : Canonical s) : Canonical (tripGroup new l s) := by
  unfold tripGroup
  refine .ite h (.ite (.forEach h.same fun m _ hu => .ite (hu.frame (forceAllOff m)) hu) ?_)
  refine .frame (setState _ _) (.frame (haltAxis _) (.forEach h.same fun _ _ hu => ?_))
  exact .frame (modTrip _ _) (startTripAction_canonical hu)

theorem tripAll_canonical {new : Vector (BitVec 10) 8} (h : Canonical s) : Canonical (tripAll new s) :=
  .forEach h fun _ _ => tripGroup_canonical

theorem settleTrips_canonical (h : Canonical s) : Canonical (settleTrips old s) :=
  tripAll_canonical (.forEach h fun _ _ hu => .ite hu hu.same)

theorem withTrips_canonical {f : State → State} (h : Canonical (f s)) : Canonical (withTrips f s) :=
  settleTrips_canonical h

theorem rewatch_canonical (h : Canonical s) : Canonical (rewatch n s) := .ite h (tripGroup_canonical h)

theorem rewatchFreed_canonical (h : Canonical s) : Canonical (rewatchFreed old s) :=
  .forEach h fun _ _ => rewatch_canonical

theorem tripInternal_canonical (h : Canonical s) : Canonical (tripInternal n s) :=
  .ite (tripGroup_canonical h.same) h.same

theorem raiseOn_canonical (h : Canonical s) : Canonical (raiseOn n code u m s) := raiseFault_canonical h

/-! ### Gate channels, supplies, external trips and STO -/

theorem desatDetect_canonical {c : Fin 48} (h : Canonical s) : Canonical (desatDetect c s) :=
  .ite (.frame (switchesOff _) (settleTrips_canonical
    (.frame (modChan _ _) (.frame (modTrip _ _) (raiseOn_canonical h))))) h

theorem raiseOrBoot_canonical (h : Canonical s) : Canonical (raiseOrBoot n code u s) :=
  .ite (bootFault_canonical h) (raiseOn_canonical h)

theorem supplyUndervoltage_canonical {p : Fin 32} {offRail : Bool} (h : Canonical s) :
    Canonical (supplyUndervoltage p offRail s) :=
  .ite (settleTrips_canonical (.same (raiseOrBoot_canonical h) rfl)) h

theorem gateVoltageFault_canonical {c : Fin 48} (h : Canonical s) : Canonical (gateVoltageFault c w s) :=
  .ite (settleTrips_canonical (.frame (modChan _ _) (raiseOn_canonical h))) h

theorem channelTemperature_canonical {c : Fin 48} (h : Canonical s) : Canonical (channelTemperature c w s) :=
  .ite (.ite (settleTrips_canonical (.frame (modChan _ _) (raiseOn_canonical h.same))) (.ite h.same h.same)) h

theorem externalTrip_canonical {e : Fin 4} (h : Canonical s) : Canonical (externalTrip e s) := by
  unfold externalTrip
  exact withTrips_canonical h.same

theorem modSto_canonical {f : Sto → Sto} (h : Canonical s) : Canonical (modSto f s) :=
  withTrips_canonical (h.same rfl)

theorem stoInputChange_canonical {which : Fin 2} {high : Bool} (h : Canonical s) :
    Canonical (stoInputChange which high s) := .ite h (.ite (modSto_canonical h) (h.same rfl))

theorem stoDemand_canonical (h : Canonical s) : Canonical (stoDemand s) := .ite (modSto_canonical h) h

theorem stoSingleTimeout_canonical {which : Fin 2} (h : Canonical s) : Canonical (stoSingleTimeout which s) :=
  .ite (modSto_canonical h) h

theorem stoDiscrepancy_canonical {which : Fin 2} (h : Canonical s) : Canonical (stoDiscrepancy which s) :=
  .ite (modSto_canonical (raiseFault_canonical h)) h

end Sys2Proof.Machine
end

section
/-! SUPPORT. Drive control, the probe, converters and feedback keep the memories canonical (10, 11, 12, 13). -/

set_option Elab.async false

namespace Sys2Proof.Machine

variable {s : State} {n : Fin 8} {j : Fin 16} {d : Fin 24} {k q : Nat} {w : Word}

/-! ### Drive control -/

theorem writeBoth_canonical {off : Nat} {mask : Word} (h : Canonical s) : Canonical (writeBoth n off mask w s) := by
  obtain ⟨hshadow, hrunning, hpending, hlive, hadv⟩ := h.cfg
  exact { h with cfg := ⟨WordMem.wf_put hshadow, WordMem.wf_put hrunning, hpending, hlive, hadv⟩ }

theorem commandLost_canonical (h : Canonical s) : Canonical (commandLost n s) :=
  .frame (forcedStop n) (raiseFault_canonical h.same)

theorem checkCommand_canonical (h : Canonical s) : Canonical (checkCommand n s) := .ite (commandLost_canonical h) h

theorem enterStart_canonical (h : Canonical s) : Canonical (enterStart n s) :=
  checkCommand_canonical (rewatch_canonical h.same)

theorem enterDirect_canonical (h : Canonical s) : Canonical (enterDirect n s) :=
  checkCommand_canonical (rewatch_canonical h.same)

theorem lockedRotor_canonical (h : Canonical s) : Canonical (lockedRotor n s) :=
  .ite (.frame (endRide n true) (raiseOn_canonical h.same)) h

theorem commandLoss_canonical (h : Canonical s) : Canonical (commandLoss n s) :=
  .ite (.ite (commandLost_canonical h.same) h.same) h

/-! ### The probe -/

theorem startProbe_canonical {thenStart : Bool} (h : Canonical s) : Canonical (startProbe n thenStart s) :=
  rewatch_canonical h.same

theorem alignEncoder_canonical (h : Canonical s) : Canonical (alignEncoder n s) :=
  .ite (.frame (modProbe n _) (writeBoth_canonical (writeBoth_canonical h))) h.same

theorem probeFails_canonical {outcome : BitVec 3} (h : Canonical s) : Canonical (probeFails n outcome s) := by
  refine .frame (setState n .ready) (.frame (modProbe n _) (.forEach ?_ fun m _ hu => hu.frame (switchesOff m)))
  exact raiseFault_canonical h

theorem probeTiming_canonical (h : Canonical s) : Canonical (probeTiming n s) :=
  .ite h (.ite (.ite (probeFails_canonical h) h.same) (.ite h.same h.same))

theorem probeSample_canonical {x : Nat} {y : Int} (h : Canonical s) : Canonical (probeSample n x y s) :=
  .ite h (.ite (probeFails_canonical h) (.ite h.same h))

/-! ### Run requests -/

theorem startRun_canonical (h : Canonical s) : Canonical (startRun n s) := by
  unfold startRun
  have hs : Canonical (countTally (0x08 + n.val) (clearMarks n s)) := h.same
  dsimp only
  split
  · exact .ite (enterDirect_canonical hs) (.ite (enterStart_canonical hs) (startProbe_canonical hs))
  · exact hs.same
  · exact hs.same
  · exact hs.same
  · exact hs

theorem probeRun_canonical (h : Canonical s) : Canonical (probeRun n s) := .ite (startProbe_canonical h.same) h.same

theorem requestRun_canonical (h : Canonical s) : Canonical (requestRun n k s) := by
  unfold requestRun
  refine .ite h ?_
  split
  · exact startRun_canonical h
  · exact h.same
  · exact h.same
  · exact probeRun_canonical h
  · exact h

theorem applyEnable_canonical {en : Bool} (h : Canonical s) : Canonical (applyEnable n en s) :=
  .ite h (.ite (.ite (rewatch_canonical h.same) h) (.ite h.same h))

theorem writeEnable_canonical {en : Bool} (h : Canonical s) : Canonical (writeEnable n en s) := by
  unfold writeEnable
  refine .ite (applyEnable_canonical (.frame (modAxis n _) ?hs)) (.frame (modAxis n _) ?hs)
  exact .ite h.same h.same

/-! ### SAR converters -/

theorem countRes_canonical (h : Canonical s) : Canonical (countRes k s) := putRes_canonical h

theorem countSkip_canonical (h : Canonical s) : Canonical (countSkip j s) := (countRes_canonical h).same rfl

theorem takeBackSkip_canonical {flag : Bool} (h : Canonical s) : Canonical (takeBackSkip j flag s) :=
  .same (putRes_canonical h) rfl

theorem startSlot_canonical {e t : Nat} {inputs : List (Fin 8)} {irq : Bool} {lead : Option Arrival}
    (h : Canonical s) : Canonical (startSlot j q e inputs irq t lead s) := by
  unfold startSlot
  split
  · exact modSar_canonical h
  · refine modSar_canonical ?_
    split
    · exact countSkip_canonical h
    · exact h

theorem beginSequence_canonical {t : Nat} {lead : Option Arrival} (h : Canonical s) :
    Canonical (beginSequence j q t lead s) := startSlot_canonical h

theorem startPending_canonical {t : Nat} {starts : List PendStart} (h : Canonical s) :
    Canonical (startPending j t starts s) := by
  induction starts with
  | nil => exact modSar_canonical h
  | cons x xs ih => exact .ite ih (beginSequence_canonical (modSar_canonical h))

theorem queueStart_canonical {x : PendStart} (h : Canonical s) : Canonical (queueStart j x s) :=
  .when (modSar_canonical h) fun hs => setCnvStat_canonical (countRes_canonical hs)

theorem giveWay_canonical {r : SarRun} {lead : Arrival} (h : Canonical s) : Canonical (giveWay j r lead s) := by
  unfold giveWay
  refine queueStart_canonical (modSar_canonical ?_)
  split
  · exact takeBackSkip_canonical h
  · exact h

theorem convStart_canonical {a : Arrival} (h : Canonical s) : Canonical (convStart j q a s) := by
  unfold convStart
  refine .ite h (.ite (setCnvStat_canonical (countRes_canonical h)) ?_)
  split
  · exact beginSequence_canonical h
  · split
    · exact .ite (beginSequence_canonical (giveWay_canonical h)) (queueStart_canonical h)
    · exact queueStart_canonical h

theorem triggerSequence_canonical {a : Arrival} (h : Canonical s) : Canonical (triggerSequence q a s) :=
  convStart_canonical h

theorem dcLinkResult_canonical {y : BitVec 12} {clamped : Bool} (h : Canonical s) :
    Canonical (dcLinkResult n y clamped s) := by
  unfold dcLinkResult
  exact settleTrips_canonical (.frame (modTrip n _) (.when (.when h raiseOn_canonical) raiseOn_canonical))

theorem storeWitness_canonical {x : WitSlot} {t : Nat} {raw : BitVec 12} (h : Canonical s) :
    Canonical (storeWitness j x t raw s) := by
  unfold storeWitness
  exact .when (.ite h (putRes_canonical (h.same rfl))) setCnvStat_canonical

theorem witnessResult_canonical {x : WitSlot} {y raw : BitVec 12} (h : Canonical s) :
    Canonical (witnessResult j x y raw s) := by
  unfold witnessResult
  refine .ite (.unless (raiseOn_canonical (raiseOn_canonical ?_)) (Canonical.frame (testAfter _ _))) h
  exact .same (putRes_canonical (putRes_canonical h)) rfl

theorem pairResult_canonical {r : SarRes} {y : BitVec 12} (h : Canonical s) : Canonical (pairResult j r y s) := by
  unfold pairResult
  split
  · exact witnessResult_canonical (.ite h (storeWitness_canonical h))
  · exact h

theorem loneHandover_canonical (h : Canonical s) : Canonical (loneHandover j s) := by
  unfold loneHandover
  split
  · dsimp only
    split
    · exact storeWitness_canonical (modSar_canonical h)
    · exact modSar_canonical h
  · exact h

theorem resultHandover_canonical (h : Canonical s) : Canonical (resultHandover j s) := by
  have hs := loneHandover_canonical (j := j) h
  unfold resultHandover
  dsimp only
  split
  · exact hs
  · refine .when (pairResult_canonical ?_) fun ht => setCnvStat_canonical (putRes_canonical ht)
    refine .frame (mainsResult _ _) (.frame (commandResult _ _ _) (.frame (bemfResult _ _ _) ?_))
    refine .when (.when ?_ setCnvStat_canonical) dcLinkResult_canonical
    exact putRes_canonical (putRes_canonical (modSar_canonical hs))

theorem loneEnd_canonical {v : AnalogIn} {dev : Int} (h : Canonical s) : Canonical (loneEnd j v dev s) := by
  unfold loneEnd
  split
  · exact modSar_canonical (h.same rfl)
  · exact h

theorem endSlot_canonical {r : SarRun} {v : AnalogIn} {dev : Int} (h : Canonical s) :
    Canonical (endSlot j r v dev s) := by
  unfold endSlot
  dsimp only
  refine .ite (startPending_canonical ?hs) (startSlot_canonical ?hs)
  split
  · exact storeWitness_canonical (modSar_canonical (h.same rfl))
  · exact modSar_canonical (h.same rfl)

theorem slotEnd_canonical {v : AnalogIn} {dev : Int} (h : Canonical s) : Canonical (slotEnd j v dev s) := by
  unfold slotEnd
  refine .ite h (.ite (loneEnd_canonical h) ?_)
  have hs := resultHandover_canonical (j := j) (loneEnd_canonical (j := j) (v := v) (dev := dev) h)
  dsimp only
  split
  · exact hs
  · exact endSlot_canonical hs

theorem fireTrigger_canonical {m : Fin 4} {at_ : Nat} (h : Canonical s) : Canonical (fireTrigger n m at_ s) :=
  .ite (triggerSequence_canonical h.same) h

theorem triggerCompare_canonical {m : Fin 4} (h : Canonical s) : Canonical (triggerCompare n m s) :=
  fireTrigger_canonical h

theorem mainsSample_canonical {m : Fin 2} (h : Canonical s) : Canonical (mainsSample m s) :=
  .ite (convStart_canonical (h.same rfl)) h

/-! ### Flow channels and coefficients -/

theorem mainPath_canonical {stream : List Bool} (h : Canonical s) : Canonical (mainPath d stream s) :=
  .ite (.when (putRes_canonical h) setCnvStat_canonical) h

theorem overCurrent_canonical {y : Int} (h : Canonical s) : Canonical (overCurrent d y s) :=
  settleTrips_canonical (.frame (modTrip _ _) (.when h raiseOn_canonical))

theorem fastPath_canonical {stream : List Bool} (h : Canonical s) : Canonical (fastPath d stream s) := by
  unfold fastPath
  refine .ite (overCurrent_canonical (probeSample_canonical ?_)) h
  exact .when (.when (putRes_canonical h) setCnvStat_canonical) (Canonical.frame (modDrive _ _))

theorem streamStuck_canonical (h : Canonical s) : Canonical (streamStuck d s) :=
  .ite (raiseOn_canonical (setCnvStat_canonical (h.same rfl))) h

/-- The first word of a pair waits in `heldOfs`; the second takes it along into the coefficients (13 R463). -/
theorem writeCoef_canonical (h : Canonical s) : Canonical (writeCoef k w s) := by
  have hput {a : Nat} {v : Word} : (s.cnv.coef.put a v).wf := WordMem.wf_put h.coef
  have hheld {a : Nat} {v : Word} : (s.cnv.heldOfs.put a v).wf := WordMem.wf_put h.heldOfs
  unfold writeCoef
  exact .ite { h with coef := hput } (.ite { h with heldOfs := hheld }
    { h with coef := WordMem.wf_put hput, heldOfs := hheld })

/-! ### Feedback -/

theorem fbFault_canonical (h : Canonical s) : Canonical (fbFault n k s) := raiseOn_canonical h.same

theorem phaseError_canonical (h : Canonical s) : Canonical (phaseError n s) := fbFault_canonical h.same

theorem quadEdge_canonical {ab : AbSample} (h : Canonical s) : Canonical (quadEdge n ab k s) := by
  unfold quadEdge
  refine .ite h ?_
  dsimp only
  split
  · exact phaseError_canonical h.same
  · exact .ite h.same (.ite h.same h.same)

theorem lineFault_canonical {rx : Fin 16} (h : Canonical s) : Canonical (lineFault rx s) :=
  .ite (.forEach (h.same rfl) fun _ _ hu => fbFault_canonical hu.same) h

theorem gapAfterSleep_canonical (h : Canonical s) : Canonical (gapAfterSleep s) :=
  .forEach h fun n _ hu => .when (.when hu (Canonical.frame (setFbStat 7 n))) writeBoth_canonical

end Sys2Proof.Machine
end

section
/-! SUPPORT. The ladder, the carriers, the swap of an axis and the stitch lanes keep the memories canonical (06, 07,
08). -/

set_option Elab.async false

namespace Sys2Proof.Machine

variable {s old : State} {n l : Fin 8} {m : Fin 2} {code : BitVec 8} {dt e : Nat} {c : Chain} {a : Action}

/-! ### The rotor ladder -/

theorem loseRotor_canonical (h : Canonical s) : Canonical (loseRotor n s) :=
  .ite (tripInternal_canonical (raiseOn_canonical h.same)) h.same

theorem downgrade_canonical {r : Rung} {ex : Option Extrap} (h : Canonical s) : Canonical (downgrade n r ex s) := by
  unfold downgrade
  split
  · exact loseRotor_canonical h
  · exact h.same

theorem selectRung_canonical (h : Canonical s) : Canonical (selectRung n s) := by
  unfold selectRung
  refine .ite h (.ite (.ite h h.same) (.ite h (.ite ?_ (.ite h (downgrade_canonical h)))))
  split
  · exact h
  · exact h.same

theorem stepLadder_canonical (h : Canonical s) : Canonical (stepLadder n s) := by
  have hs : Canonical (selectRung n (stepRungs n s)) := selectRung_canonical h.same
  unfold stepLadder
  dsimp only
  split
  · exact hs.same
  · exact hs.same

theorem probeSucceeds_canonical {x : Word} (h : Canonical s) : Canonical (probeSucceeds n x s) := by
  unfold probeSucceeds
  refine .ite (enterStart_canonical ?hs) (.frame (setState n .ready) ?hs)
  exact .frame (retakeAngle n) (selectRung_canonical (.frame (stepRungs n) (alignEncoder_canonical h.same)))

theorem probeAttemptEnd_canonical (h : Canonical s) : Canonical (probeAttemptEnd n s) := by
  unfold probeAttemptEnd
  refine .ite h (.ite (probeFails_canonical h) (.ite (probeSucceeds_canonical ?hs)
    (.ite (probeFails_canonical ?hs) (.frame (modProbe n _) ?hs))))
  exact .frame (modProbe n _) (h.same rfl)

theorem stepAngles_canonical (h : Canonical s) : Canonical (stepAngles s) := by
  unfold stepAngles
  refine .forEach (.forEach ?_ fun _ _ hu => .unless hu stepLadder_canonical) fun k _ hu => hu.frame (stepOver k)
  refine .forEach (.frame stepStation ?_) fun k _ hu => hu.frame (stepCarrierSource k)
  refine .forEach (.forEach (h.same rfl) fun k _ hu => ?_) fun k _ hu => hu.frame (stepFbSpeed k)
  exact .when hu (Canonical.frame (modCar k _))

theorem sourceOverSpeed_canonical {k : Fin 32} (h : Canonical s) : Canonical (sourceOverSpeed k s) := by
  unfold sourceOverSpeed
  refine .ite h (.ite (.frame (forcedStop _) ?hs) (.forEach ?hs fun x _ hu => hu.frame (forcedStop x)))
  exact raiseFault_canonical h.same

theorem mainsOutOfRange_canonical {f : Word} (h : Canonical s) : Canonical (mainsOutOfRange m f s) :=
  .ite (raiseFault_canonical (h.same rfl)) h

theorem blendComplete_canonical (h : Canonical s) : Canonical (blendComplete n s) := by
  unfold blendComplete
  split
  · exact h
  · refine .ite h ?_
    dsimp only
    split
    · exact h.same
    · exact downgrade_canonical h.same

theorem reselect_canonical (h : Canonical s) : Canonical (reselect n s) := by
  unfold reselect
  refine .ite (.ite ?hs (.frame (retakeAngle _) ?hs)) h
  exact selectRung_canonical h.same

theorem holdExpiry_canonical (h : Canonical s) : Canonical (holdExpiry n s) := .ite (reselect_canonical h.same) h

/-! ### An axis takes its configuration -/

theorem settleGroup_canonical {was : AxSt} (h : Canonical s) : Canonical (settleGroup n was s) := by
  unfold settleGroup
  refine .when (.unless (.ite ?_ (.ite h h.same)) (Canonical.frame (setState n .off))) (Canonical.frame (latchAxis n))
  exact .ite h (rewatch_canonical h.same)

theorem regroup_canonical (h : Canonical s) : Canonical (regroup old n s) :=
  .forEach h.same fun _ _ => settleGroup_canonical

theorem afterAxis_canonical (h : Canonical s) : Canonical (afterAxis old n s) := by
  unfold afterAxis
  refine freeDac_canonical (.frame noteExternal (.frame refreshVmax ?_))
  exact .when (.when (.when h regroup_canonical) (Canonical.frame (reseed n))) (Canonical.frame (enableFb n))

/-- An axis takes over its own words of the running configuration and space 0x03 as it then stands. -/
theorem takeAxis_canonical (h : Canonical s) : Canonical (takeAxis n s) := by
  unfold takeAxis
  obtain ⟨hshadow, hrunning, hpending, hlive, hadv⟩ := h.cfg
  have htaken : (WordMem.overlay (fun k => keyAxis k == some n.val) s.cfg.running s.cfg.pending).wf :=
    WordMem.wf_overlay hrunning
  refine withTrips_canonical (afterAxis_canonical
    { h with cfg := ⟨hshadow, htaken, hpending, hlive, fun k => ?_⟩ })
  simp only [Fin.getElem_fin, Vector.getElem_set]
  split
  · exact WordMem.wf_filter hpending
  · exact hadv k

theorem finishApply_canonical (h : Canonical s) : Canonical (finishApply s) := .ite (h.same rfl) h

theorem takeWaiting_canonical (h : Canonical s) : Canonical (takeWaiting n s) :=
  .ite (finishApply_canonical (takeAxis_canonical h)) h

/-! ### Carrier periods -/

theorem periodTakes_canonical (h : Canonical s) : Canonical (periodTakes n s) := by
  unfold periodTakes
  refine .ite (applyEnable_canonical (.frame (modAxis n _) ?hs)) ?hs
  refine .unless (.frame (adoptLive n) ?_) (Canonical.frame (modDrive n _))
  exact .when (takeWaiting_canonical h) fun hs => rewatch_canonical (.frame (finishClear n) hs)

theorem leaderPeriod_canonical (h : Canonical s) : Canonical (leaderPeriod n dt e s) := by
  unfold leaderPeriod
  refine .frame (afterRegulators n) (.frame (setRoles n _) (.frame (loadPeriod n _ e _) (.frame (modDrive n _)
    (.frame (runRegulators n dt) (.frame (stepInjection n) (.frame (orient n) (.frame (advancePeriod n) ?_)))))))
  exact .ite h.same h

theorem memberPeriod_canonical (h : Canonical s) : Canonical (memberPeriod n e s) := by
  unfold memberPeriod
  exact .frame (loadPeriod n _ e _) h.same

theorem startPeriod_canonical (h : Canonical s) : Canonical (startPeriod n e s) := by
  unfold startPeriod
  have hs : Canonical (periodTakes n s) := periodTakes_canonical h
  exact .ite (leaderPeriod_canonical hs.same) (.ite (memberPeriod_canonical hs) hs.same)

theorem fireRest_canonical (h : Canonical s) : Canonical (fireRest n s) := .forEach h fun _ _ => fireTrigger_canonical

theorem parkMember_canonical (h : Canonical s) : Canonical (parkMember n s) :=
  .frame (restartAngle n) (.frame (parkCarrier n _) (.frame (countSkipped n) (fireRest_canonical h)))

theorem endByResync_canonical (h : Canonical s) : Canonical (endByResync n s) := by
  unfold endByResync
  refine .frame (restartAngle n) (startPeriod_canonical (.forEach ?_ fun _ _ => parkMember_canonical))
  exact .frame (countSkipped n) (fireRest_canonical h)

theorem resyncCarrier_canonical (h : Canonical s) : Canonical (resyncCarrier n s) :=
  .ite h (.ite h.same (endByResync_canonical h))

theorem endCycleResyncs_canonical (h : Canonical s) : Canonical (endCycleResyncs s) :=
  .forEach h fun _ _ hu => resyncCarrier_canonical hu.same

theorem carrierPeriodStart_canonical (h : Canonical s) : Canonical (carrierPeriodStart n s) :=
  .ite h (.ite (.ite (startPeriod_canonical h) (endByResync_canonical h)) (startPeriod_canonical h))

theorem restartCarriers_canonical (h : Canonical s) : Canonical (restartCarriers s) :=
  .forEach h fun _ _ hu => .ite hu.same (startPeriod_canonical hu)

/-! ### Stitch lanes -/

theorem dropHead_canonical (h : Canonical s) : Canonical (dropHead l c s) :=
  .forEach (raiseFault_canonical h.same) fun _ _ => tripInternal_canonical

theorem stitchDue_canonical {k : Fin 1024} (h : Canonical s) : Canonical (stitchDue k s) :=
  .ite (.forEach (.frame (modLane _ _) (h.same rfl)) fun _ _ => dropHead_canonical) h

theorem convAction_canonical (h : Canonical s) : Canonical (convAction l c a s) := triggerSequence_canonical h

theorem publish_canonical {k : Fin 32} (h : Canonical s) : Canonical (publish m k s) := h.same rfl

theorem tallyAction_canonical (h : Canonical s) : Canonical (tallyAction l c a s) := .ite h.same (h.same rfl)

theorem actionEffect_canonical (h : Canonical s) : Canonical (actionEffect l c a s) := by
  unfold actionEffect
  split
  · exact h.frame (commuteAction c a)
  · exact convAction_canonical h
  · exact h.same
  · exact h.same
  · exact h.same
  · exact h.same
  · exact h.frame (latchAction true c a)
  · exact h.frame (latchAction false c a)
  · exact h.frame (spacingAction c a)
  · exact publish_canonical h
  · exact h.frame (askResync _)
  · exact tallyAction_canonical h
  · exact h.frame (nopAction c a)

theorem runAction_canonical {act : Chain → Action → State → State} (h : Canonical s)
    (hact : ∀ c a u, Canonical u → Canonical (act c a u)) : Canonical (runAction code l act s) := by
  unfold runAction
  split
  · exact h
  · exact .ite (hact _ _ _ h.same) h

theorem continueLane_canonical (h : Canonical s) : Canonical (continueLane l s) := by
  unfold continueLane
  split
  · exact .ite h (runAction_canonical h fun _ _ _ => actionEffect_canonical)
  · exact h

theorem continueChains_canonical (h : Canonical s) : Canonical (continueChains s) :=
  .forEach h fun _ _ => continueLane_canonical

end Sys2Proof.Machine
end

section
/-! SUPPORT. The record store, the backup domain, the fuses and the fault log keep the memories canonical (05, 16,
17). -/

set_option Elab.async false

namespace Sys2Proof.Machine

variable {s old : State} {n : Fin 8} {b k i : Nat} {d w : Word} {u : TestUnit} {job : StoreJob} {verified : Bool}
  {p : Party}

/-! ### The record store -/

theorem modStore_canonical {f : WordMem → WordMem} (h : Canonical s) (hf : (f s.store.mem).wf) :
    Canonical (modStore f s) := { h with store := hf }

theorem verifyFault_canonical (h : Canonical s) : Canonical (verifyFault k s) :=
  .ite (bootFault_canonical h) (raiseFault_canonical h)

theorem cutJob_canonical (h : Canonical s) : Canonical (cutJob job s) :=
  .ite h (modStore_canonical (h.same rfl) (WordMem.wf_putCells h.store))

theorem failJob_canonical (h : Canonical s) : Canonical (failJob job s) :=
  verifyFault_canonical (modStore_canonical (h.same rfl) (WordMem.wf_put (WordMem.wf_putCells h.store)))

theorem endJob_canonical (h : Canonical s) : Canonical (endJob verified job s) :=
  .ite (modStore_canonical h (WordMem.wf_putCells h.store)) (failJob_canonical h)

theorem bumpCounter_canonical (h : Canonical s) : Canonical (bumpCounter verified k i s) := endJob_canonical h

theorem tallyStoreWrite_canonical (h : Canonical s) : Canonical (tallyStoreWrite verified s) := by
  unfold tallyStoreWrite
  split
  · exact h
  · exact .ite (bumpCounter_canonical (h.same rfl)) h

theorem runTimeIncrement_canonical (h : Canonical s) : Canonical (runTimeIncrement n s) := .ite h (h.same rfl)

theorem writeHeader_canonical {x : Header} (h : Canonical s) : Canonical (writeHeader verified x s) :=
  endJob_canonical h

theorem endStagingOf_canonical (h : Canonical s) : Canonical (endStagingOf p s) := by
  unfold endStagingOf
  split
  · exact .ite (h.same rfl) h
  · exact h

theorem storeDone_canonical {r : BitVec 3} (h : Canonical s) : Canonical (storeDone r s) := h.same rfl

theorem calstore_canonical {arg : BitVec 12} (h : Canonical s) : Canonical (calstore arg s) := by
  unfold calstore
  exact modStore_canonical (h.same rfl) (WordMem.wf_putCells h.store)

theorem sealSlot_canonical (h : Canonical s) : Canonical (sealSlot s) := by
  unfold sealSlot
  split
  · exact h
  · exact .ite (h.same rfl) (storeDone_canonical h)

theorem storeCmd_canonical {op : Nat} {arg : BitVec 12} (h : Canonical s) : Canonical (storeCmd p op arg s) := by
  have hs : Canonical { s with store := { s.store with done := false } } := h.same rfl
  unfold storeCmd
  dsimp only
  split
  · exact calstore_canonical hs
  · exact h.same rfl
  · exact sealSlot_canonical hs
  · exact h.same rfl
  · exact h.same rfl
  · exact hs

theorem bankWriteDone_canonical (h : Canonical s) : Canonical (bankWriteDone verified s) := by
  unfold bankWriteDone
  split
  · have hs := endJob_canonical (verified := verified) (job := opJob s) h
    exact .ite h (.ite (storeDone_canonical (hs.same rfl)) (storeDone_canonical hs))
  · exact h

theorem stagingBeginDone_canonical (h : Canonical s) : Canonical (stagingBeginDone verified s) := by
  unfold stagingBeginDone
  split
  · exact .ite (storeDone_canonical (endJob_canonical h)) h
  · exact h

theorem headerWriteDone_canonical (h : Canonical s) : Canonical (headerWriteDone verified s) := by
  unfold headerWriteDone
  split
  · have hs := endJob_canonical (verified := verified) (job := opJob s) h
    exact .ite h (.ite (storeDone_canonical (.when hs fun hs => hs.same rfl)) (storeDone_canonical hs))
  · exact h

theorem writeStaged_canonical (h : Canonical s) : Canonical (writeStaged k d verified s) := by
  unfold writeStaged
  split
  · exact h
  · exact .ite h (endJob_canonical h)

theorem clearBlock_canonical (h : Canonical s) : Canonical (clearBlock b s) :=
  modStore_canonical h (WordMem.wf_erase h.store)

theorem spoilBlock_canonical (h : Canonical s) : Canonical (spoilBlock b s) :=
  verifyFault_canonical (modStore_canonical (h.same rfl) (WordMem.wf_put h.store))

/-! ### The fault log -/

theorem writeEntry_canonical {e : LogEntry} (h : Canonical s) : Canonical (writeEntry verified e s) := by
  unfold writeEntry
  have hs := endJob_canonical (verified := verified) (job := entryJob e s) h
  refine .ite (.frame (countTally _) (.frame (setFltStat 0) (.when ?_ (Canonical.frame (setFltStat 7))))) hs
  exact .when (hs.same rfl) fun ht => ht.same rfl

theorem faultLogWrite_canonical (h : Canonical s) : Canonical (faultLogWrite verified s) := by
  unfold faultLogWrite
  split
  · exact h
  · exact .ite h (writeEntry_canonical (h.same rfl))

theorem ackFault_canonical (h : Canonical s) : Canonical (ackFault d s) := .ite (queueTest_canonical h) h

theorem hostTest_canonical {proof : Bool} (h : Canonical s) : Canonical (hostTest u proof s) := by
  unfold hostTest
  refine queueTest_canonical ?_
  split
  · exact .ite (rewatch_canonical h.same) h
  · exact h

theorem requestTest_canonical (h : Canonical s) : Canonical (requestTest d s) :=
  .ite (hostTest_canonical (h.same rfl)) h

theorem proofRequest_canonical (h : Canonical s) : Canonical (proofRequest d s) :=
  .ite h (.forEach h.same fun _ _ => hostTest_canonical)

/-! ### The backup domain -/

theorem modBak_canonical {f : Backup → Backup} (h : Canonical s) (hf : (f s.bak).ram.wf) : Canonical (modBak f s) :=
  .ite { h with bak := hf } h

theorem stepRtc_canonical (h : Canonical s) : Canonical (stepRtc s) := by
  refine modBak_canonical h ?_
  dsimp only
  split <;> exact h.bak

theorem passClock_canonical (h : Canonical s) : Canonical (passClock s) := .ite h (modBak_canonical (h.same rfl) h.bak)

theorem writeRecord_wf {m : WordMem} {rtc : BitVec 48} (h : m.wf) : (writeRecord b m rtc).wf := by
  unfold writeRecord
  split
  · exact WordMem.wf_putList h
  · exact h

theorem latchAlarm_canonical (h : Canonical s) : Canonical (latchAlarm b s) := by
  unfold latchAlarm
  refine .ite h (.ite (.frame (fun u => recordEntry _ _ u) ?hs) (.frame wake ?hs))
  exact modBak_canonical h (writeRecord_wf h.bak)

theorem logSleepAlarms_canonical (h : Canonical s) : Canonical (logSleepAlarms s) := by
  unfold logSleepAlarms
  refine modBak_canonical ?hs (Canonical.bak ?hs)
  exact h.same

theorem vbakLow_canonical (h : Canonical s) : Canonical (vbakLow s) := by
  have hs := passClock_canonical h
  exact .ite (latchAlarm_canonical (modBak_canonical hs hs.bak)) h

theorem Backup.step_ram (x : Backup) (up : Bool) : (x.step up).ram = x.ram := by
  unfold Backup.step
  split <;> rfl

theorem strobeSample_canonical {ab : AbSample} (h : Canonical s) : Canonical (strobeSample ab s) := by
  have h1 : Canonical (modBak Backup.applyCarry s) := modBak_canonical h h.bak
  have h2 : Canonical (modBak (fun k => { k with ab := ab, abKnown := true }) (modBak Backup.applyCarry s)) :=
    modBak_canonical h1 h1.bak
  unfold strobeSample
  refine .ite h2 ?_
  split
  · exact latchAlarm_canonical h2
  · exact .ite h2 (modBak_canonical h2 (by rw [Backup.step_ram]; exact h2.bak))

theorem watchStrobe_canonical {ab : AbSample} (h : Canonical s) : Canonical (watchStrobe ab s) :=
  .ite h (.when (strobeSample_canonical (passClock_canonical h)) latchAlarm_canonical)

theorem watchFollow_canonical (h : Canonical s) : Canonical (watchFollow old n s) := by
  refine .ite h (modBak_canonical h ?_)
  dsimp only
  split
  · exact h.bak
  · rw [Backup.step_ram]; exact h.bak

theorem seeWatch_canonical (h : Canonical s) : Canonical (seeWatch s) := .ite (modBak_canonical h h.bak) h

theorem watchSwapped_canonical (h : Canonical s) : Canonical (watchSwapped old s) :=
  .ite (strobeSample_canonical h) (.ite (modBak_canonical h h.bak) h)

theorem wordsSwapped_canonical (h : Canonical s) : Canonical (wordsSwapped old s) :=
  .ite (.frame (modSeam _) (watchSwapped_canonical h)) (watchSwapped_canonical h)

theorem enterWatch_canonical (h : Canonical s) : Canonical (enterWatch s) :=
  modBak_canonical (seeWatch_canonical h) (seeWatch_canonical h).bak

theorem acknowledgeAlarms_canonical (h : Canonical s) : Canonical (acknowledgeAlarms s) :=
  modBak_canonical h (WordMem.wf_filter h.bak)

theorem readAlarms_canonical (h : Canonical s) : Canonical (readAlarms s) := modBak_canonical h h.bak

theorem writeBakWord_canonical (h : Canonical s) : Canonical (writeBakWord k d s) :=
  modBak_canonical h (WordMem.wf_put h.bak)

/-! ### The fuses -/

theorem modOtp_canonical {f : Otp → Otp} (h : Canonical s) (hf : (f s.otp).wf) : Canonical (modOtp f s) :=
  { h with otp := hf }

theorem otpPut_wf {t : Otp} (h : t.wf) : (otpPut k w t).wf := by
  unfold otpPut
  split
  · exact ⟨h.1, WordMem.wf_put h.2⟩
  · exact ⟨WordMem.wf_put h.1, h.2⟩

theorem fillSpare_wf {t : Otp} {x : Fin 16} {ws : List Word} (h : t.wf) : (fillSpare x ws t).wf :=
  ⟨h.1, WordMem.wf_putList h.2⟩

theorem foldl_fillSpare_wf {l : List (Fin 16)} {ws : List Word} {t : Otp} (h : t.wf) :
    (l.foldl (fun t x => fillSpare x ws t) t).wf := by
  induction l generalizing t with
  | nil => exact h
  | cons x xs ih => exact ih (fillSpare_wf h)

theorem otpRefused_canonical {st : Status} (h : Canonical s) : Canonical (otpRefused st s) :=
  .ite h.same h

theorem otpCmd_canonical (h : Canonical s) : Canonical (otpCmd d s) := by
  refine modOtp_canonical h ?_
  dsimp only
  split
  · split <;> exact h.otp
  · split
    · exact h.otp
    · exact h.otp
    · exact h.otp
    · split <;> exact h.otp

theorem halfBurned_canonical (h : Canonical s) : Canonical (halfBurned k d s) :=
  modOtp_canonical (h.same rfl) (otpPut_wf h.otp)

theorem pulseCut_canonical (h : Canonical s) : Canonical (pulseCut k d s) :=
  .ite (modOtp_canonical (h.same rfl) (otpPut_wf h.otp)) (h.same rfl)

theorem lockFailed_canonical {r : BitVec 4} {write : Bool} (h : Canonical s) : Canonical (lockFailed r write s) := by
  unfold lockFailed
  exact .frame (modOtp _) (h.same rfl)

/-- A word burns into the row that stands for its address; one that fails keeps half a burn and asks for a
redirection. -/
theorem otpBurnDone_canonical (h : Canonical s) : Canonical (otpBurnDone verified s) := by
  have hword (a : BitVec 13) (d : Word) : Canonical (if verified then
      modOtp (fun t => { otpPut a.toNat (otpRaw t a.toNat ||| d) t with op := none, result := 1 }) s
      else modOtp (fun t => { t with op := some (.redirect a d) }) (halfBurned a.toNat d s)) :=
    .ite (modOtp_canonical h (otpPut_wf (k := a.toNat) (w := otpRaw s.otp a.toNat ||| d) h.otp))
      (modOtp_canonical (halfBurned_canonical h) (halfBurned_canonical h).otp)
  unfold otpBurnDone
  dsimp only
  split
  · exact hword ..
  · exact hword ..
  · exact .ite (modOtp_canonical h h.otp) (lockFailed_canonical h)
  · exact .ite (modOtp_canonical h h.otp) (lockFailed_canonical h)
  · exact h

theorem otpRedirectionDone_canonical {failed : List Nat} (h : Canonical s) :
    Canonical (otpRedirectionDone failed s) := by
  have hfill (bad : List (Fin 16)) (ws : List Word) :
      Canonical (modOtp (fun t => bad.foldl (fun u i => fillSpare i ws u) t) s) :=
    modOtp_canonical h (foldl_fillSpare_wf h.otp)
  unfold otpRedirectionDone
  split
  · extract_lets ws list bad t
    have ht : Canonical t := hfill bad ws
    clear_value t ws
    split
    · next x _ => exact modOtp_canonical ht (fillSpare_wf (x := x) (ws := ws) ht.otp)
    · exact raiseFault_canonical (.frame (modOtp _) ht)
  · exact h

theorem redirectionCut_canonical (h : Canonical s) : Canonical (redirectionCut k d s) := by
  unfold redirectionCut
  refine modOtp_canonical (h.same rfl) ?_
  split
  · exact fillSpare_wf (foldl_fillSpare_wf h.otp)
  · exact foldl_fillSpare_wf h.otp

theorem otpReset_canonical (h : Canonical s) : Canonical (otpReset s) := by
  unfold otpReset
  refine .frame (modOtp _) ?_
  split
  · exact pulseCut_canonical h
  · exact pulseCut_canonical h
  · exact lockFailed_canonical h
  · exact lockFailed_canonical h
  · exact redirectionCut_canonical h
  · exact h

end Sys2Proof.Machine
end

section
/-! SUPPORT. The supervisor, resets, power transitions and boot keep the memories canonical (01, 04, 16). -/

set_option Elab.async false

namespace Sys2Proof.Machine

variable {s : State} {i k : Nat} {pass : Bool} {tests : List SelfTest}

/-! ### The memories of a reset -/

theorem resetConfig_wf : resetConfig.wf := by
  have hone : WordMem.wf [(0x1F0022, (0x8000 : Word))] := by decide
  refine ⟨hone, hone, WordMem.wf_nil, WordMem.wf_nil, fun j => ?_⟩
  simp only [resetConfig, Fin.getElem_fin, Vector.getElem_replicate]
  exact WordMem.wf_nil

theorem blankCoef_wf : blankCoef.wf := by
  constructor
  · exact List.Pairwise.map _ (fun a b hab => by dsimp only; omega) List.pairwise_lt_range
  · intro e he
    obtain ⟨j, -, rfl⟩ := List.mem_map.1 he
    dsimp only
    decide

/-- A reset blanks every memory but the fuses, the record store and the backup registers. -/
theorem coldState_canonical (h : Canonical s) : Canonical (coldState s) where
  cfg := resetConfig_wf
  otp := h.otp
  store := h.store
  bak := h.bak
  setup := WordMem.wf_nil
  res := WordMem.wf_nil
  coef := blankCoef_wf
  heldOfs := WordMem.wf_nil
  outbox := WordMem.wf_nil
  inbox := WordMem.wf_nil
  win j := by simpa [coldState, State.reset, resetWindow] using WordMem.wf_nil
  sess j := by simpa [coldState, State.reset, resetSeam, resetSession, resetWindow] using WordMem.wf_nil

/-! ### Resets -/

theorem flushWindow_canonical {x : Window} (h : Canonical s) : Canonical (flushWindow x s) := by
  unfold flushWindow
  split
  · exact h
  · exact .ite (.ite (writeStaged_canonical (h.same rfl)) (writeBakWord_canonical (h.same rfl))) (h.same rfl)

theorem cutStore_canonical (h : Canonical s) : Canonical (cutStore s) := by
  unfold cutStore
  refine .ite h ?_
  have hs := cutJob_canonical (job := opJob s) h
  dsimp only
  split
  · refine .ite (cutJob_canonical hs) ?_
    split
    · exact cutJob_canonical hs
    · exact hs
  · exact cutJob_canonical hs
  · exact hs

theorem enterReset_canonical {cause : BitVec 5} (h : Canonical s) : Canonical (enterReset cause s) := by
  refine .same (coldState_canonical (otpReset_canonical (cutStore_canonical ?_))) rfl
  exact Canonical.forEach (f := flushWindow) (seeWatch_canonical h) fun _ _ => flushWindow_canonical

theorem supvReset_canonical {reason : BitVec 4} (h : Canonical s) : Canonical (supvReset reason s) :=
  .ite (.frame (fun u => { u with power := { u.power with reason := reason } }) (enterReset_canonical h)) h

theorem hostReset_canonical (h : Canonical s) : Canonical (hostReset s) := enterReset_canonical h

theorem rstnReset_canonical (h : Canonical s) : Canonical (rstnReset k s) :=
  .ite h (.ite (enterReset_canonical h) (.ite (enterReset_canonical (h.same rfl)) (h.same rfl)))

theorem powerOnReset_canonical {rstn : Bool} (h : Canonical s) : Canonical (powerOnReset rstn s) := by
  refine .ite (enterReset_canonical { h with bak := ?_ }) h
  dsimp only
  split
  · exact (passClock_canonical h).bak
  · exact WordMem.wf_nil

theorem backupEnd_canonical (h : Canonical s) : Canonical (backupEnd s) :=
  .ite (enterReset_canonical (passClock_canonical (h.same rfl))) h

theorem dropWork_canonical (h : Canonical s) : Canonical (dropWork s) :=
  .same (otpReset_canonical (cutStore_canonical h)) rfl

theorem supplyLoss_canonical {rail : Rail} (h : Canonical s) : Canonical (supplyLoss rail s) :=
  .ite (h.same rfl) (.ite (.same (dropWork_canonical (enterWatch_canonical h.same)) rfl)
    (.same (dropWork_canonical h) rfl))

theorem takePermissions_canonical (h : Canonical s) : Canonical (takePermissions s) := h.same rfl

/-! ### The supervisor and its tests -/

theorem supvTripDecision_canonical {reason : BitVec 4} {f : Supv → Supv} (h : Canonical s) :
    Canonical (supvTripDecision reason f s) := by
  unfold supvTripDecision
  exact withTrips_canonical h.same

theorem stoPathCheckFail_canonical {path : Fin 2} (h : Canonical s) : Canonical (stoPathCheckFail path s) :=
  .ite (makeLasting_canonical h.same) h

theorem missBeat_canonical (h : Canonical s) : Canonical (missBeat i s) :=
  .ite h (raiseFault_canonical h.same)

theorem heartbeatCheck_canonical {silent : List Nat} (h : Canonical s) : Canonical (heartbeatCheck silent s) :=
  .when (.forEach h fun _ _ => missBeat_canonical) supvTripDecision_canonical

theorem afterRecheck_canonical (h : Canonical s) : Canonical (afterRecheck i pass s) := by
  refine .ite (.ite h.same h) (.ite (supvReset_canonical ?hs) (.ite (supvReset_canonical ?hs) ?hs))
  exact .ite h.same h

theorem retrained_canonical (h : Canonical s) : Canonical (retrained i s) := .ite (h.same rfl) h

theorem failSelfTest_canonical {x : SelfTest} (h : Canonical s) : Canonical (failSelfTest x s) :=
  makeLasting_canonical h.same

theorem runSelfTests_canonical (h : Canonical s) : Canonical (runSelfTests tests s) :=
  .forEach h fun _ _ => failSelfTest_canonical

/-! ### Power transitions -/

theorem leaveSleep_canonical (h : Canonical s) : Canonical (leaveSleep tests s) :=
  gapAfterSleep_canonical (runSelfTests_canonical h)

theorem stopPorts_canonical (h : Canonical s) : Canonical (stopPorts s) := .forEach h fun _ _ hu => hu.same rfl

theorem stopConverters_canonical (h : Canonical s) : Canonical (stopConverters s) := h.same rfl

theorem enterSleep_canonical (h : Canonical s) :
    Canonical (enterWatch (stopSupplies (stopConverters (stopPorts (holdPins s))))) :=
  enterWatch_canonical (.frame stopSupplies (stopConverters_canonical (stopPorts_canonical h.same)))

theorem powerTransitionDone_canonical (h : Canonical s) : Canonical (powerTransitionDone tests s) := by
  unfold powerTransitionDone
  split
  · refine .frame (setSysStat 5) (.when (.when (.same (.when (.when h enterSleep_canonical) passClock_canonical) rfl)
      leaveSleep_canonical) fun hs => logSleepAlarms_canonical (.frame releasePins ?_))
    exact wordsSwapped_canonical (restartCarriers_canonical hs)
  · exact h

theorem rtcWake_canonical (h : Canonical s) : Canonical (rtcWake s) :=
  .ite (.frame wake (.unless h fun h => modBak_canonical h h.bak)) h

theorem wakePin_canonical {p : Fin 16} (h : Canonical s) : Canonical (wakePin p s) := by
  have hs := passClock_canonical h
  exact .ite h (.ite (modBak_canonical hs hs.bak) (.ite (hs.frame wake) h))

/-! ### Boot -/

theorem setBootStat_canonical (h : Canonical s) : Canonical (setBootStat i s) := h.same rfl

theorem bootStatIf_canonical {c : Bool} (h : Canonical s) : Canonical (bootStatIf c i s) :=
  .ite (setBootStat_canonical h) h

theorem otpCoef_wf (t : Otp) : (otpCoef t).wf := by
  refine WordMem.wf_foldl (fun m i hm => ?_) WordMem.wf_nil
  dsimp only
  split <;> exact WordMem.wf_put (WordMem.wf_put hm)

theorem bootOtp_canonical {env : BootEnv} (h : Canonical s) : Canonical (bootOtp env s) := by
  have hfaults (bad : List Nat) : Canonical (forEach bad (fun row => bootFault (faultCode 0xA1 row) []) s) :=
    .forEach h fun _ _ => bootFault_canonical
  unfold bootOtp
  refine bootStatIf_canonical (bootStatIf_canonical { hfaults _ with coef := ?_ })
  dsimp only
  split
  · exact blankCoef_wf
  · exact otpCoef_wf _

theorem bootPatches_canonical (h : Canonical s) : Canonical (bootPatches s) := by
  unfold bootPatches
  extract_lets d t
  have ht : Canonical t := .when h bootFault_canonical
  clear_value t
  exact .ite (ht.same rfl) (bootStatIf_canonical (setBootStat_canonical (ht.same rfl)))

theorem region7_wf (t : Otp) : (region7 t).wf := by
  unfold region7
  exact WordMem.wf_ofCells _

theorem setupBase_wf : (setupBase s).1.wf := by
  have hdefault : defaultSetup.wf := by decide
  unfold setupBase
  dsimp only
  split
  · exact hdefault
  · split
    · exact hdefault
    · split
      · dsimp only
        exact region7_wf _
      · exact hdefault

theorem bootSetup_canonical (h : Canonical s) : Canonical (bootSetup s) := by
  unfold bootSetup
  extract_lets b t tb use
  have ht : Canonical t := by
    dsimp only [t]
    split
    · exact setBootStat_canonical (.when h bootFault_canonical)
    · exact h
  have huse (m : WordMem) (hm : m.wf) : Canonical (use m) := { ht with setup := hm }
  clear_value use
  split
  · exact huse _ setupBase_wf
  · refine .ite (setBootStat_canonical (huse _ (WordMem.wf_overlay setupBase_wf))) ?_
    exact .frame (fun u => { u with boot := { u.boot with bootStat := u.boot.bootStat ||| _ } })
      (setBootStat_canonical (huse _ setupBase_wf))

theorem judgeDalug_canonical {n : Fin 8} (h : Canonical s) : Canonical (judgeDalug n s) :=
  .ite (setBootStat_canonical (.frame (noteFaults _) (.same h.same rfl))) h

theorem bootBridges_canonical (h : Canonical s) : Canonical (bootBridges s) := by
  unfold bootBridges
  extract_lets life off t u die
  have hu : Canonical u := bootStatIf_canonical (.forEach h fun _ _ => judgeDalug_canonical)
  exact hu.same rfl

theorem bootSelfTests_canonical (h : Canonical s) : Canonical (bootSelfTests tests s) :=
  bootStatIf_canonical (runSelfTests_canonical h)

theorem checkFail_canonical (h : Canonical s) : Canonical (checkFail k s) := bootFault_canonical (h.same rfl)

theorem bootBanks_canonical (h : Canonical s) : Canonical (bootBanks s) := by
  unfold bootBanks
  refine .forEach (.when ?_ fun hs => bootFault_canonical (hs.frame fun u => { u with
    store := { u.store with rollback := true } })) fun _ _ => checkFail_canonical
  split <;> exact h.same rfl

theorem bootRecord_canonical (h : Canonical s) : Canonical (bootRecord s) := by
  obtain ⟨hshadow, hrunning, hpending, hlive, hadv⟩ := h.cfg
  unfold bootRecord
  extract_lets m base p coef
  have hcoef : coef.wf := by
    refine WordMem.wf_foldl (fun c a hc => ?_) h.coef
    split
    · exact WordMem.wf_put hc
    · exact hc
  clear_value coef
  exact { h with
    coef := hcoef
    cfg := ⟨WordMem.wf_put hshadow, WordMem.wf_put hrunning, hpending, hlive, hadv⟩ }

theorem bootCounters_canonical {env : StoreEnv} (h : Canonical s) : Canonical (bootCounters env s) :=
  .same (.forEach (.forEach h fun _ _ => checkFail_canonical) fun _ _ => bumpCounter_canonical) rfl

theorem bootLog_canonical (h : Canonical s) : Canonical (bootLog s) := .forEach h.same fun _ _ => checkFail_canonical

theorem eraseBlocks_canonical {env : StoreEnv} (h : Canonical s) : Canonical (eraseBlocks env s) := by
  unfold eraseBlocks
  split
  · exact .forEach h fun _ _ => clearBlock_canonical
  · exact spoilBlock_canonical (.forEach h fun _ _ => clearBlock_canonical)

theorem bootErase_canonical {env : StoreEnv} (h : Canonical s) : Canonical (bootErase env s) := by
  have hs := eraseBlocks_canonical (env := env) h
  exact .ite h (.ite (writeHeader_canonical h) (.ite (hs.frame findTop)
    (.frame findTop (.same (writeHeader_canonical hs) rfl))))

theorem bootAlarms_canonical (h : Canonical s) : Canonical (bootAlarms s) := by
  unfold bootAlarms
  refine modBak_canonical ?hs (Canonical.bak ?hs)
  exact h.same

theorem drainLog_canonical {env : StoreEnv} {m : Nat} (h : Canonical s) : Canonical (drainLog env m k s) := by
  induction m generalizing k s with
  | zero => exact h
  | succ m ih => exact ih (faultLogWrite_canonical h)

theorem bootStore_canonical {env : StoreEnv} (h : Canonical s) : Canonical (bootStore env s) := by
  unfold bootStore
  refine drainLog_canonical (bootAlarms_canonical (bootStatIf_canonical (bootErase_canonical (bootLog_canonical ?_))))
  exact bootCounters_canonical (bootRecord_canonical (bootBanks_canonical h))

theorem closeGate_canonical (h : Canonical s) : Canonical (closeGate s) :=
  logSleepAlarms_canonical (bootAlarms_canonical (restartCarriers_canonical (h.same rfl)))

theorem bootBegin_canonical (h : Canonical s) : Canonical (bootBegin s) :=
  bootStatIf_canonical (.frame bootReason (h.same rfl))

theorem bootStep_canonical {env : BootEnv} (h : Canonical s) : Canonical (bootStep env k s) := by
  have hs := passClock_canonical h
  unfold bootStep
  refine .ite (closeGate_canonical ?ht) (.same ?ht rfl)
  split
  · exact bootBegin_canonical hs
  · exact bootOtp_canonical hs
  · exact bootPatches_canonical hs
  · exact bootBridges_canonical (bootSetup_canonical hs)
  · exact bootSelfTests_canonical hs
  · exact bootStore_canonical hs
  · exact hs

theorem bootStart_canonical {env : BootEnv} (h : Canonical s) : Canonical (bootStart env s) :=
  .ite (.forEach h fun _ _ => bootStep_canonical) h

end Sys2Proof.Machine
end

section
/-! SUPPORT. The Seam link keeps the memories canonical (15). -/

set_option Elab.async false

namespace Sys2Proof.Machine

variable {s old : State} {p k : Fin 4} {q : Fin 2} {o : Int} {x : AngleSlot} {d : DevId} {m : Msg} {i : Nat}

theorem modSeam_canonical {f : Seam → Seam} (h : Canonical s) (hout : (f s.seam).outbox.wf)
    (hin : (f s.seam).inbox.wf) (hsess : ∀ i : Fin 4, (f s.seam).sess[i].win.pairHi.wf) : Canonical (modSeam f s) :=
  { h with outbox := hout, inbox := hin, sess := hsess }

theorem modPort_canonical {f : Port → Port} (h : Canonical s) : Canonical (modPort p f s) := h.same rfl

theorem setSeamStat_canonical (h : Canonical s) : Canonical (setSeamStat i s) := h.same rfl

/-! ### Time and tree -/

theorem freeTime_canonical (h : Canonical s) : Canonical (freeTime s) := h.same rfl

theorem becomeRoot_canonical (h : Canonical s) : Canonical (becomeRoot s) := h.same rfl

theorem takeParent_canonical (h : Canonical s) : Canonical (takeParent p s) := h.same rfl

theorem loseRoot_canonical (h : Canonical s) : Canonical (loseRoot s) := h.same rfl

theorem stepTime_canonical (h : Canonical s) : Canonical (stepTime o s) := h.same rfl

theorem tryAcquire_canonical (h : Canonical s) : Canonical (tryAcquire o s) :=
  .ite (.ite (.frame (modSeam _) (stepTime_canonical (h.same rfl))) (h.same rfl)) (h.same rfl)

theorem slewTime_canonical (h : Canonical s) : Canonical (slewTime o s) := h.same rfl

theorem takeOffset_canonical (h : Canonical s) : Canonical (takeOffset o s) := by
  unfold takeOffset
  refine .ite (tryAcquire_canonical (.frame (modSeam _) ?hs)) (slewTime_canonical (.frame (modSeam _) ?hs))
  exact .when h freeTime_canonical

theorem takeTimeBlock_canonical {t : TimeBlock} {arrival : BitVec 64} (h : Canonical s) :
    Canonical (takeTimeBlock p t arrival s) := by
  unfold takeTimeBlock
  refine .when ?_ takeOffset_canonical
  split
  · exact modPort_canonical h
  · exact h

theorem chooseAgain_canonical (h : Canonical s) : Canonical (chooseAgain s) := by
  unfold chooseAgain
  refine .ite (becomeRoot_canonical h) ?_
  split
  · exact takeParent_canonical h
  · exact loseRoot_canonical h

theorem elect_canonical (h : Canonical s) : Canonical (elect s) := by
  have hs : Canonical (modSeam (fun m => { m with tooDeep := false }) s) := h.same rfl
  unfold elect
  refine .ite (.ite h (raiseFault_canonical (setSeamStat_canonical (freeTime_canonical (h.same rfl))))) ?_
  refine .ite (.ite (chooseAgain_canonical (freeTime_canonical (loseRoot_canonical hs))) ?_) ?_
  · split
    · exact takeParent_canonical (freeTime_canonical hs)
    · exact hs
  · split
    · exact chooseAgain_canonical hs
    · refine .ite (.ite (chooseAgain_canonical (freeTime_canonical hs)) (chooseAgain_canonical hs))
        (.ite (becomeRoot_canonical hs) ?_)
      split
      · exact takeParent_canonical hs
      · exact hs

theorem setPortRoles_canonical (h : Canonical s) : Canonical (setPortRoles s) := by
  unfold setPortRoles
  refine .ite ?hs (setSeamStat_canonical ?hs)
  exact .forEach h fun _ _ => modPort_canonical

theorem followRoot_canonical (h : Canonical s) : Canonical (followRoot s) := by
  unfold followRoot
  exact setPortRoles_canonical (.ite (h.same rfl) (h.same rfl))

theorem stepTree_canonical (h : Canonical s) : Canonical (stepTree s) := by
  refine .ite (h.same rfl) (followRoot_canonical (elect_canonical (.forEach ?_ fun _ _ => modPort_canonical)))
  exact .forEach h fun _ _ => modPort_canonical

theorem takeTreeBlock_canonical {f : SeamFrame} {arrival : BitVec 64} (h : Canonical s) :
    Canonical (takeTreeBlock p f arrival s) := modPort_canonical h

/-! ### Links -/

theorem linkUp_canonical (h : Canonical s) : Canonical (linkUp p s) :=
  .ite (setPortRoles_canonical (modPort_canonical h)) h

theorem portError_canonical (h : Canonical s) : Canonical (portError p i s) :=
  setSeamStat_canonical (raiseFault_canonical h)

theorem reelect_canonical (h : Canonical s) : Canonical (reelect s) := by
  unfold reelect
  split
  · exact .ite (followRoot_canonical (elect_canonical h)) (setPortRoles_canonical h)
  · exact setPortRoles_canonical h

theorem linkDown_canonical (h : Canonical s) : Canonical (linkDown p s) :=
  .ite (reelect_canonical (portError_canonical (modPort_canonical h))) h

theorem badFrame_canonical (h : Canonical s) : Canonical (badFrame p s) :=
  .when (modPort_canonical h) fun hs => reelect_canonical (portError_canonical hs)

/-! ### Angles and peers -/

theorem wrongSource_canonical (h : Canonical s) : Canonical (wrongSource k i s) :=
  .ite (h.same rfl) (raiseFault_canonical (h.same rfl))

theorem subSample_canonical (h : Canonical s) : Canonical (subSample x k s) :=
  .ite h (.ite (wrongSource_canonical h) (.ite (.frame (commandAxes _ _) (h.same rfl)) h))

theorem memSample_canonical {n : Fin 8} (h : Canonical s) : Canonical (memSample x n s) := .ite (h.same rfl) h

theorem takeSlot_canonical (h : Canonical s) : Canonical (takeSlot p s x) := by
  unfold takeSlot
  exact .frame (modSeam _) (.forEach (.forEach h fun _ _ => subSample_canonical) fun _ _ => memSample_canonical)

theorem orphanPeer_canonical (h : Canonical s) : Canonical (orphanPeer d s) := by
  refine .ite h (.forEach (raiseFault_canonical ?_) fun n _ hu => hu.frame (forcedStop n))
  exact setSeamStat_canonical (h.same rfl)

theorem losePeer_canonical (h : Canonical s) : Canonical (losePeer d s) :=
  setSeamStat_canonical (orphanPeer_canonical h)

theorem noteEpoch_canonical {e : Word} (h : Canonical s) : Canonical (noteEpoch d e s) := by
  unfold noteEpoch
  split
  · exact h.same rfl
  · exact .ite h (losePeer_canonical (h.same rfl))

theorem takeRoll_canonical {e : RollEntry} (h : Canonical s) : Canonical (takeRoll p e s) := by
  unfold takeRoll
  refine .ite (.ite h (raiseFault_canonical (h.same rfl))) ?_
  exact .unless (noteEpoch_canonical h) (Canonical.frame (modSeam _))

theorem ageRoll_canonical (h : Canonical s) : Canonical (ageRoll s) := h.same rfl

/-! ### The gang -/

theorem breakGang_canonical {kind3 : Bool} (h : Canonical s) : Canonical (breakGang kind3 s) := by
  unfold breakGang
  refine .ite (.frame stopUnformed (.when (h.same rfl) setSeamStat_canonical)) (h.same rfl)

theorem stepGang_canonical (h : Canonical s) : Canonical (stepGang s) := by
  unfold stepGang
  refine .ite (.frame (modSeam _) ?ht) (.ite (.when ?hu breakGang_canonical)
    (.ite (setSeamStat_canonical (.frame (modSeam _) ?hu)) (.frame stopUnformed ?hu)))
  · exact h.same rfl
  · exact .frame (modSeam _) (h.same rfl)

theorem gangStale_canonical (h : Canonical s) : Canonical (gangStale s) := .ite (breakGang_canonical h) h

theorem sendAlert_canonical {a : BitVec 8 × AlertKind} {skip : Option (Fin 4)} (h : Canonical s) :
    Canonical (sendAlert a skip s) :=
  .ite h (.forEach (h.same rfl) fun _ _ => modPort_canonical)

theorem alertTrip_canonical (h : Canonical s) : Canonical (alertTrip s) := .ite (sendAlert_canonical h) h

theorem stepAlerts_canonical (h : Canonical s) : Canonical (stepAlerts s) := by
  unfold stepAlerts
  refine .frame (modSeam _) (.when (.when (alertTrip_canonical ?_) sendAlert_canonical) sendAlert_canonical)
  exact h.same rfl

theorem alertReceived_canonical {g : BitVec 8} {a : AlertKind} (h : Canonical s) :
    Canonical (alertReceived p g a s) := by
  unfold alertReceived
  have hs : Canonical (sendAlert (g, a) (some p) (modPort p (fun q => { q with alerts := q.alerts + 1 }) s)) :=
    sendAlert_canonical (modPort_canonical h)
  exact .ite h (.ite (breakGang_canonical (.when hs (Canonical.frame (modSeam _)))) hs)

/-! ### Cycles -/

theorem stepSub_canonical (h : Canonical s) : Canonical (stepSub k s) := .ite (.ite (h.same rfl) (h.same rfl)) h

theorem stepPub_canonical (h : Canonical s) : Canonical (stepPub q s) := by
  unfold stepPub
  have hunsent : Canonical (modSeam (fun m => { m with pubs := m.pubs.set q { m.pubs[q] with loaded := false } }) s) :=
    h.same rfl
  dsimp only
  split
  · exact hunsent
  · refine .ite hunsent (.frame (modSeam _) (.frame (modSeam _) ?_))
    exact .unless h publish_canonical

theorem turnSamples_canonical (h : Canonical s) : Canonical (turnSamples s) := h.same rfl

theorem sentMessage_canonical (h : Canonical s) : Canonical (sentMessage m s) := .ite (h.same rfl) h

theorem sendFrame_canonical (h : Canonical s) : Canonical (sendFrame p s) := by
  unfold sendFrame
  refine .ite (modPort_canonical h) ?_
  dsimp only
  split
  · exact sentMessage_canonical (modPort_canonical h)
  · exact modPort_canonical h

theorem seamCycleStart_canonical (h : Canonical s) : Canonical (seamCycleStart s) := by
  unfold seamCycleStart
  refine .ite h (.forEach (.frame (modSeam _) (.forEach (.when ?_ ageRoll_canonical) fun _ _ => sendFrame_canonical))
    fun _ _ => reselect_canonical)
  refine .forEach (turnSamples_canonical (stepAlerts_canonical (stepGang_canonical ?_))) fun _ _ => stepPub_canonical
  exact .frame (modSeam _) (.forEach (stepTree_canonical (h.same rfl)) fun _ _ => stepSub_canonical)

theorem seamSwapped_canonical (h : Canonical s) : Canonical (seamSwapped old s) := by
  unfold seamSwapped
  refine setPortRoles_canonical (.frame stopUnformed (.when (.unless ?_ (Canonical.frame (modSeam _)))
    fun hs => .frame (modSeam _) (.when hs setSeamStat_canonical)))
  refine .forEach (.forEach (.forEach h fun _ _ hu => ?_) fun _ _ hu => ?_) fun _ _ hu => ?_
  · exact .unless hu modPort_canonical
  · exact .when hu fun hu => hu.same rfl
  · exact .unless hu fun hu => hu.same rfl

/-! ### Messages -/

theorem enqueue_canonical (h : Canonical s) : Canonical (enqueue p m s) :=
  .ite (setSeamStat_canonical h) (modPort_canonical h)

theorem sendOutbox_canonical (h : Canonical s) : Canonical (sendOutbox s) := by
  unfold sendOutbox
  refine .ite h ?_
  split
  · exact setSeamStat_canonical h
  · exact .ite (setSeamStat_canonical h) (.frame (modSeam _) (.forEach h fun _ _ => enqueue_canonical))

/-- A message arrives in an empty inbox, written from its first word on. -/
theorem fillInbox_canonical (h : Canonical s) : Canonical (fillInbox m s) := by
  have hin : WordMem.wf (WordMem.putList [] 0 (msgWords m)) := WordMem.wf_putList WordMem.wf_nil
  unfold fillInbox
  generalize WordMem.putList [] 0 (msgWords m) = box at hin ⊢
  exact .ite (setSeamStat_canonical h) (setSeamStat_canonical { h with inbox := hin })

theorem releaseInbox_canonical (h : Canonical s) : Canonical (releaseInbox s) := h.same rfl

theorem sendResponse_canonical (h : Canonical s) : Canonical (sendResponse p m s) := .ite (enqueue_canonical h) h

theorem refuseMsg_canonical {st : MsgStatus} (h : Canonical s) : Canonical (refuseMsg p m st s) :=
  sendResponse_canonical h

theorem relayNote_canonical (h : Canonical s) : Canonical (relayNote p m s) :=
  .ite h (.forEach h fun _ _ => enqueue_canonical)

theorem relayOn_canonical (h : Canonical s) : Canonical (relayOn p m s) := by
  unfold relayOn
  refine .ite h ?_
  split
  · exact enqueue_canonical h
  · exact .ite (refuseMsg_canonical h) h

theorem refuseFormat_canonical {r : Option Msg} (h : Canonical s) : Canonical (refuseFormat p r s) := by
  unfold refuseFormat
  split
  · exact .ite (refuseMsg_canonical h) h
  · exact h

theorem takeSlots_canonical {l : List AngleSlot} (h : Canonical s) : Canonical (l.foldl (takeSlot p) s) := by
  induction l generalizing s with
  | nil => exact h
  | cons x xs ih =>
    rw [List.foldl_cons]
    exact ih (takeSlot_canonical h)

theorem frameReceived_canonical {rx : RxFrame} (h : Canonical s) : Canonical (frameReceived p rx s) := by
  unfold frameReceived
  refine .ite h (.ite (badFrame_canonical h) (.ite (refuseFormat_canonical h) (.unless ?_ fun hs => ?_)))
  · exact setPortRoles_canonical (takeTimeBlock_canonical (takeTreeBlock_canonical h))
  · split
    · exact takeRoll_canonical (takeSlots_canonical hs)
    · exact takeSlots_canonical hs

end Sys2Proof.Machine
end

section
/-! SUPPORT. Windows, registers, commit, the host port and the messages of peers keep the memories canonical (02, 03,
07, 15). -/

set_option Elab.async false

namespace Sys2Proof.Machine

variable {s : State} {n : Fin 8} {p : Fin 4} {a i : Nat} {d : Word} {who : Party} {sel : WinSel} {m : Msg}
  {armed : Option KeyClass} {verified : Bool} {k : Fin 4}

/-! ### Words of the spaces -/

theorem putLive_canonical (h : Canonical s) : Canonical (putLive i a d s) := by
  obtain ⟨hshadow, hrunning, hpending, hlive, hadv⟩ := h.cfg
  exact { h with cfg := ⟨hshadow, hrunning, hpending, WordMem.wf_put hlive, hadv⟩ }

theorem putShadow_canonical (h : Canonical s) : Canonical (putShadow i a d s) := by
  obtain ⟨hshadow, hrunning, hpending, hlive, hadv⟩ := h.cfg
  exact { h with cfg := ⟨WordMem.wf_put hshadow, hrunning, hpending, hlive, hadv⟩ }

theorem spaceReadEffect_canonical (h : Canonical s) : Canonical (spaceReadEffect i a s) := by
  unfold spaceReadEffect
  split
  · exact h.same
  · exact .ite (putRes_canonical h) h
  · split
    · exact h.same rfl
    · split
      · exact modPort_canonical h
      · exact h
  · exact h.same
  · exact h

theorem spaceWrite_canonical (h : Canonical s) : Canonical (spaceWrite who i a d s) := by
  unfold spaceWrite
  refine .ite (putShadow_canonical h) ?_
  split
  · exact .frame (writeFine _ _) (putLive_canonical h)
  · exact writeCoef_canonical h
  · exact .ite (.frame (writePinData _ _) (putLive_canonical h)) h
  · refine .ite { h with outbox := WordMem.wf_put h.outbox } ?_
    have hs := putLive_canonical (i := 0x0A) (a := a) (d := d) h
    exact .ite (sendOutbox_canonical hs) (.ite (releaseInbox_canonical hs) hs)
  · exact .frame (fbWrite _ _ _) (putLive_canonical h)
  · exact .ite (proofRequest_canonical h) (.ite h.same h)
  · exact h

/-! ### Windows -/

theorem modSession_canonical {f : Session → Session} (h : Canonical s) (hf : (f s.seam.sess[k]).win.pairHi.wf) :
    Canonical (modSession k f s) := by
  refine modSeam_canonical h h.outbox h.inbox fun j => ?_
  simp only [Fin.getElem_fin, Vector.getElem_set]
  split
  · exact hf
  · exact h.sess j

theorem windowOf_wf (h : Canonical s) : (windowOf s sel).pairHi.wf := by
  cases sel with
  | port j => exact h.win j
  | session j => exact h.sess j

theorem modWindow_canonical {f : Window → Window} (h : Canonical s) (hf : (f (windowOf s sel)).pairHi.wf) :
    Canonical (modWindow sel f s) := by
  cases sel with
  | port j =>
    refine { h with win := fun i => ?_ }
    simp only [modWindow, Fin.getElem_fin, Vector.getElem_set]
    split
    · exact hf
    · exact h.win i
  | session j => exact modSession_canonical (f := fun x => { x with win := f x.win }) h hf

@[simp] theorem Window.fetch_pairHi (w : Window) : w.fetch.pairHi = w.pairHi := by
  unfold Window.fetch
  split <;> rfl

@[simp] theorem Window.advance_pairHi (w : Window) : w.advance.pairHi = w.pairHi := by
  simp [Window.advance]

@[simp] theorem Window.writeAddr_pairHi (w : Window) (r : WinAddrReg) : (w.writeAddr r d).pairHi = w.pairHi := by
  cases r <;> simp [Window.writeAddr, Window.relocate]

@[simp] theorem Window.writeCount_pairHi (w : Window) : (w.writeCount d).pairHi = w.pairHi := by
  unfold Window.writeCount
  split <;> simp

@[simp] theorem Window.writeCtrl_pairHi (w : Window) : (w.writeCtrl d).pairHi = w.pairHi := by
  unfold Window.writeCtrl
  split <;> rfl

/-- A read of a low word captures its high word in the window (12 R439). -/
theorem readData_canonical (h : Canonical s) : Canonical (readData sel s) := by
  unfold readData
  refine modWindow_canonical (spaceReadEffect_canonical h) ?_
  rw [Window.advance_pairHi]
  dsimp only
  split
  · exact WordMem.wf_put (windowOf_wf h)
  · exact windowOf_wf h

theorem writeData_canonical (h : Canonical s) : Canonical (writeData who sel d s) := by
  unfold writeData
  refine .ite (modWindow_canonical h ?_) (modWindow_canonical (spaceWrite_canonical h) ?_)
  · rw [Window.advance_pairHi]
    exact windowOf_wf h
  · rw [Window.advance_pairHi]
    exact windowOf_wf (spaceWrite_canonical h)

theorem fetchDone_canonical (h : Canonical s) : Canonical (fetchDone sel s) :=
  .ite (modWindow_canonical h (windowOf_wf h)) h

theorem writeDone_canonical (h : Canonical s) : Canonical (writeDone sel verified s) := by
  unfold writeDone
  split
  · exact h
  · next j w _ =>
    refine .ite h ?_
    have hs : Canonical (if j / 65536 = 0x10 then writeStaged (j % 65536) w verified s
      else writeBakWord (j % 65536) w s) := .ite (writeStaged_canonical h) (writeBakWord_canonical h)
    refine modWindow_canonical hs ?_
    rw [Window.fetch_pairHi]
    exact windowOf_wf hs

theorem windowWrite_canonical (h : Canonical s) : Canonical (windowWrite who p i d s) := by
  have hw := windowOf_wf (sel := reachWindow who p) h
  unfold windowWrite
  dsimp only
  split
  · exact modWindow_canonical h (by rwa [Window.writeAddr_pairHi])
  · exact modWindow_canonical h (by rwa [Window.writeAddr_pairHi])
  · exact modWindow_canonical h (by rwa [Window.writeAddr_pairHi])
  · exact writeData_canonical h
  · exact modWindow_canonical h (by rwa [Window.writeCount_pairHi])
  · exact modWindow_canonical h (by rwa [Window.writeCtrl_pairHi])
  · exact h

/-! ### Registers -/

theorem latchRead_canonical (h : Canonical s) : Canonical (latchRead who a s) := by
  cases who with
  | host => exact h.same rfl
  | peer => exact h.same rfl

theorem clearRead_canonical (h : Canonical s) : Canonical (clearRead a s) := by
  unfold clearRead
  refine .ite ?_ (.ite h.same ?_)
  · dsimp only
    split <;> exact h.same
  · split
    · exact h.same rfl
    · exact h.same rfl
    · exact h.same rfl
    · exact h.same rfl
    · exact h.same rfl
    · exact h.same rfl
    · exact h.same rfl
    · exact modBak_canonical h h.bak
    · exact readAlarms_canonical h
    · exact h

theorem regReadEffect_canonical (h : Canonical s) : Canonical (regReadEffect who a s) :=
  .ite (readData_canonical h) (.ite (passClock_canonical (latchRead_canonical h))
    (clearRead_canonical (latchRead_canonical h)))

theorem axisWrite_canonical (h : Canonical s) : Canonical (axisWrite n i d s) := by
  unfold axisWrite
  split
  · exact writeEnable_canonical h
  · exact h.same
  · exact h.same
  · exact h.same
  · exact h.same
  · exact requestRun_canonical h
  all_goals exact h.same

theorem commitRequest_canonical (h : Canonical s) : Canonical (commitRequest i s) := by
  unfold commitRequest
  split <;> exact h.same rfl

theorem regWrite_canonical (h : Canonical s) : Canonical (regWrite who a d s) := by
  unfold regWrite
  refine .ite (axisWrite_canonical h) (.ite (windowWrite_canonical h) (.ite h.same (.ite h.same ?_)))
  split
  · exact h.same rfl
  · exact commitRequest_canonical h
  · exact h.same
  · exact h.same rfl
  · exact .ite (hostReset_canonical h) h
  · exact putShadow_canonical h
  · exact putShadow_canonical h
  · exact putShadow_canonical h
  · exact putShadow_canonical h
  · exact ackFault_canonical h
  · exact requestTest_canonical h
  · exact storeCmd_canonical h
  · exact acknowledgeAlarms_canonical h
  · exact otpCmd_canonical h
  · exact h.same
  · exact h

theorem refusedWrite_canonical {r : Status × Nat} (h : Canonical s) : Canonical (refusedWrite armed a r s) :=
  .when (.when h otpRefused_canonical) (Canonical.frame (guardEvent _))

theorem writeAccess_canonical (h : Canonical s) : Canonical (writeAccess who armed a d s).2 := by
  unfold writeAccess
  dsimp only
  split
  · exact regWrite_canonical h
  · exact refusedWrite_canonical h

theorem readAccess_canonical (h : Canonical s) : Canonical (readAccess who a s).2.2 := by
  unfold readAccess
  dsimp only
  split
  · exact regReadEffect_canonical h
  · exact h

/-! ### Commit -/

theorem beginApply_canonical {r : FitResult} (h : Canonical s) : Canonical (beginApply r s) := by
  obtain ⟨hshadow, hrunning, hpending, hlive, hadv⟩ := h.cfg
  exact { h with cfg := ⟨hshadow, hrunning, hshadow, hlive, hadv⟩ }

theorem fitCheckDone_canonical (h : Canonical s) : Canonical (fitCheckDone s) := by
  unfold fitCheckDone
  split
  · exact .when (.frame (setSysStat 3) (h.same rfl)) beginApply_canonical
  · exact h

theorem revertDone_canonical (h : Canonical s) : Canonical (revertDone s) := by
  obtain ⟨hshadow, hrunning, hpending, hlive, hadv⟩ := h.cfg
  exact .ite { h with cfg := ⟨hrunning, hrunning, hpending, hlive, hadv⟩ } h

/-- The module takes over the words of the running configuration that belong to no axis. -/
theorem applyTable_canonical (h : Canonical s) : Canonical (applyTable s) := by
  obtain ⟨hshadow, hrunning, hpending, hlive, hadv⟩ := h.cfg
  unfold applyTable
  refine withTrips_canonical (.frame refreshVmax (seamSwapped_canonical (.frame (pinsSwapped _)
    (.frame (swapStation _) (.frame (swapTable _) ?_)))))
  have htaken : (WordMem.overlay (fun k => keyAxis k == none) s.cfg.running s.cfg.pending).wf :=
    WordMem.wf_overlay hrunning
  exact { h with cfg := ⟨hshadow, htaken, hpending, hlive, hadv⟩ }

theorem commitApply_canonical (h : Canonical s) : Canonical (commitApply s) := by
  refine .ite (wordsSwapped_canonical (finishApply_canonical (.forEach (.forEach ?_ fun _ _ => takeAxis_canonical)
    fun _ _ => reselect_canonical))) h
  exact .ite (applyTable_canonical h) h

theorem stepSeamTime_canonical (h : Canonical s) : Canonical (stepSeamTime s) := h.same rfl

theorem angleEngineStep_canonical (h : Canonical s) : Canonical (angleEngineStep s) := by
  refine .ite (alertTrip_canonical (.frame stepRunTime (stepRtc_canonical (stepSeamTime_canonical ?_)))) h
  refine .frame stepStitch (wordsSwapped_canonical (endCycleResyncs_canonical (stepAngles_canonical ?_)))
  exact .forEach (continueChains_canonical h) fun n _ hu => hu.frame (stepInput n)

/-! ### Host frames -/

theorem writeFrame_canonical {r : HostRequest} (h : Canonical s) : Canonical (writeFrame r s) := by
  unfold writeFrame
  refine .ite h.same (.frame (answer _ _ _) (.ite (.frame (setKey _) ?hs) ?hs))
  exact writeAccess_canonical h.same

theorem readFrame_canonical {r : HostRequest} (h : Canonical s) : Canonical (readFrame r s) := by
  unfold readFrame
  refine .ite h.same (.frame (answer _ _ _) (.ite (.frame (fun u => { u with
    host := { u.host with lastRd := _ } }) ?hs) ?hs))
  exact readAccess_canonical h

theorem runFrame_canonical {r : HostRequest} (h : Canonical s) : Canonical (runFrame r s) :=
  .ite h.same (.ite (writeFrame_canonical h) (readFrame_canonical h))

theorem hostFrame_canonical {r : HostRequest} (h : Canonical s) : Canonical (hostFrame r s) := by
  unfold hostFrame
  split
  · exact .frame (setOut _) (runFrame_canonical h)
  · exact .ite h.same (h.same rfl)
  · exact h.same

theorem keyExpiry_canonical {sess : Option (Fin 4)} (h : Canonical s) : Canonical (keyExpiry sess s) := by
  unfold keyExpiry
  split
  · exact .ite h.same h
  · next j => exact .ite (.frame (setSysStat 2)
      (modSession_canonical (f := fun x => { x with key := none }) h (h.sess j))) h

/-! ### Sessions of peers -/

theorem endSession_canonical (h : Canonical s) : Canonical (endSession k s) :=
  modSession_canonical (endStagingOf_canonical h) WordMem.wf_nil

theorem openSession_canonical (h : Canonical s) : Canonical (openSession p m s) := by
  unfold openSession
  split
  · exact refuseMsg_canonical h
  · exact sendResponse_canonical (modSession_canonical (endSession_canonical h) WordMem.wf_nil)

theorem closeSession_canonical (h : Canonical s) : Canonical (closeSession p m s) := by
  unfold closeSession
  split
  · exact refuseMsg_canonical h
  · exact refuseMsg_canonical (endSession_canonical h)

theorem runOp_canonical {op : DWord} (h : Canonical s) : Canonical (runOp k op s).1 := by
  have hs : Canonical (modSession k (fun x => { x with key := none }) s) := modSession_canonical h (h.sess k)
  unfold runOp
  dsimp only
  split
  · exact .when (writeAccess_canonical hs) fun ht => modSession_canonical ht (ht.sess k)
  · exact readAccess_canonical h

theorem runOps_canonical {ops : List DWord} (h : Canonical s) : Canonical (runOps k ops s).1 := by
  induction ops generalizing s with
  | nil => exact h
  | cons op ops ih => exact ih (runOp_canonical h)

theorem serveRequest_canonical (h : Canonical s) : Canonical (serveRequest p m s) := by
  unfold serveRequest
  split
  · exact refuseMsg_canonical h
  · split
    · exact sendResponse_canonical h
    · have hs := runOps_canonical (k := ‹Fin 4›) (ops := requestOps m) h
      exact sendResponse_canonical (modSession_canonical hs (hs.sess _))

theorem deliver_canonical (h : Canonical s) : Canonical (deliver p m s) :=
  .ite (.ite (fillInbox_canonical h) h) (.ite (refuseMsg_canonical h) (.ite (refuseMsg_canonical h)
    (.ite (openSession_canonical h) (.ite (closeSession_canonical h) (serveRequest_canonical h)))))

theorem hearPeer_canonical (h : Canonical s) : Canonical (hearPeer m s) := by
  have hs := noteEpoch_canonical (d := m.src) (e := m.epoch) h
  unfold hearPeer
  dsimp only
  split
  · exact modSession_canonical hs (hs.sess _)
  · exact hs

theorem arrive_canonical (h : Canonical s) : Canonical (arrive p m s) := by
  have hs := hearPeer_canonical (m := m) h
  exact .ite h (.ite (.ite (relayNote_canonical (deliver_canonical hs)) hs)
    (.ite (deliver_canonical hs) (relayOn_canonical hs)))

theorem arriveAs_canonical {kind : BitVec 8} (h : Canonical s) : Canonical (arriveAs kind p m s) :=
  .ite (arrive_canonical h) h

theorem sessionTimeout_canonical (h : Canonical s) : Canonical (sessionTimeout k s) :=
  .ite (losePeer_canonical (endSession_canonical h)) h

end Sys2Proof.Machine
end

section
/-! SUPPORT. Every command keeps the memories canonical, and so does every step (03 R112, 05 R161, 17 17.1). -/

set_option Elab.async false

namespace Sys2Proof.Machine

/-- A command answers a next state, and its memories are canonical where they were before. -/
theorem exec_canonical {s : State} (c : Instr) (h : Canonical s) : ∃ t, exec c s = .next t ∧ Canonical t := by
  cases c with
  -- the host port, and the writes and reads of a register that have a name of their own
  | registerWrite | requestCrcMismatch | clearOnRead | latchedRead | sysKeyWrite | windowAddressWrite
  | windowCountWrite | windowStop | windowDataRead | windowDataWrite | commit | check | revert | powerRequestRun
  | powerRequestStandby | powerRequestSleep | hostReset | axisEnable | axisDisable | axRunStart | axRunStop | axRunHold
  | axRunProbe | axPerWrite | axCmpWrite | axForceWrite | tripClear | fltAck | stestReq | pinDataWrite | pinMaskedWrite
  | pinLock | otpProgram | otpDataWord | otpLockWrite | otpLockRead | otpAdvance | calstore | stagingBegin
  | stagingSeal | stagingWithdraw | stagingRequest | backupAcknowledge | proofTestRequest | inspectionMark
  | feedbackPreset | coefficientPairWrite | seamOutboxSend | seamInboxRelease =>
    exact ⟨_, rfl, hostFrame_canonical h⟩
  | hostFrameAborted => exact ⟨_, rfl, h.frame frameAborted⟩
  | keyExpiry => exact ⟨_, rfl, keyExpiry_canonical h⟩
  | windowFetchDone => exact ⟨_, rfl, fetchDone_canonical h⟩
  | windowWriteDone => exact ⟨_, rfl, writeDone_canonical h⟩
  | revertDone => exact ⟨_, rfl, revertDone_canonical h⟩
  | fitCheckDone => exact ⟨_, rfl, fitCheckDone_canonical h⟩
  | commitApply => exact ⟨_, rfl, commitApply_canonical h⟩
  -- power, reset and boot
  | powerTransitionDone => exact ⟨_, rfl, powerTransitionDone_canonical h⟩
  | supplyLoss => exact ⟨_, rfl, supplyLoss_canonical h⟩
  | powerOnReset => exact ⟨_, rfl, powerOnReset_canonical h⟩
  | rstnReset => exact ⟨_, rfl, rstnReset_canonical h⟩
  | backupEnd => exact ⟨_, rfl, backupEnd_canonical h⟩
  | bootStart => exact ⟨_, rfl, bootStart_canonical h⟩
  | bootWatchTimeout => exact ⟨_, rfl, .ite (supvReset_canonical h) h⟩
  | watchdogTimeout => exact ⟨_, rfl, .ite (supvReset_canonical h) h⟩
  | watchdogEarlyService => exact ⟨_, rfl, .ite (supvReset_canonical h) h⟩
  | coreRailFault => exact ⟨_, rfl, supvReset_canonical h⟩
  | supervisorDomainCheck => exact ⟨_, rfl, .ite h (supvReset_canonical h)⟩
  | vauxHighTrip => exact ⟨_, rfl, .ite (supvTripDecision_canonical h) h⟩
  | vauxHighRelease => exact ⟨_, rfl, h.same⟩
  | temperatureTrip => exact ⟨_, rfl, .ite (supvTripDecision_canonical h) h⟩
  | temperatureRelease => exact ⟨_, rfl, .ite h.same h⟩
  | supervisorMonitorConversion =>
    exact ⟨_, rfl, .ite (.when h.same fun hs => modBak_canonical hs hs.bak) h⟩
  | stoPathCheckFail => exact ⟨_, rfl, stoPathCheckFail_canonical h⟩
  | heartbeatCheck => exact ⟨_, rfl, .ite (heartbeatCheck_canonical h) h⟩
  | testComplete =>
    refine ⟨_, rfl, .when (.when ?_ retrained_canonical) afterRecheck_canonical⟩
    exact rewatchFreed_canonical (completeTest_canonical h)
  | proofTestUnitPhaseEnd => exact ⟨_, rfl, h.frame proofUnitPhaseEnd⟩
  | proofTestStoSample => exact ⟨_, rfl, h.frame proofStoSample⟩
  | proofTestStoTimeout => exact ⟨_, rfl, h.frame proofStoTimeout⟩
  -- fuses, record store, fault log
  | otpFetchDone => exact ⟨_, rfl, h.same⟩
  | otpDataPhaseExpiry => exact ⟨_, rfl, .ite h.same h⟩
  | otpBurnDone =>
    refine ⟨_, rfl, ?_⟩
    split
    · exact .ite (hostReset_canonical (otpBurnDone_canonical h)) (takePermissions_canonical (otpBurnDone_canonical h))
    · exact otpBurnDone_canonical h
  | otpRedirectionDone =>
    refine ⟨_, rfl, ?_⟩
    have hs := fun l => otpRedirectionDone_canonical (failed := l) h
    split
    · exact .ite (hostReset_canonical (hs _)) (.ite (takePermissions_canonical (hs _)) (hs _))
    · exact hs _
  | tallyStoreWrite => exact ⟨_, rfl, tallyStoreWrite_canonical h⟩
  | runTimeIncrement => exact ⟨_, rfl, runTimeIncrement_canonical h⟩
  | bankWriteDone => exact ⟨_, rfl, bankWriteDone_canonical h⟩
  | stagingBeginDone => exact ⟨_, rfl, stagingBeginDone_canonical h⟩
  | headerWriteDone => exact ⟨_, rfl, headerWriteDone_canonical h⟩
  | stagingSessionTimeout => exact ⟨_, rfl, .ite (h.same rfl) h⟩
  | faultLogWrite => exact ⟨_, rfl, faultLogWrite_canonical h⟩
  -- the backup domain
  | vbakLowAlarm => exact ⟨_, rfl, vbakLow_canonical h⟩
  | coverAlarm => exact ⟨_, rfl, .ite (latchAlarm_canonical (passClock_canonical h)) h⟩
  | watchStrobe => exact ⟨_, rfl, watchStrobe_canonical h⟩
  | watchCarryApply => exact ⟨_, rfl, modBak_canonical h h.bak⟩
  | vbakLoss => exact ⟨_, rfl, h.same rfl⟩
  | backupDomainRestart => exact ⟨_, rfl, .ite h { h with bak := WordMem.wf_nil }⟩
  | rtcWake => exact ⟨_, rfl, rtcWake_canonical h⟩
  | wakePin => exact ⟨_, rfl, wakePin_canonical h⟩
  -- stitch lanes and carriers
  | stitchDue => exact ⟨_, rfl, stitchDue_canonical h⟩
  | stitchRearm k => exact ⟨_, rfl, h.frame (stitchRearm k)⟩
  | nop | commute | sigSet | sigClear | sigToggle | hostIrq | injOn | injOff | spacingRearm =>
    exact ⟨_, rfl, runAction_canonical h fun _ _ _ hu => hu.same⟩
  | cnvStart => exact ⟨_, rfl, runAction_canonical h fun _ _ _ => convAction_canonical⟩
  | seamPub => exact ⟨_, rfl, runAction_canonical h fun _ _ _ => publish_canonical⟩
  | carrierResync => exact ⟨_, rfl, runAction_canonical h fun _ _ _ hu => hu.frame (askResync _)⟩
  | tally => exact ⟨_, rfl, runAction_canonical h fun _ _ _ => tallyAction_canonical⟩
  | carrierPeriodStart => exact ⟨_, rfl, wordsSwapped_canonical (carrierPeriodStart_canonical h)⟩
  | angleEngineStep => exact ⟨_, rfl, angleEngineStep_canonical h⟩
  -- converters
  | triggerCompare => exact ⟨_, rfl, triggerCompare_canonical h⟩
  | sarSlotEnd => exact ⟨_, rfl, slotEnd_canonical h⟩
  | sarResultHandover => exact ⟨_, rfl, resultHandover_canonical h⟩
  | mainsTrackerSample => exact ⟨_, rfl, mainsSample_canonical h⟩
  | mainPathResult => exact ⟨_, rfl, mainPath_canonical h⟩
  | fastPathResult => exact ⟨_, rfl, fastPath_canonical h⟩
  | streamStuck => exact ⟨_, rfl, streamStuck_canonical h⟩
  -- gate channels, trips and STO
  | desatDetect => exact ⟨_, rfl, desatDetect_canonical h⟩
  | softTurnoffEnd => exact ⟨_, rfl, h.same⟩
  | supplyUndervoltage => exact ⟨_, rfl, supplyUndervoltage_canonical h⟩
  | gateSupplyRecovery => exact ⟨_, rfl, h.same rfl⟩
  | gateVoltageFault => exact ⟨_, rfl, gateVoltageFault_canonical h⟩
  | gateVoltageMismatchEnd => exact ⟨_, rfl, h.same⟩
  | channelTemperatureMeasure => exact ⟨_, rfl, channelTemperature_canonical h⟩
  | externalTripInput => exact ⟨_, rfl, externalTrip_canonical h⟩
  | externalTripInputInactive => exact ⟨_, rfl, h.same rfl⟩
  | tripSourceQuiet n => exact ⟨_, rfl, h.frame (tripSourceQuiet n)⟩
  | stoInputChange => exact ⟨_, rfl, stoInputChange_canonical h⟩
  | stoDemand => exact ⟨_, rfl, stoDemand_canonical h⟩
  | stoSingleInputTimeout => exact ⟨_, rfl, stoSingleTimeout_canonical h⟩
  | stoDiscrepancy => exact ⟨_, rfl, stoDiscrepancy_canonical h⟩
  | stoHardwarePathAct => exact ⟨_, rfl, h.same rfl⟩
  -- angles, the ladder, the probe, drive control
  | sourceOverSpeed => exact ⟨_, rfl, sourceOverSpeed_canonical h⟩
  | mainsLock m => exact ⟨_, rfl, h.frame (mainsLock m)⟩
  | mainsOutOfRange => exact ⟨_, rfl, mainsOutOfRange_canonical h⟩
  | ladderUpgrade n => exact ⟨_, rfl, h.frame (ladderUpgrade n)⟩
  | blendComplete => exact ⟨_, rfl, blendComplete_canonical h⟩
  | bemfCrossingTimeout => exact ⟨_, rfl, reselect_canonical h.same⟩
  | probeHoldExpiry => exact ⟨_, rfl, holdExpiry_canonical h⟩
  | probePulseTiming => exact ⟨_, rfl, probeTiming_canonical h⟩
  | probeAttemptEnd => exact ⟨_, rfl, probeAttemptEnd_canonical h⟩
  | brakeRelease n => exact ⟨_, rfl, h.frame (brakeReleased n)⟩
  | brakeTimeEnd n => exact ⟨_, rfl, h.frame (brakeTimeEnd n)⟩
  | commandInputEdge n period high => exact ⟨_, rfl, h.frame (commandEdge n period high)⟩
  | commandLoss => exact ⟨_, rfl, commandLoss_canonical h⟩
  | commandRestore => exact ⟨_, rfl, .ite h h.same⟩
  | lockedRotor => exact ⟨_, rfl, lockedRotor_canonical h⟩
  -- feedback and pins
  | quadEdge =>
    exact ⟨_, rfl, .ite (reselect_canonical (watchFollow_canonical (quadEdge_canonical h))) h⟩
  | indexEvent x => exact ⟨_, rfl, h.frame (indexEvent x.itf x.z)⟩
  | hitPulseEnd => exact ⟨_, rfl, h.same⟩
  | countWindowEnd n => exact ⟨_, rfl, h.frame (countWindowEnd n)⟩
  | speedZeroTimeout => exact ⟨_, rfl, .ite h.same h⟩
  | lineFault => exact ⟨_, rfl, .ite (.forEach (lineFault_canonical h) fun _ _ => reselect_canonical) h⟩
  | lineFaultClear => exact ⟨_, rfl, h.same rfl⟩
  | pinInputChange b l => exact ⟨_, rfl, h.frame (pinInputChange b l)⟩
  | firmwareSignalUpdate =>
    simp only [exec, execFirmwareSignalUpdate]
    split
    · exact ⟨_, rfl, h.same rfl⟩
    · exact ⟨_, rfl, h⟩
  -- the Seam link
  | seamCycleStart => exact ⟨_, rfl, seamCycleStart_canonical h⟩
  | gangStaleTimeout => exact ⟨_, rfl, gangStale_canonical h⟩
  | seamLinkUp => exact ⟨_, rfl, linkUp_canonical h⟩
  | seamLinkDown => exact ⟨_, rfl, linkDown_canonical h⟩
  | seamFrameReceived => exact ⟨_, rfl, frameReceived_canonical h⟩
  | seamAlertReceived => exact ⟨_, rfl, alertReceived_canonical h⟩
  | openMsg | closeMsg | request | response | note => exact ⟨_, rfl, arriveAs_canonical h⟩
  | messageRelay => exact ⟨_, rfl, arrive_canonical h⟩
  | sessionTimeout => exact ⟨_, rfl, sessionTimeout_canonical h⟩

theorem step_canonical {s t : State} (h : Canonical s) (hstep : step s = .next t) : Canonical t := by
  unfold step at hstep
  split at hstep
  · cases hstep
    exact h
  · next c rest _ =>
    have hq : Canonical { s with pending := rest } := h.same rfl
    obtain ⟨u, hexec, hu⟩ := exec_canonical c hq
    rw [hexec] at hstep
    cases hstep
    exact hu

/-- Settles O3: `Canonical` is `memoriesWf`, and each command of the table keeps it. -/
theorem stepsKeepMemoriesCanonical : Obligations.StepsKeepMemoriesCanonical := fun _ _ h hstep =>
  canonical_iff.1 (step_canonical (canonical_iff.2 h) hstep)

end Sys2Proof.Machine
end

section
/-! SUPPORT. An edge that gives the rotor ladder a rung: the rotor angle moves with it (06 R206, 11 R385), and so the
sources are a part of the state that a sample of A and B can change. -/

namespace Sys2Proof.Machine

/-- A sample at an enabled interface counts, the movement watch follows, and the ladder selects again. -/
theorem exec_quadEdge_of_fbOn {s : State} {n : Fin 8} {ab : AbSample} {sub : Nat} (h : fbOn s n = true) :
    exec (.quadEdge n ab sub) s = .next (reselect n (watchFollow s n (quadEdge n ab sub s))) := by
  show execQuadEdge n ab sub s = _
  simp [execQuadEdge, h]

/-- The words of axis 0 with its encoder as the only rung (FB_EN, ENC_EN, ENC_CPR 4,096, one pole pair, ENC_OFS 0x4000,
VALID), and QA 0 and QB 0 routed to pins 0 and 1. -/
def encoderWords : List (Nat × Word) :=
  [(cfgKey 2 0x80, 1), (cfgKey 2 0x89, 4096), (cfgKey 2 0x8B, 1), (cfgKey 2 0x8C, 0x4000), (cfgKey 2 0x8D, 1),
    (cfgKey 2 0xC0, 1), (cfgKey 9 0x200, 0x80), (cfgKey 9 0x208, 0x81)]

/-- Axis 0 probes, its ladder without an active rung: of the 256 edges that its encoder owes since its latest error (06
Table 6.3), one is missing. -/
def oneEdgeShort : State :=
  modAxis 0 (fun a => { a with st := .probe, enc := { a.enc with sinceError := some 255 } })
    { State.reset with
      cfg := { resetConfig with running := resetConfig.running.putCells encoderWords }
      boot := { resetBoot with setup := resetBoot.setup.put 0x10 1 } }

/-- A rises: the first step of Table 12.1. -/
def risingA : AbSample := { a := true, b := false }

theorem oneEdgeShort_counts : fbOn oneEdgeShort 0 = true ∧ fbTesting oneEdgeShort 0 = false := by decide +kernel

/-- Before the edge no rung qualifies, and the rotor angle is 0. -/
theorem oneEdgeShort_rotor : bestRung oneEdgeShort 0 = .none ∧ oneEdgeShort.src[rotorSrc 0].angle = 0 := by
  decide +kernel

/-- With the edge the encoder qualifies, becomes the active rung, and its angle ENC_OFS is taken at once. -/
theorem reselect_takes_encoder_angle :
    let t := reselect 0 (watchFollow oneEdgeShort 0 (quadEdge 0 risingA 0 oneEdgeShort))
    t.axes[(0 : Fin 8)].ladder.active = .enc ∧ t.src[rotorSrc 0].angle = 0x40000000 := by decide +kernel

/-- Refutes O58: its first clause lets a counted edge change only the interfaces, the axes, the backup domain, the
faults, the store and the converters, but the edge that completes the encoder's window of 256 makes the encoder the
active rung of a running ladder, and the rotor angle among the sources moves to that rung's angle in the same step. -/
theorem not_edgesAreCounted : ¬ Obligations.EdgesAreCounted := by
  unfold Obligations.EdgesAreCounted
  rintro ⟨hedge, -⟩
  obtain ⟨hon, htest⟩ := oneEdgeShort_counts
  obtain ⟨hcounts, -⟩ := hedge 0 risingA 0 oneEdgeShort hon
  obtain ⟨t, -, hexec, hframe, -⟩ := hcounts (by decide +kernel) (by decide +kernel) htest
  have hkept : t.src = oneEdgeShort.src := (congrArg State.src hframe).trans rfl
  rw [exec_quadEdge_of_fbOn hon] at hexec
  obtain rfl := Host.Outcome.next.inj hexec
  obtain ⟨-, hmoved⟩ := reselect_takes_encoder_angle
  obtain ⟨-, hzero⟩ := oneEdgeShort_rotor
  rw [hkept, hzero] at hmoved
  exact absurd hmoved (by decide)

end Sys2Proof.Machine
end
